-- ==== Sys2Proof/Word.lean ====
section
/-! DEFINITION. The words of the Tyvon 8800: bytes, lanes, 64-bit registers and the 64-bit instruction word. -/

namespace Sys2Proof

/-- One byte of memory. -/
abbrev Byte := BitVec 8
/-- One lane-register, 32 bits (05 R107). -/
abbrev Lane := BitVec 32
/-- One scalar register, mask register, address or control word: 64 bits. -/
abbrev Word := BitVec 64
/-- Bits [55:0] of an instruction word, everything but its opcode (06 R131). -/
abbrev Rest := BitVec 56

end Sys2Proof
end

