-- ==== Sys2Proof/Machine/TCmd.lean ====
section
/-! DEFINITION. Operands of commands: where a group runs (05 R107), packets and frames (16 R341), mailbox requests
(21 R466), and what the physical and cryptographic units find (DESIGN CHOICE, log entry 3). -/

namespace Sys2Proof.Machine

/-- A group of a core: the global core slot, die × 108 + cluster × 9 + slot, and the group slot (01 R15, 05 R107). -/
structure CoreAt where
  core : Nat
  grp : Nat
  deriving DecidableEq, Repr

/-- A group wherever it stands, running or saved: its context, its block's launch entry and number, and its number in
the block. -/
structure GroupId where
  ctx : Nat
  entry : Nat := 0
  block : Nat := 0
  num : Nat := 0
  deriving DecidableEq, Repr

/-- A store or an atomic that not everyone need see yet: its bytes in memory, or in the scratch of its context, what stood
there before, its scope code or 6 for a store, and who made it (05 R126; 11 R254, R255, R258).
(DESIGN CHOICE, log entry 22.) -/
structure Mark where
  scr : Bool := false
  key : Nat := 0
  size : Nat := 0
  scope : Nat := 6
  core : Nat := 0
  who : GroupId := { ctx := 0 }
  old : List Byte := []
  /-- one more than the widest scope at which its group has released since; 0 before; 7 for a write that everyone sees (11 R254) -/
  rel : Nat := 0
  /-- the groups whose acquires have met that release (11 R255) -/
  seen : List GroupId := []
  /-- where the value that an atomic returned stands: register, registers, lane, and the value (05 R126) -/
  ret : Option (Nat × Nat × Nat × Nat) := none
  deriving DecidableEq, Repr

/-- The two verdicts on a trailer of 02 R44.
(DESIGN CHOICE, log entry 3.) -/
structure Sigs where
  ecdsa : Bool := false
  lms : Bool := false
  deriving DecidableEq, Repr

/-- A packet of the berth transport as it arrives: interface (port × 2 + half), source address and UDP port, header,
body after decryption, and whether its tag verifies under the key of session CONN (16 R341, R342); for OPEN_REQ, whether
SIG_T verifies (16 R344).
(DESIGN CHOICE, log entry 3.) -/
structure Packet where
  iface : Nat := 0
  peer : List Byte := []
  ip6 : Bool := true
  ver : Nat := 1
  conn : Nat := 0
  seq : Nat := 0
  body : List Byte := []
  authentic : Bool := true
  deriving DecidableEq, Repr

/-- A mailbox request (21 R466): TAG, whether the reserved header fields are zero, the body, the bytes that the device's
DMA reads at the host address of the body (none where it cannot be read), and whether the host address for outputs can
be written. -/
structure MbxReq where
  tag : Nat := 0
  clean : Bool := true
  body : List Byte := []
  dma : Option (List Byte) := none
  dmaOut : Bool := true
  deriving DecidableEq, Repr

/-- What boot finds of the silicon (21 R459): the die of a gangway lane that fails training, the pseudo-channels that
fail training, the LPDDR5X packages that train with their GiB, the core slots that fail self-test, the arrays repaired by
self-test as (cluster, count), and whether the entropy source passes its health tests.
(DESIGN CHOICE, log entry 3.) -/
structure BootReport where
  laneFail : Option Nat := none
  pcFails : List Nat := []
  packages : List (Nat × Nat) := []
  slotFails : List Nat := []
  arrays : List (Nat × Nat) := []
  entropyOk : Bool := true
  deriving DecidableEq, Repr

/-- What a self-test finds in a cluster (17 R362): the core slots (0–8) that fail, and the rows and columns repaired.
(DESIGN CHOICE, log entry 3.) -/
structure TestReport where
  failing : List Nat := []
  arrays : Nat := 0
  deriving DecidableEq, Repr

/-- The power figures of a die, in 1/16 W: the static term and the dynamic terms of the classes (18 R395), and its
hottest junction sensor in °C.
(DESIGN CHOICE, log entry 3.) -/
structure PowerFig where
  stat : Nat := 0
  bulk : Nat := 0
  std : Nat := 0
  asr : Nat := 0
  tj : Nat := 0
  deriving DecidableEq, Repr

/-- Where a parity error is found (17 R371). -/
inductive ParityAt where
  /-- L1 cache, cluster cache line held SHARED, clean LLC sector: a good copy below; the die that counts it -/
  | copyBelow (die : Nat)
  /-- a memory controller's buffer on read data -/
  | readBuffer (dpa : Nat)
  /-- a dirty LLC sector or OWNED line, on read: the consumer's context -/
  | dirtyRead (die dpa ctx : Nat)
  /-- a dirty LLC sector at eviction or flush -/
  | dirtyEvict (die dpa : Nat)
  /-- a scratch bank: the consumer's context and the cluster -/
  | scratch (cluster ctx : Nat)
  /-- write data entering a memory controller -/
  | writeData (dpa : Nat)
  /-- a network flit, gangway or seam FIFO: the context that sent or would consume it -/
  | flit (die ctx : Nat)
  /-- a coherence flit of a line -/
  | cohFlit (die dpa : Nat)
  /-- data read for a partner through an export entry: the port and the tag of its request -/
  | exported (port tag dpa : Nat)
  /-- steward-domain data -/
  | steward (die : Nat)
  deriving DecidableEq, Repr

/-- Who reads a place when its read is uncorrectable (12 R263). -/
inductive Reader where
  | consumer (ctx : Nat)
  | prefetch
  | merge
  deriving DecidableEq, Repr

/-- A flit as it is received, with a CRC that matches: its TYPE, SEQ, ACK_SEQ and flags, whether its tag verifies, its body
after decryption, and the codewords that FEC corrected in it (15 R325, R326).
(DESIGN CHOICE, log entry 3.) -/
structure FlitIn where
  ty : Nat := 1
  seq : Nat := 0
  ack : Nat := 0
  epoch : Bool := false
  allstop : Bool := false
  nak : Bool := false
  tagOk : Bool := true
  corrected : Nat := 0
  body : List Byte := []
  deriving DecidableEq, Repr

/-- A frame that reaches an Ethernet interface, with whether its frame check sequence holds (16 R339).
(DESIGN CHOICE, log entry 3.) -/
structure RxFrame where
  bytes : List Byte := []
  fcsOk : Bool := true
  deriving DecidableEq, Repr

/-- A lane marker: lane number, port, and the first 8 bytes of the sender's identity digest (15 R321). -/
structure Marker where
  lane : Nat := 0
  port : Nat := 0
  digest : Word := 0
  deriving DecidableEq, Repr

end Sys2Proof.Machine
end

