-- ==== Sys2Proof/Machine/Table.lean ====
section
/-! DEFINITION. Sparse tables in one canonical form: keys strictly rising, no entry equal to the default.
Register banks, memory, berths, cores and every other numbered family of the State are tables. -/

namespace Sys2Proof.Machine

/-- A sparse table: what an unlisted key reads as is the default its reader names. -/
abbrev Tbl (α : Type) := List (Nat × α)

/-- The entry at a key, or the default. -/
def tget {α : Type} (d : α) : Tbl α → Nat → α
  | [], _ => d
  | (j, x) :: t, i => if j = i then x else tget d t i

/-- The table without the entry at a key. -/
def terase {α : Type} (t : Tbl α) (i : Nat) : Tbl α := t.filter fun p => p.1 != i

/-- An entry put in its place among rising keys. -/
def tinsert {α : Type} (i : Nat) (x : α) : Tbl α → Tbl α
  | [] => [(i, x)]
  | (j, y) :: t => if i < j then (i, x) :: (j, y) :: t else (j, y) :: tinsert i x t

/-- The table with a new entry at a key; writing the default removes the entry. -/
def tset {α : Type} [DecidableEq α] (d : α) (t : Tbl α) (i : Nat) (x : α) : Tbl α :=
  if x = d then terase t i else tinsert i x (terase t i)

/-- The table with the entry at a key changed by a function. -/
def tmod {α : Type} [DecidableEq α] (d : α) (t : Tbl α) (i : Nat) (f : α → α) : Tbl α :=
  tset d t i (f (tget d t i))

/-- The keys rise strictly from `lo` on. -/
def tsorted {α : Type} : Nat → Tbl α → Bool
  | _, [] => true
  | lo, (j, _) :: t => decide (lo ≤ j) && tsorted (j + 1) t

/-- The canonical form: keys strictly rising and no entry equal to the default. -/
def Tbl.wf {α : Type} [DecidableEq α] (d : α) (t : Tbl α) : Bool :=
  tsorted 0 t && t.all fun p => p.2 != d

/-- The keys a table lists. -/
def tkeys {α : Type} (t : Tbl α) : List Nat := t.map Prod.fst

end Sys2Proof.Machine
end

