-- ==== Sys2Proof/Machine/TMem.lean ====
section
/-! DEFINITION. The unified cache, its directory, the stacks and the capacity tier (10 R224 to R247, 12 R262 to
R279). -/

namespace Sys2Proof.Machine

/-- An atomic or reduction operation on 4 or 8 bytes (05 R124, 06 R144, 10 R238). -/
inductive Rmw where
  | add | fadd
  | min (sx : Bool) | max (sx : Bool)
  | and | or | xor | exch | cas
  deriving DecidableEq, Repr

/-- The coherence requests (10 R230). -/
inductive ReqKind where
  | rd | rdo | upg | own | wb | nrd | nwr | atm | red
  deriving DecidableEq, Repr

/-- A request at its home slice: its kind, its line, the requester (0–95 cluster caches, 96–127 set engines, 128 and
129 the engines of XD0 and XD1, 130–161 steward cores, 200–967 the fetchers of the cores, 1,000–1,063 ports), its bytes under
a mask, or its operation and operands (10 R230, R234). -/
structure CohReq where
  kind : ReqKind := .rd
  line : Nat := 0
  who : Nat := 0
  mask : BitVec 128 := 0
  data : List Byte := []
  op : Rmw := .add
  off : Nat := 0
  bytes : Nat := 4
  arg : Nat := 0
  cmp : Nat := 0
  nacks : Nat := 0
  /-- the context that the request is made for, if any -/
  ctx : Option Nat := none
  /-- the data of a read is kept: no INV has met it while it was outstanding (10 R237) -/
  keep : Bool := true
  deriving DecidableEq, Repr

/-- Directory states (10 R229); BUSY is a transaction in progress. -/
inductive Dir where
  | uncached | shared | owned
  deriving DecidableEq, Repr

/-- A transaction on a line: its request, the acknowledgements and replies it still waits for, and whether an upgrade by a
recorded sharer ends in an ACK (10 R231). -/
structure Txn where
  req : CohReq := {}
  waits : Nat := 0
  ackOnly : Bool := false
  /-- the line is being evicted to give its way to the request (10 R227, R237) -/
  evict : Bool := false
  deriving DecidableEq, Repr

/-- An LLC line with its directory entry (10 R224, R229, R239). `valid` and `dirty` have one bit a byte; a sector is
valid where its 32 bits are set, partial where some are, invalid where none is. -/
structure Line where
  present : Bool := false
  /-- its way in its set -/
  way : Nat := 0
  valid : BitVec 128 := 0
  dirty : BitVec 128 := 0
  pin : Option Nat := none
  dir : Dir := .uncached
  ptrs : List Nat := []
  overflow : Bool := false
  /-- the requester that holds the priority mark (10 R235) -/
  prio : Option Nat := none
  busy : Option Txn := none
  /-- pending reductions, oldest first (10 R239) -/
  pend : List CohReq := []
  /-- the line is being filled from memory, for its transaction or its pending reductions -/
  filling : Bool := false
  deriving DecidableEq, Repr

/-- A cluster cache's copy of a line (10 R229, R232): owned or shared, its valid bytes and its dirty bytes. -/
structure Copy where
  held : Bool := false
  owned : Bool := false
  valid : BitVec 128 := 0
  dirty : BitVec 128 := 0
  deriving DecidableEq, Repr

/-- What a cluster keeps of a reply: nothing, a shared copy, an owned one, an owned one without data, or its own copy
upgraded (10 R230, R231). -/
inductive Keep where
  | nothing | shared | owned | empty | upgrade
  deriving DecidableEq, Repr

/-- VC0 messages in flight between slices, ports and clusters (10 R230). -/
inductive CohMsg where
  | fwdS (line owner : Nat)
  | fwdX (line owner : Nat)
  | inv (line cluster : Nat)
  /-- a reply to the slice: of an owner or of an invalidated cluster; whether the owner has served the requester itself,
  and the bytes it writes back -/
  | toSlice (line src : Nat) (fwd sent : Bool) (dirty : BitVec 128)
  /-- a reply to the requester: DATA, or ACK with no bytes, and the dirty bytes that pass to it -/
  | toReq (line who : Nat) (keep : Keep) (data : List Byte) (dirty : BitVec 128)
  deriving DecidableEq, Repr

/-- What a memory controller completes (12 R269). -/
inductive MemWork where
  | fill | writeBack | merge | reduction
  deriving DecidableEq, Repr

/-- What the memory reports with the request that a controller completes: whether its read data was corrected, and the refresh
rate code of a capacity-tier package (12 R263, R278, R279).
(DESIGN CHOICE, log entry 3.) -/
structure MemReport where
  /-- the berth in whose VC2 the request travels, where the line's own transaction does not tell (10 R230, 12 R268) -/
  vc2 : Option Nat := none
  corrected : Bool := false
  refresh : Nat := 0
  deriving DecidableEq, Repr

/-- The registers and the intake of a slice (10 R234, R246). -/
structure Slice where
  inService : Bool := false
  /-- the slice's tag or directory failed while running (17 R373) -/
  failed : Bool := false
  lookups : Nat := 0
  misses : Nat := 0
  nacks : Nat := 0
  prioTaken : Nat := 0
  redMc : Nat := 0
  pinFail : Nat := 0
  /-- NACKed requests, in order of arrival -/
  intake : List CohReq := []
  deriving DecidableEq, Repr

/-- The DIR block of a memory-side die (10 R247), and the throttle of the die (12 R271, R272). -/
structure MdDie where
  dieOn : Nat := 0
  bcast : Nat := 0
  fwd : Nat := 0
  ovf : Nat := 0
  /-- the slice clock runs at 75% under R271 -/
  clock75 : Bool := false
  /-- the set engines issue standard and bulk requests at half rate under R271 -/
  half : Bool := false
  /-- the tick since which a stack of the die has been at level 2 or above -/
  hotSince : Option Nat := none
  /-- the tick at which the slice clock was restored, while the set engines still run at half rate (12 R272) -/
  relax : Option Nat := none
  deriving DecidableEq, Repr

/-- A stack of HBM4 (12 R262 to R272, R278). -/
structure Stack where
  state : Nat := 0
  therm : Nat := 0
  rate : Nat := 10
  sensorLost : Bool := false
  noReading : Nat := 0
  temp : Nat := 0
  mapout : Word := 0
  pcFail : Word := 0
  ce : Nat := 0
  ue : Nat := 0
  ueDpa : Nat := 0
  uePc : Nat := 0
  parity : Nat := 0
  nocredit : Nat := 0
  /-- the ticks of the last sample, and of the last one that was not 3 °C below T1, T2 and T3 (12 R271) -/
  sampled : Nat := 0
  warm : List Nat := [0, 0, 0]
  /-- the tick of the last rate step, and the rates of the frames that run, by local pseudo-channel (12 R272) -/
  stepped : Nat := 0
  frameRate : Tbl Nat := []
  deriving DecidableEq, Repr

/-- The capacity tier behind one I/O die (12 R273 to R279). -/
structure Lpx where
  state : Nat := 0
  ref : Nat := 0
  ce : Nat := 0
  ue : Nat := 0
  ueDpa : Nat := 0
  uePkg : Nat := 0
  parity : Nat := 0
  nocredit : Nat := 0
  /-- the key slots that hold a key pair: a berth's under its number, the steward domain's under 256 (12 R276) -/
  keys : Tbl (List Byte) := []
  deriving DecidableEq, Repr

end Sys2Proof.Machine
end

