-- ==== Sys2Proof/Machine/TLink.lean ====
section
/-! DEFINITION. Crossing ports: bring-up, flits, messages, requests and export entries (15 R319 to R338). -/

namespace Sys2Proof.Machine

/-- A crossing message (15 R331): its opcode, tag, address or status, size code, MS, FN and the bytes that follow. -/
structure XMsg where
  op : Nat := 0
  tag : Nat := 0
  addr : Nat := 0
  size : Nat := 0
  ms : Bool := false
  fn : Nat := 0
  body : List Byte := []
  /-- a request received before its link was lost: it is performed and its response discarded (15 R329) -/
  stale : Bool := false
  deriving DecidableEq, Repr

/-- Who waits for the response of a request sent to a partner. -/
inductive Waiter where
  /-- a group: `hold` where the instruction waits for the response; `lane` is the lane of an atomic -/
  | group (id : GroupId) (hold : Bool) (lane : Nat)
  /-- a unit of a fetcher's entry: the context, its core by position, stream slot, entry, and the unit's place in the
  entry or in the unit that holds the index (09 R214) -/
  | stream (ctx pos slot entry off : Nat)
  /-- a set engine: the descriptor by its number -/
  | engine (desc : Nat)
  /-- the I/O engine that reads a result range: the send by its number -/
  | result (send : Nat)
  /-- a WINDOW_WRITE that reaches a partner: session and packet (16 R347) -/
  | window (conn seq : Nat)
  /-- the order record of a context: no group starts before it is written (06 R161) -/
  | record
  /-- a STEP that reads its descriptor: the berth, and the command by its number (13 R289) -/
  | step (berth num : Nat)
  /-- nobody reads the response -/
  | none
  deriving DecidableEq, Repr

/-- A request to a partner: the context it is made for, its message and who waits (04 R102, 15 R332). -/
structure XReq where
  ctx : Nat := 0
  core : Nat := 0
  msg : XMsg := {}
  waiter : Waiter := .none
  /-- parked at a switch-out (04 R102) -/
  parked : Bool := false
  deriving DecidableEq, Repr

/-- A flit kept for replay: sequence number, TYPE and body (15 R326). -/
structure Flit where
  seq : Nat := 0
  ty : Nat := 1
  body : List Byte := []
  deriving DecidableEq, Repr

/-- The key exchange of a crossing port: the messages of this end and of the partner in order, the number that names this end's
ephemeral key, the keys in use for sent and received flits, and those that the next epoch takes, with the confirmation key (15
R323, R324, R327). -/
structure LinkKeys where
  sent : List (List Byte) := []
  got : List (List Byte) := []
  own : Nat := 0
  tx : List Byte := []
  rx : List Byte := []
  nextTx : List Byte := []
  nextRx : List Byte := []
  confirm : List Byte := []
  deriving DecidableEq, Repr

/-- An optical port (15 R319 to R338). -/
structure Port where
  /-- 0 off, 1 crossing, 2 800GBASE-DR8, 3 two of 400GBASE-DR4 -/
  mode : Nat := 0
  /-- 0 dark, 1 lanes, 2 identity, 3 keys, 4 up, 5 held, 6 holding for a partner in all-stop -/
  state : Nat := 0
  holdReason : Nat := 0
  light : Bool := false
  laserOk : Bool := false
  laneMap : Nat := 0
  remapped : Bool := false
  partner : Word := 0
  partnerPort : Nat := 0
  fecCe : Nat := 0
  fecUe : Nat := 0
  retry : Nat := 0
  loss : Nat := 0
  lastCause : Nat := 0
  exports : Tbl Word := []
  nextSeq : Nat := 0
  expSeq : Nat := 0
  replay : List Flit := []
  txq : List Flit := []
  nakSeq : Nat := 0
  nakCount : Nat := 0
  /-- the ticks at which the key epochs of the two directions began, and their EPOCH bits (15 R327) -/
  txSince : Nat := 0
  rxSince : Nat := 0
  txEpoch : Bool := false
  rxEpoch : Bool := false
  /-- a new key exchange runs: the tick since which it was due, and whether the partner's SHARE has been verified (15
  R327) -/
  rekey : Option Nat := none
  shareOk : Bool := false
  /-- the bring-up or rekey messages received and verified so far: 1 HELLO, 2 CHAIN, 3 SHARE, 4 FINISH; 4 while the link
  carries requests -/
  stage : Nat := 0
  /-- bytes of KEY flits not yet taken as messages, the keys, and the flit slots used in the epoch of this end (15 R323 to R325) -/
  keyRx : List Byte := []
  keys : LinkKeys := {}
  txSlots : Nat := 0
  /-- the tick at which the dark period ends (15 R328) -/
  darkEnd : Option Nat := none
  /-- the tick of the last good flit, of the last HEARTBEAT sent, and of the last change of stage or hold -/
  lastFlit : Nat := 0
  lastHb : Nat := 0
  since : Nat := 0
  rx : List Byte := []
  inq : List XMsg := []
  outbound : List XReq := []
  waitq : List XReq := []
  /-- writes of export entries that wait for the entry's requests (15 R336) -/
  exportWait : List (Nat × Word) := []
  deriving DecidableEq, Repr

/-- What an instruction has received from a partner so far: 64-byte units by DPA, and the values that the lanes'
atomics found (15 R331). -/
structure Remote where
  got : List (Nat × List Byte) := []
  vals : List (Nat × Nat) := []
  deriving DecidableEq, Repr

end Sys2Proof.Machine
end

