-- ==== Sys2Proof/Machine/TCore.lean ====
section
/-! DEFINITION. The state of a core slot: groups, blocks, tokens, the matrix unit, the accumulator and the stream
slots (05 R107 to R130, 07 R164 to R167, 09 R209 to R222, 17 R364 to R368). -/

namespace Sys2Proof.Machine

/-- One vector register: 64 lanes of 32 bits, of which a group of width g uses the first g (05 R107). -/
abbrev VReg := List Lane

/-- A vector register of zeros (06 R158). -/
def zeroVReg : VReg := List.replicate 64 0

/-- An entry of the mask stack (05 R115). -/
structure MaskEntry where
  outer : Word
  rest : Word
  reconv : Word
  deriving DecidableEq, Repr

/-- Why a group does not issue. The group's PC stays at the instruction that holds it. -/
inductive Hold where
  /-- bar.sync n: arrived, waiting for the phase to release (05 R118) -/
  | barrier (n : Nat)
  /-- bar.sync (`sync`) or bar.arrive at a barrier already arrived at in this phase (05 R119) -/
  | rearrive (n : Nat) (sync : Bool)
  /-- mwait on a token (05 R122) -/
  | token (tok : Nat)
  /-- a matrix command waits for a token slot or room (05 R123), with the scalar values read at issue -/
  | matrix (w sA sB sC : Word)
  /-- a load of WAIT of a stream slot into a scalar register (09 R216) -/
  | stream (slot rd : Nat)
  /-- a PIN_CMD written while the group's previous pin command runs (10 R242) -/
  | pinCmd (v : Word)
  /-- a load of PIN_RESULT (10 R242) -/
  | pinResult (rd : Nat)
  /-- a SES_CMD written while the previous command runs (13 R293) -/
  | sesCmd (v : Word)
  /-- a load of SES_RESULT or SES_RET (13 R293) -/
  | sesLoad (ret : Bool) (rd : Nat)
  /-- a write to SE_SUBMIT with 16 outstanding, or with the die's queue full (14 R300, R301) -/
  | seSubmit (v : Word)
  /-- a load of SE_WAIT (14 R299) -/
  | seWait (rd : Nat)
  /-- a RES_CMD written while the previous send is unread (16 R351) -/
  | resCmd (v : Word)
  /-- a load of RES_WAIT (16 R351) -/
  | resWait (rd : Nat)
  /-- an instruction with loads or atomics of a crossing aperture whose responses are outstanding (15 R331) -/
  | remote (w : Word)
  /-- a release, alone or before its store, that waits for outstanding aperture accesses (11 R254) -/
  | fence (w : Word)
  deriving DecidableEq, Repr

/-- The words of the cache, session, set-engine and result control windows that each group has a copy of
(10 R242, 13 R293, 14 R299, 16 R351). -/
structure Windows where
  pinBase : Word := 0
  pinLen : Word := 0
  /-- the pin command that runs, 1 pin, 2 unpin, and the range with which it was started -/
  pinRun : Option Nat := none
  runBase : Word := 0
  runLen : Word := 0
  pinResult : Word := 0
  arg0 : Word := 0
  arg1 : Word := 0
  /-- a session command of the group is in the allocator -/
  sesRun : Bool := false
  sesResult : Word := 0
  sesRet : Word := 0
  submitted : Nat := 0
  done : Nat := 0
  resBase : Word := 0
  resLen : Word := 0
  /-- the length of the group's last send -/
  resLast : Nat := 0
  /-- the group's last send has not been read yet -/
  resUnread : Bool := false
  deriving DecidableEq, Repr

/-- A resident group (05 R111, R114; 06 R158). -/
structure Group where
  width : Nat := 64
  /-- registers per thread, r -/
  regs : Nat := 8
  v : Tbl VReg := []
  s : Tbl Word := []
  m : Tbl Word := []
  /-- top first -/
  stack : List MaskEntry := []
  pc : Word := 0
  /-- the group's block, by the block's key on this core -/
  block : Nat := 0
  /-- group number within the block -/
  num : Nat := 0
  amax : Lane := 0
  hold : Option Hold := none
  ended : Bool := false
  win : Windows := {}
  rem : Remote := {}
  deriving DecidableEq, Repr

/-- A resident block: its launch entry, its number in the launch, its group slots, and for each named barrier the
groups that have arrived in the running phase (05 R113, R118). -/
structure Block where
  entry : Nat := 0
  num : Nat := 0
  groups : List Nat := []
  arrived : Tbl (List Nat) := []
  deriving DecidableEq, Repr

/-- A completion-token slot: its generation 0–2,046 and whether a command holds it; `used` once a command has been
issued on it (05 R122).
(DESIGN CHOICE, log entry 16.) -/
structure TokenSlot where
  gen : Nat := 0
  busy : Bool := false
  used : Bool := false
  deriving DecidableEq, Repr

/-- A command that the matrix unit has accepted (07 R164, R167, R184). -/
structure MatrixCmd where
  w : Word
  sA : Word
  sB : Word
  sC : Word
  grp : Nat
  slot : Nat
  started : Bool := false
  /-- the BVA of the instruction -/
  pc : Word := 0
  /-- the context's scratch when the command was accepted: a row that a store changes before the command completes is
  read old or new (07 R186) -/
  snap : Tbl Byte := []
  deriving DecidableEq, Repr

/-- An entry in flight: the index that a gather or tray walk has read for it, the bytes read, and the units of a partner
still awaited; `index` while the awaited unit holds the index itself (09 R212, R214). -/
structure Flight where
  entry : Nat := 0
  data : List Byte := []
  wait : Nat := 0
  index : Bool := false
  /-- a tray walk's rack as it stood when the entry began (13 R292) -/
  rack : List Nat := []
  deriving DecidableEq, Repr

/-- A stream slot (09 R209 to R217). -/
structure Stream where
  desc : Tbl Word := []
  latched : Tbl Word := []
  /-- 0 idle, 1 running, 2 done, 3 stopped, 4 waiting for followers, 5 armed as follower -/
  state : Nat := 0
  err : Nat := 0
  produced : Nat := 0
  returned : Nat := 0
  /-- entries begun -/
  begun : Nat := 0
  flight : List Flight := []
  /-- entries fully written at or above PRODUCED -/
  complete : List Nat := []
  /-- the leader's core slot, for a follower that runs -/
  leader : Option Nat := none
  /-- the followers' core slots, for a leader that runs -/
  members : List Nat := []
  deriving DecidableEq, Repr

/-- The work of a context on one core: what a checkpoint holds and what a switch-out saves (17 R365, 04 R102). -/
structure CoreWork where
  groups : Tbl (Option Group) := []
  blocks : Tbl (Option Block) := []
  /-- blocks placed on the core and not yet resident: launch entry and block number -/
  waiting : List (Nat × Nat) := []
  nextBlock : Nat := 0
  tokens : Tbl TokenSlot := []
  mq : List MatrixCmd := []
  acc : Tbl Lane := []
  streams : Tbl Stream := []
  deriving DecidableEq, Repr

/-- A core slot (05 R107, R130; 17 R358 to R368). -/
structure Core where
  /-- 0 spare, not in service; 1 active; 2 failed; 3 in self-test -/
  slotState : Nat := 0
  /-- the logical index 0–7 that the repair map binds to the slot -/
  bound : Option Nat := none
  cycles : Nat := 0
  ctx : Option Nat := none
  /-- the work of the context; on a failed slot, what its last checkpoint left to be resumed (17 R368) -/
  work : CoreWork := {}
  cause : Nat := 0
  faultGroup : Nat := 0
  faultNew : Bool := false
  faultPc : Word := 0
  /-- the core cycle of the last commit point -/
  lastCommit : Nat := 0
  /-- a commit point waits for the matrix unit (17 R365) -/
  commitDue : Bool := false
  /-- the last complete checkpoint -/
  ckpt : Option CoreWork := none
  /-- the order that ran when the checkpoint was written -/
  ckptOrder : Option Nat := none
  /-- the spare has been bound and its replay has not resumed yet (17 R367) -/
  replaying : Bool := false
  deriving DecidableEq, Repr

/-- A partition of a cluster: the banks of one resident context (09 R205, R223). -/
structure Partition where
  ctx : Nat := 0
  scrFirst : Nat := 0
  scrBanks : Nat := 0
  cacheFirst : Nat := 0
  cacheBanks : Nat := 0
  deriving DecidableEq, Repr

/-- A cluster (09 R223; 17 R359 to R363; 18 R387). -/
structure Cluster where
  asleep : Bool := true
  /-- a wake has started and not completed (01 R24) -/
  waking : Bool := false
  /-- flits that wait at the island's edge -/
  waitFlits : Nat := 0
  parts : Tbl (Option Partition) := []
  bankWait : Nat := 0
  mcHold : Nat := 0
  trayMiss : Nat := 0
  /-- ticks for which the island has been idle (18 R387) -/
  idle : Nat := 0
  /-- the self-test that runs: ticks since it began (17 R362) -/
  test : Option Nat := none
  deriving DecidableEq, Repr

end Sys2Proof.Machine
end

