-- ==== Sys2Proof/Machine/TOrder.lean ====
section
/-! DEFINITION. Orders, contexts, programs and berths (03 R63 to R80, 04 R81 to R106, 06 R157 to R163). -/

namespace Sys2Proof.Machine

/-- A kernel descriptor (06 R157). -/
structure Kernel where
  mode : Nat := 0
  width : Nat := 64
  regs : Nat := 1
  groups : Nat := 1
  blocks : Nat := 1
  entry : Nat := 0
  args : Nat := 0
  reserved : Nat := 0
  deriving DecidableEq, Repr

/-- A launch-list entry (06 R160). -/
structure Launch where
  kd : Nat := 0
  wait : Bool := false
  phase : Nat := 0
  deriving DecidableEq, Repr

/-- A quantity of a cost sheet: base and per-unit (04 R82). -/
structure Quant where
  base : Nat := 0
  per : Nat := 0
  deriving DecidableEq, Repr

/-- A phase of a cost sheet (04 R82). -/
structure Phase where
  issue : Quant := {}
  width : Quant := {}
  hbm : Quant := {}
  lpx : Quant := {}
  dep : Quant := {}
  deriving DecidableEq, Repr

/-- A cost sheet (04 R82, 06 R162). -/
structure CostSheet where
  phases : List Phase := []
  crossing : Bool := false
  egress : Quant := {}
  ws : Quant := {}
  commit : Quant := {}
  maxCycles : Quant := {}
  deriving DecidableEq, Repr

/-- A resident program: what INSTALL copies from the bake image (06 R159, R163). -/
structure Program where
  scrBanks : Nat := 1
  cacheBanks : Nat := 1
  crossContinue : Bool := false
  ctxLimit : Nat := 1
  kernels : List Kernel := []
  launches : List Launch := []
  cost : CostSheet := {}
  orderArea : Nat := 0
  deriving DecidableEq, Repr

/-- A park slot of a context that is switched out: the port, the request, and its response, or the crossing fault that ends
it (04 R102, R103). -/
structure Park where
  port : Nat := 0
  req : XReq := {}
  data : List Byte := []
  lost : Bool := false
  deriving DecidableEq, Repr

/-- A context (04 R83). -/
structure Ctx where
  berth : Nat := 0
  program : Nat := 0
  index : Nat := 0
  switchedIn : Bool := false
  /-- core slots of the context, in ascending logical core ID -/
  cores : List Nat := []
  /-- clusters of the context, by rank (09 R208) -/
  clusters : List Nat := []
  /-- the order that the context runs -/
  order : Option Nat := none
  /-- launch-list entries launched so far (06 R160) -/
  launched : Nat := 0
  /-- blocks of each launched entry that have not ended -/
  left : Tbl Nat := []
  /-- the tick at which the context was last switched in, and whether its quantum has passed since (04 R100) -/
  quantum : Nat := 0
  mayLeave : Bool := false
  /-- requests to partners not yet sent when the context was switched out: port and request (04 R102) -/
  unsent : List (Nat × XReq) := []
  /-- scratch by rank and offset: key = rank × 2 ^ 23 + offset (09 R208) -/
  scratch : Tbl Byte := []
  /-- the saved work of each core while the context is switched out -/
  saved : List CoreWork := []
  parked : List Park := []
  /-- a teardown has stopped the context's engines and its answers are not decided yet: the die, the status and the cause
  of the first that met it (17 R374, R375) -/
  stopping : Option (Nat × Nat × Nat) := none
  /-- blocks that were placed and not yet resident when the context was switched out: launch entry and block number (06
  R160) -/
  unplaced : List (Nat × Nat) := []
  /-- the program as it stood when the context was made: steward memory's copy of its tables (06 R163) -/
  prog : Option Program := none
  /-- CROSS_STATUS: the global port of the first fault (21 R463) -/
  crossFault : Option Nat := none
  dumpBase : Word := 0
  dumpLen : Word := 0
  ctxCycles : Nat := 0
  ctxStall : Nat := 0
  deriving DecidableEq, Repr

/-- An order header as it reaches the proofer (04 R81, R86, R88). -/
structure Header where
  berth : Nat := 0
  /-- the BERTH field of the header -/
  named : Nat := 0
  tag : Nat := 0
  cls : Nat := 0
  program : Nat := 0
  size : Nat := 0
  /-- BVA and length of each input window -/
  windows : List (Nat × Nat) := []
  sessions : List Nat := []
  reqSpan : Nat := 0
  arrival : Nat := 0
  port : Nat := 0
  /-- the transport session that carried the header -/
  conn : Nat := 0
  deriving DecidableEq, Repr

/-- An order that the proofer has accepted and that has no final answer yet, or whose run still executes (04 R83 to
R97). -/
structure Order where
  hdr : Header := {}
  /-- the promised tick, the target tick, or 0 (04 R87) -/
  time : Nat := 0
  /-- the booked end (04 R92) -/
  booked : Nat := 0
  revoked : Bool := false
  ctx : Nat := 0
  dispatched : Option Nat := none
  /-- the budget in cycles, counted from the dispatch, and the cycles that each die's copy has counted, by die code (04
  R95) -/
  budget : Nat := 0
  spent : Tbl Nat := []
  /-- stopping causes recorded at the proofer (00 R12, 17 R374) -/
  causes : List Nat := []
  /-- a send with RES_CMD 2 has been made (16 R352) -/
  lastMade : Bool := false
  /-- the last RESULT has left its port (00 R12) -/
  lastGone : Bool := false
  /-- bytes of the order's result stream handed to the I/O engine -/
  offset : Nat := 0
  /-- the final answer has been decided -/
  answered : Bool := false
  /-- the run has ended: every block of every entry (06 R160) -/
  runEnded : Bool := false
  /-- clusters in which a core failed while the order ran (04 R97) -/
  failedIn : List Nat := []
  deriving DecidableEq, Repr

/-- The copy of an order's budget that a die holds (04 R95). -/
def Order.copy (x : Order) (d : Nat) : Nat := x.budget - tget 0 x.spent d

/-- A page of a berth's map (03 R74): its DPA, its size (2 MiB where `big`) and its flags. -/
structure Page where
  dpa : Nat := 0
  big : Bool := false
  w : Bool := false
  x : Bool := false
  inp : Bool := false
  deriving DecidableEq, Repr

/-- A berth grant (03 R63). -/
structure Grant where
  pool : Nat := 0
  assured : Nat := 0
  stdWeight : Nat := 0
  bulkWeight : Nat := 0
  pinWays : Nat := 0
  hbmMib : Nat := 0
  lpxMib : Nat := 0
  sessions : Nat := 0
  contexts : Nat := 0
  egressWeight : Nat := 0
  ports : Word := 0
  policyRelease : Bool := false
  timeout : Nat := 0
  deriving DecidableEq, Repr

/-- The interference figures of a berth (04 R104, R105). -/
structure Ifx where
  /-- cycles during which cores ran the berth's contexts in the running interval, and those of ended intervals that have
  not been evaluated yet, by the interval's number -/
  cycles : Nat := 0
  ended : Tbl Nat := []
  index : Nat := 0
  shares : List Nat := [0, 0, 0, 0]
  valid : Bool := false
  threshold : Nat := 0
  deriving DecidableEq, Repr

/-- A berth (03 R65, R80; 04 R92, R106). -/
structure Berth where
  /-- code of "Berth states", 0 FREE to 7 DESTROYING -/
  state : Nat := 0
  admitHold : Bool := false
  disableRec : Bool := false
  grant : Grant := {}
  /-- the count of creations in which the berth's keys were derived (19 R410) -/
  createCount : Nat := 0
  /-- the tick of the last recorded heartbeat, and the reference tick L (03 R71) -/
  lastHb : Nat := 0
  refTick : Nat := 0
  /-- a heartbeat has been recorded since the reset began (03 R72) -/
  hbSinceReset : Bool := false
  /-- the ticks at which admission opened or closed, newest first (03 R66, R72) -/
  gates : List (Nat × Bool) := []
  /-- the tick at which the drain limit expires (03 R67) -/
  drainEnd : Option Nat := none
  /-- pages by BVA in units of 64 KiB; a 2 MiB page stands at its first unit (03 R74) -/
  map : Tbl (Option Page) := []
  evtPend : Word := 0
  evtMask : Word := 0
  evtCount : Tbl Nat := []
  programs : Tbl (Option Program) := []
  horizon : Nat := 0
  stdDone : Nat := 0
  stdLate : Nat := 0
  refused : Nat := 0
  ifx : Ifx := {}
  /-- the tenant key digest (16 R357) -/
  tkey : Tbl Word := []
  deriving DecidableEq, Repr

end Sys2Proof.Machine
end

