-- ==== Sys2Proof/Machine/TRegs.lean ====
section
/-! DEFINITION. The blocks of control space and where a register access goes (01 R34; 21 R465). -/

namespace Sys2Proof.Machine

/-- The blocks of a die's window (01 R34), with their number where a die holds several. -/
inductive Blk where
  | die | pwr | mon | rpr | gwy | noc | dbg
  | clu (n : Nat) | cor (slot : Nat) | stw
  | llc (slice : Nat) | dir | hbm (k : Nat) | set (e : Nat)
  | prf | bth | xpt (p : Nat) | eth | lpx | sec | aon | mft | cal | rst | ses
  deriving DecidableEq, Repr

/-- Where an access goes: an address of the device, with its number of bytes and the die of the firmware or of the security
controller that makes it (01 R3, R35), or an offset in base address register 0 of the management endpoint (21 R465). -/
inductive RegAt where
  | dpa (die addr bytes : Nat)
  | bar (off : Nat)
  deriving DecidableEq, Repr

end Sys2Proof.Machine
end

