-- ==== Sys2Proof/Syntax.lean ====
section
/-! DEFINITION. The commands of the block: one constructor per row of spec/opcode_table.json, each with the operands
that whoever sends the command chooses. -/

namespace Sys2Proof

open Sys2Proof.Machine

/-- The commands, in the order of spec/opcode_table.json. -/
inductive Instr where
  /-- VADD (R137): Vector add of VA and VB into VD for each active lane. -/
  | vadd (c : CoreAt) (w : Rest)
  /-- VSUB (R137): Vector subtract of VB from VA into VD for each active lane. -/
  | vsub (c : CoreAt) (w : Rest)
  /-- VMUL (R137): Vector multiply, low 32 bits or saturated for integers. -/
  | vmul (c : CoreAt) (w : Rest)
  /-- VFMA (R137): Vector fused multiply-add a×b+c with one rounding for floats. -/
  | vfma (c : CoreAt) (w : Rest)
  /-- VMIN (R137): Vector minimum, returning the non-NaN operand when one is NaN. -/
  | vmin (c : CoreAt) (w : Rest)
  /-- VMAX (R137): Vector maximum, returning the non-NaN operand when one is NaN. -/
  | vmax (c : CoreAt) (w : Rest)
  /-- VAND (R137): Vector bitwise and. -/
  | vand (c : CoreAt) (w : Rest)
  /-- VOR (R137): Vector bitwise or. -/
  | vor (c : CoreAt) (w : Rest)
  /-- VXOR (R137): Vector bitwise exclusive or. -/
  | vxor (c : CoreAt) (w : Rest)
  /-- VSHL (R137): Vector left shift by b[4:0]. -/
  | vshl (c : CoreAt) (w : Rest)
  /-- VSHR (R137): Vector right shift, logical for u32 and arithmetic for s32. -/
  | vshr (c : CoreAt) (w : Rest)
  /-- VSEL (R137): Vector select of a or b by the bit of a mask register. -/
  | vsel (c : CoreAt) (w : Rest)
  /-- VSHFL (R137): Vector shuffle reading VA from lane b mod g. -/
  | vshfl (c : CoreAt) (w : Rest)
  /-- VCMP (R139): Vector compare writing a condition mask register. -/
  | vcmp (c : CoreAt) (w : Rest)
  /-- VRCP (R138): Correctly rounded FP32 reciprocal. -/
  | vrcp (c : CoreAt) (w : Rest)
  /-- VRSQRT (R138): Correctly rounded FP32 reciprocal square root. -/
  | vrsqrt (c : CoreAt) (w : Rest)
  /-- VEXP2 (R138): Correctly rounded FP32 power of two. -/
  | vexp2 (c : CoreAt) (w : Rest)
  /-- VLOG2 (R138): Correctly rounded FP32 base-2 logarithm. -/
  | vlog2 (c : CoreAt) (w : Rest)
  /-- VADD_S (R141): Vector-scalar add with b from a scalar register or immediate. -/
  | vaddS (c : CoreAt) (w : Rest)
  /-- VSUB_S (R141): Vector-scalar subtract. -/
  | vsubS (c : CoreAt) (w : Rest)
  /-- VMUL_S (R141): Vector-scalar multiply. -/
  | vmulS (c : CoreAt) (w : Rest)
  /-- VFMA_S (R141): Vector-scalar fused multiply-add with c the prior VD. -/
  | vfmaS (c : CoreAt) (w : Rest)
  /-- VMIN_S (R141): Vector-scalar minimum. -/
  | vminS (c : CoreAt) (w : Rest)
  /-- VMAX_S (R141): Vector-scalar maximum. -/
  | vmaxS (c : CoreAt) (w : Rest)
  /-- VAND_S (R141): Vector-scalar bitwise and. -/
  | vandS (c : CoreAt) (w : Rest)
  /-- VOR_S (R141): Vector-scalar bitwise or. -/
  | vorS (c : CoreAt) (w : Rest)
  /-- VXOR_S (R141): Vector-scalar exclusive or. -/
  | vxorS (c : CoreAt) (w : Rest)
  /-- VSHL_S (R141): Vector-scalar left shift. -/
  | vshlS (c : CoreAt) (w : Rest)
  /-- VSHR_S (R141): Vector-scalar right shift. -/
  | vshrS (c : CoreAt) (w : Rest)
  /-- VMOV (R141): Write the operand into each active lane of VD. -/
  | vmov (c : CoreAt) (w : Rest)
  /-- VEXT (R141): Extract one lane of VA into a scalar register. -/
  | vext (c : CoreAt) (w : Rest)
  /-- VLID (R141): Write each active lane's index into VD. -/
  | vlid (c : CoreAt) (w : Rest)
  /-- SADD (R141): Scalar 64-bit add. -/
  | sadd (c : CoreAt) (w : Rest)
  /-- SSUB (R141): Scalar 64-bit subtract. -/
  | ssub (c : CoreAt) (w : Rest)
  /-- SMUL (R141): Scalar multiply, low 64 bits. -/
  | smul (c : CoreAt) (w : Rest)
  /-- SAND (R141): Scalar bitwise and. -/
  | sand (c : CoreAt) (w : Rest)
  /-- SOR (R141): Scalar bitwise or. -/
  | sor (c : CoreAt) (w : Rest)
  /-- SXOR (R141): Scalar exclusive or. -/
  | sxor (c : CoreAt) (w : Rest)
  /-- SSHL (R141): Scalar left shift. -/
  | sshl (c : CoreAt) (w : Rest)
  /-- SSHR (R141): Scalar logical right shift. -/
  | sshr (c : CoreAt) (w : Rest)
  /-- SSRA (R141): Scalar arithmetic right shift. -/
  | ssra (c : CoreAt) (w : Rest)
  /-- SMIN (R141): Scalar signed minimum. -/
  | smin (c : CoreAt) (w : Rest)
  /-- SMAX (R141): Scalar signed maximum. -/
  | smax (c : CoreAt) (w : Rest)
  /-- SSLT (R141): Scalar signed set-less-than. -/
  | sslt (c : CoreAt) (w : Rest)
  /-- SSLTU (R141): Scalar unsigned set-less-than. -/
  | ssltu (c : CoreAt) (w : Rest)
  /-- SMOV (R141): Scalar move of the operand. -/
  | smov (c : CoreAt) (w : Rest)
  /-- SORHI (R141): Scalar or of the operand shifted into the upper 32 bits. -/
  | sorhi (c : CoreAt) (w : Rest)
  /-- VLD (R144): Vector load into the active lanes of VD. -/
  | vld (c : CoreAt) (w : Rest)
  /-- VST (R144): Vector store from VB, highest lane winning a shared byte. -/
  | vst (c : CoreAt) (w : Rest)
  /-- SLD (R144): Scalar load issued once for the group. -/
  | sld (c : CoreAt) (w : Rest)
  /-- SST (R144): Scalar store issued once for the group. -/
  | sst (c : CoreAt) (w : Rest)
  /-- ATOM_CAS (R128): Atomic compare-exchange per lane, combined in lane order. -/
  | atomCas (c : CoreAt) (w : Rest)
  /-- ATOM_ADD (R128): Atomic unsigned add, sent as a reduction when RET is 0. -/
  | atomAdd (c : CoreAt) (w : Rest)
  /-- ATOM_FADD (R124): Atomic FP32 add rounding to nearest with flush. -/
  | atomFadd (c : CoreAt) (w : Rest)
  /-- ATOM_MIN (R128): Atomic minimum, signed when SX is 1. -/
  | atomMin (c : CoreAt) (w : Rest)
  /-- ATOM_MAX (R128): Atomic maximum, signed when SX is 1. -/
  | atomMax (c : CoreAt) (w : Rest)
  /-- ATOM_AND (R128): Atomic and. -/
  | atomAnd (c : CoreAt) (w : Rest)
  /-- ATOM_OR (R128): Atomic or. -/
  | atomOr (c : CoreAt) (w : Rest)
  /-- ATOM_XOR (R128): Atomic exclusive or. -/
  | atomXor (c : CoreAt) (w : Rest)
  /-- ATOM_EXCH (R128): Atomic exchange. -/
  | atomExch (c : CoreAt) (w : Rest)
  /-- BR (R146): Unconditional branch. -/
  | br (c : CoreAt) (w : Rest)
  /-- BRM_ANY (R147): Branch if any active lane meets the mask. -/
  | brmAny (c : CoreAt) (w : Rest)
  /-- BRM_ALL (R147): Branch if every active lane meets the mask. -/
  | brmAll (c : CoreAt) (w : Rest)
  /-- BZ (R147): Branch if the scalar register is zero. -/
  | bz (c : CoreAt) (w : Rest)
  /-- BNZ (R147): Branch if the scalar register is nonzero. -/
  | bnz (c : CoreAt) (w : Rest)
  /-- CALL (R147): Save PC+8 in a scalar register and branch. -/
  | call (c : CoreAt) (w : Rest)
  /-- JR (R147): Jump to the address in a scalar register. -/
  | jr (c : CoreAt) (w : Rest)
  /-- MIF (R115): Push a mask-stack entry and restrict m0 by a condition. -/
  | mif (c : CoreAt) (w : Rest)
  /-- MELSE (R115): Switch m0 to the remaining lanes of the construct. -/
  | melse (c : CoreAt) (w : Rest)
  /-- MJOIN (R115): Restore m0 from the top entry and pop it. -/
  | mjoin (c : CoreAt) (w : Rest)
  /-- MLOOP (R115): Push a loop entry on the mask stack. -/
  | mloop (c : CoreAt) (w : Rest)
  /-- MBRK (R115): Remove lanes from m0 to break a loop. -/
  | mbrk (c : CoreAt) (w : Rest)
  /-- MSKIP (R115): Park lanes in REST for a loop continue. -/
  | mskip (c : CoreAt) (w : Rest)
  /-- MRESUME (R115): Return parked lanes from REST to m0. -/
  | mresume (c : CoreAt) (w : Rest)
  /-- MAND (R148): Mask and. -/
  | mand (c : CoreAt) (w : Rest)
  /-- MOR (R148): Mask or. -/
  | mor (c : CoreAt) (w : Rest)
  /-- MXOR (R148): Mask exclusive or. -/
  | mxor (c : CoreAt) (w : Rest)
  /-- MANDN (R148): Mask and-not. -/
  | mandn (c : CoreAt) (w : Rest)
  /-- MNOT (R148): Mask complement limited to the group width. -/
  | mnot (c : CoreAt) (w : Rest)
  /-- MMOV (R148): Mask move. -/
  | mmov (c : CoreAt) (w : Rest)
  /-- MS2M (R148): Move a scalar register into a mask register. -/
  | ms2m (c : CoreAt) (w : Rest)
  /-- MM2S (R148): Move a mask register into a scalar register. -/
  | mm2s (c : CoreAt) (w : Rest)
  /-- CVT (R195): Convert lanes between formats, optionally updating the running maximum. -/
  | cvt (c : CoreAt) (w : Rest)
  /-- AMAXR (R203): Read the running absolute maximum, optionally clearing it. -/
  | amaxr (c : CoreAt) (w : Rest)
  /-- MMA (R172): Issue a multiply-accumulate command to the matrix unit. -/
  | mma (c : CoreAt) (w : Rest)
  /-- MOUT (R178): Issue an epilogue command writing out a tile, top-k or crumb. -/
  | mout (c : CoreAt) (w : Rest)
  /-- MCLR (R175): Issue a command setting a tile to zero. -/
  | mclr (c : CoreAt) (w : Rest)
  /-- MTSUM (R183): Issue a tray summary command. -/
  | mtsum (c : CoreAt) (w : Rest)
  /-- MWAIT (R122): Hold the group until the token's command has completed. -/
  | mwait (c : CoreAt) (w : Rest)
  /-- NOP (R151): Do nothing. -/
  | nop (c : CoreAt) (w : Rest)
  /-- EXIT (R117): End the active lanes and possibly the group. -/
  | exitLanes (c : CoreAt) (w : Rest)
  /-- BAR_SYNC (R118): Arrive at a named barrier and wait for its release. -/
  | barSync (c : CoreAt) (w : Rest)
  /-- BAR_ARRIVE (R118): Arrive at a named barrier and continue. -/
  | barArrive (c : CoreAt) (w : Rest)
  /-- FENCE_ACQ_REL (R254): Fence with both release and acquire effects at a scope. -/
  | fenceAcqRel (c : CoreAt) (w : Rest)
  /-- FENCE_ACQUIRE (R254): Hold later accesses until earlier loads return. -/
  | fenceAcquire (c : CoreAt) (w : Rest)
  /-- FENCE_RELEASE (R254): Hold the group until earlier writes are performed at the scope. -/
  | fenceRelease (c : CoreAt) (w : Rest)
  /-- EVT (R152): Raise a berth event vector 8-63 from program code. -/
  | evt (c : CoreAt) (w : Rest)
  /-- SRD (R153): Read a core or group value by selector. -/
  | srd (c : CoreAt) (w : Rest)
  /-- CRANGE_PREFETCH (R245): Allocate and fill a range of lines in the LLC. -/
  | crangePrefetch (c : CoreAt) (w : Rest)
  /-- CRANGE_FLUSH (R245): Write every dirty copy of a range to memory. -/
  | crangeFlush (c : CoreAt) (w : Rest)
  /-- CRANGE_INVALIDATE (R245): Discard every copy of a range without write-back. -/
  | crangeInvalidate (c : CoreAt) (w : Rest)
  /-- COMMIT_INTERVAL_EXPIRY (R364): COMMIT cycles pass since the last commit point and one is taken. -/
  | commitIntervalExpiry (core : Nat)
  /-- MATRIX_COMMAND_ACCEPT (R167): The matrix unit accepts a command once queue and tile room allow. -/
  | matrixAccept (c : CoreAt)
  /-- MATRIX_COMMAND_START (R184): An accepted command starts on its pipeline under the ordering rules. -/
  | matrixStart (core : Nat) (slot : Nat)
  /-- MATRIX_COMMAND_COMPLETE (R186): A command completes and its token completes. -/
  | matrixComplete (core : Nat) (slot : Nat)
  /-- BLOCK_RESIDENT (R113): A block becomes resident once slots and lane-registers are free. -/
  | blockResident (core : Nat)
  /-- LAUNCH_ENTRY (R160): A launch list entry is launched, waiting for earlier blocks when WAIT is set. -/
  | launchEntry (ctx : Nat)
  /-- STREAM_START (R217): CTL START latches a stream descriptor and starts the fetcher. -/
  | streamStart (c : CoreAt) (slot : Nat)
  /-- STREAM_STOP (R217): CTL STOP stops a stream and discards entries in flight. -/
  | streamStop (c : CoreAt) (slot : Nat)
  /-- CREDIT (R215): Return credits to a stream's ring. -/
  | credit (c : CoreAt) (slot : Nat) (n : Word)
  /-- WAIT (R216): Load of WAIT holds the group until entries are produced. -/
  | wait (c : CoreAt) (slot : Nat) (rd : Nat)
  /-- STREAM_ENTRY_BEGIN (R214): The fetcher begins an entry once credit allows. -/
  | streamEntryBegin (core : Nat) (slot : Nat)
  /-- STREAM_ENTRY_COMPLETE (R214): An entry is fully written and PRODUCED may advance. -/
  | streamEntryComplete (core : Nat) (slot : Nat) (entry : Nat)
  /-- FOLLOWERS_ARMED (R220): A multicast leader checks its followers once all are armed. -/
  | followersArmed (core : Nat) (slot : Nat)
  /-- PIN (R241): PIN_CMD 1 pins the lines of a range within quota limits. -/
  | pin (c : CoreAt)
  /-- UNPIN (R242): PIN_CMD 2 releases the berth's pins in a range. -/
  | unpin (c : CoreAt)
  /-- PIN_RESULT (R242): Load of PIN_RESULT holds the group until the pin command ends. -/
  | pinResult (c : CoreAt) (rd : Nat)
  /-- STORE_ADD (R283): Add frames to the berth's tray store. -/
  | storeAdd (berth : Nat)
  /-- STORE_REMOVE (R283): Remove free frames from the tray store. -/
  | storeRemove (berth : Nat)
  /-- POLICY (R288): Set the berth's spill policy. -/
  | policy (berth : Nat)
  /-- OPEN (R281): Open a session, reserving trays when RESERVE is 1. -/
  | openSession (berth : Nat)
  /-- CLOSE (R287): Close a session, returning trays and reservation. -/
  | closeSession (berth : Nat)
  /-- STEP (R290): Apply leaves, advances and joins to one batch. -/
  | stepBatch (berth : Nat)
  /-- LOOKUP (R294): Return the frame BVA of a session's tray. -/
  | lookup (berth : Nat)
  /-- SES_RESULT (R293): Load of SES_RESULT holds the group until its command ends. -/
  | sesResult (c : CoreAt) (rd : Nat)
  /-- SES_RET (R293): Load of SES_RET holds the group until its command ends. -/
  | sesRet (c : CoreAt) (rd : Nat)
  /-- SE_SUBMIT (R300): Submit a set-engine descriptor, holding at 16 outstanding. -/
  | seSubmit (c : CoreAt) (bva : Word)
  /-- SE_WAIT (R299): Load holding the group until all its descriptors have completed. -/
  | seWait (c : CoreAt) (rd : Nat)
  /-- SORT (R305): Set-engine descriptor that ranks A stably. -/
  | sort (engine : Nat)
  /-- MERGE (R305): Set-engine descriptor that merges two ranked inputs. -/
  | merge (engine : Nat)
  /-- INTERSECT (R305): Set-engine descriptor that intersects two ranked inputs. -/
  | intersect (engine : Nat)
  /-- UNION (R305): Set-engine descriptor that unites two ranked inputs. -/
  | union (engine : Nat)
  /-- GATHER (R306): Set-engine descriptor that gathers indexed rows. -/
  | gather (engine : Nat)
  /-- SCATTER (R306): Set-engine descriptor that scatters rows, optionally reducing. -/
  | scatter (engine : Nat)
  /-- NWALK (R308): Set-engine descriptor that walks graph neighbours. -/
  | nwalk (engine : Nat)
  /-- SEGRED (R307): Set-engine descriptor that reduces runs of equal keys. -/
  | segred (engine : Nat)
  /-- TOPK (R309): Set-engine descriptor that selects the top K elements. -/
  | topk (engine : Nat)
  /-- HASH (R310): Set-engine descriptor that probes a hash table. -/
  | hash (engine : Nat)
  /-- DESCRIPTOR_SLICE_END (R316): An engine ends a 256-unit slice and chooses its next descriptor. -/
  | descriptorSliceEnd (engine : Nat)
  /-- DESCRIPTOR_COMPLETE (R311): A descriptor completes and STATUS and OUT_COUNT are written. -/
  | descriptorComplete (engine : Nat)
  /-- RES_SEND (R351): RES_CMD 1 hands a result range to the I/O engine. -/
  | resSend (c : CoreAt)
  /-- RES_SEND_LAST (R352): RES_CMD 2 hands the order's last result range to the I/O engine. -/
  | resSendLast (c : CoreAt)
  /-- RES_WAIT (R351): Load holding the group until its last send has been read. -/
  | resWait (c : CoreAt) (rd : Nat)
  /-- RESULT (R352): A RESULT packet of an order is transmitted on a live session. -/
  | result (berth : Nat)
  /-- CROSS_CLEAR (R463): Clear the context's crossing FAULT status. -/
  | crossClear (c : CoreAt) (v : Word)
  /-- CREATE (R63): Create a berth with a grant in the lowest FREE berth. -/
  | create (args : List Word)
  /-- ENABLE (R65): Enable a CREATED or DISABLED berth. -/
  | enable (berth : Nat)
  /-- DISABLE_DRAIN (R66): Close admission and let in-flight orders finish. -/
  | disableDrain (berth : Nat) (limit : Word)
  /-- DISABLE_WITHDRAW (R70): Close admission and withdraw in-flight orders. -/
  | disableWithdraw (berth : Nat)
  /-- DESTROY (R77): Begin clearing a berth's pages and keys. -/
  | destroy (berth : Nat)
  /-- MAP_WRITE (R74): Map consecutive pages of a berth onto DPA pages. -/
  | mapWrite (berth : Nat) (arg0 : Word) (arg1 : Word) (arg2 : Word)
  /-- MAP_CLEAR (R75): Unmap and zero consecutive pages of a berth. -/
  | mapClear (berth : Nat) (arg0 : Word) (arg1 : Word) (arg2 : Word)
  /-- BERTH_BAD_OP (R79): A berth command OP that names no command posts BAD_OP. -/
  | berthBadOp (op : Nat) (berth : Nat)
  /-- HELD_COMMAND_RELEASE (R59): A berth command held during a live Manifest is carried out after the result posts. -/
  | heldCommandRelease
  /-- DRAIN_COMPLETE (R65): A draining berth reaches DISABLED after its last final answer. -/
  | drainComplete (berth : Nat)
  /-- DRAIN_LIMIT_EXPIRY (R67): The drain limit expires and the berth moves to WITHDRAWING. -/
  | drainLimitExpiry (berth : Nat)
  /-- WITHDRAW_COMPLETE (R69): A withdrawing berth reaches DISABLED. -/
  | withdrawComplete (berth : Nat)
  /-- HEARTBEAT_TIMEOUT (R71): A berth's heartbeat reference is too old and the berth resets. -/
  | heartbeatTimeout (berth : Nat)
  /-- BERTH_RESET_COMPLETE (R71): A berth reset completes into ENABLED or DISABLED. -/
  | berthResetComplete (berth : Nat)
  /-- DESTROY_COMPLETE (R77): Scrub and zeroisation complete and the berth becomes FREE. -/
  | destroyComplete (berth : Nat)
  /-- HEADER_ARRIVAL (R88): An order header enters the proofer's intake queue or is refused BUSY. -/
  | headerArrival (port : Nat)
  /-- HEADER_DECISION (R89): The proofer checks a header and accepts or refuses it. -/
  | headerDecision
  /-- ORDER_DISPATCH (R95): An order is dispatched to its context with a cycle budget. -/
  | orderDispatch (order : Nat)
  /-- BUDGET_EXPIRY (R96): An order's budget expires and its context is torn down. -/
  | budgetExpiry (order : Nat)
  /-- COMPLETION_REPORT (R86): The proofer receives the report that the last RESULT left its port. -/
  | completionReport (order : Nat)
  /-- INTERFERENCE_INTERVAL_END (R104): A 10 ms interval ends and interference indices are stored. -/
  | interferenceIntervalEnd
  /-- QUANTUM_EXPIRY (R100): A time-sliced context's quantum ends and it may be switched out. -/
  | quantumExpiry (ctx : Nat)
  /-- CONTEXT_SWITCH_OUT (R188): A context's state is saved and its clusters freed. -/
  | contextSwitchOut (ctx : Nat)
  /-- CONTEXT_SWITCH_IN (R208): A context's state is restored onto clusters. -/
  | contextSwitchIn (ctx : Nat) (cores : List Nat)
  /-- PARKED_RESPONSE (R102): A remote response for a switched-out context is written to a park slot. -/
  | parkedResponse (port : Nat)
  /-- OPEN_REQ (R344): A tenant requests a transport session for a berth. -/
  | openReq (pkt : Packet)
  /-- BTP_CLOSE (R355): A CLOSE ends a transport session at once. -/
  | btpClose (pkt : Packet)
  /-- ACK (R345): An ACK acknowledges reliable packets and lists refusals. -/
  | ack (pkt : Packet)
  /-- HEARTBEAT (R355): A tenant HEARTBEAT is recorded for its berth. -/
  | heartbeat (pkt : Packet)
  /-- WINDOW_WRITE (R347): Tenant input bytes are written into the berth's memory. -/
  | windowWrite (pkt : Packet)
  /-- ORDER (R348): An ORDER message carries an order header to the proofer. -/
  | order (pkt : Packet)
  /-- EVENT_MASK (R349): CONTROL kind setting the berth's event mask. -/
  | eventMask (pkt : Packet)
  /-- IFX_THRESHOLD (R349): CONTROL kind setting the interference threshold. -/
  | ifxThreshold (pkt : Packet)
  /-- INSTALL (R163): CONTROL kind making a bake image resident as a program. -/
  | install (pkt : Packet)
  /-- REMOVE (R349): CONTROL kind removing a resident program. -/
  | remove (pkt : Packet)
  /-- EVENT (R78): An EVENT message carries pending unmasked vectors to the tenant. -/
  | event (berth : Nat)
  /-- DEVICE_HEARTBEAT (R355): The device sends a HEARTBEAT on each live session every 1 ms. -/
  | deviceHeartbeat
  /-- BTP_RESEND (R346): An unacknowledged reliable packet is resent after 1 ms, losing the session after 16. -/
  | btpResend (conn : Nat) (seq : Nat)
  /-- SESSION_SILENCE_LOSS (R355): A session with no authenticated packet for 10 s is lost. -/
  | sessionSilenceLoss (conn : Nat)
  /-- NEIGHBOR_DISCOVERY (R339): An interface answers IPv6 Neighbor Discovery. -/
  | neighborDiscovery (iface : Nat) (frame : List Byte)
  /-- ARP (R339): An interface with IPv4 enabled answers ARP. -/
  | arp (iface : Nat) (frame : List Byte)
  /-- ICMPV6_ECHO (R339): An interface answers ICMPv6 echo. -/
  | icmpv6Echo (iface : Nat) (frame : List Byte)
  /-- LANE_MARKER (R321): Lane markers form the lane map or hold the port. -/
  | laneMarker (port : Nat) (ms : List Marker)
  /-- HELLO (R323): A crossing HELLO message is exchanged at bring-up. -/
  | hello (port : Nat) (digest : List Byte)
  /-- CHAIN (R323): The partner's certificate chain is verified. -/
  | chain (port : Nat) (ok : Bool) (identity : List Byte)
  /-- SHARE (R323): An ephemeral key share with signature is verified. -/
  | share (port : Nat) (ok : Bool)
  /-- FINISH (R324): The confirmation code is checked and traffic keys take effect. -/
  | finish (port : Nat) (ok : Bool)
  /-- BRINGUP_RETRY (R337): A held crossing port retries bring-up every 1 s. -/
  | bringupRetry (port : Nat)
  /-- DARK_PERIOD_END (R328): A port ends its 10 ms dark period and begins bring-up. -/
  | darkPeriodEnd (port : Nat)
  /-- DATA_FLIT (R326): A DATA or KEY flit is received and checked. -/
  | dataFlit (port : Nat) (f : FlitIn)
  /-- HEARTBEAT_FLIT (R330): A HEARTBEAT flit is received, holding the link if ALLSTOP is set. -/
  | heartbeatFlit (port : Nat) (f : FlitIn)
  /-- IDLE_FLIT (R326): An IDLE flit is received. -/
  | idleFlit (port : Nat) (f : FlitIn)
  /-- NAK (R326): A NAK causes replay from ACK_SEQ. -/
  | nak (port : Nat) (f : FlitIn)
  /-- HEARTBEAT_FLIT_SEND (R328): Each end sends a HEARTBEAT flit at least every 1 µs. -/
  | heartbeatFlitSend (port : Nat)
  /-- NO_FLIT_TIMEOUT (R328): No good flit for 4 µs causes link loss. -/
  | noFlitTimeout (port : Nat)
  /-- LOSS_OF_LIGHT (R328): Loss of receive light is detected. -/
  | lossOfLight (port : Nat)
  /-- KEY_EPOCH_CHANGE (R327): After 2^32 flit slots a new key exchange begins. -/
  | keyEpochChange (port : Nat)
  /-- KEY_EXCHANGE_TIMEOUT (R327): A rekey not finished within 2^28 slots causes link loss. -/
  | keyExchangeTimeout (port : Nat)
  /-- CROSS_RD (R333): An incoming crossing read request is served through an export entry. -/
  | crossRd (port : Nat)
  /-- CROSS_WR (R334): An incoming crossing write request is served. -/
  | crossWr (port : Nat)
  /-- CROSS_ATM (R334): An incoming crossing atomic is served. -/
  | crossAtm (port : Nat)
  /-- CROSS_RED (R334): An incoming crossing reduction is served. -/
  | crossRed (port : Nat)
  /-- CROSS_DATA (R331): A DATA response completes an outstanding read. -/
  | crossData (port : Nat)
  /-- WACK (R334): A WACK response completes a write or reduction. -/
  | wack (port : Nat)
  /-- ARSP (R331): An ARSP response returns an atomic's value. -/
  | arsp (port : Nat)
  /-- CROSS_FAULT (R335): A FAULT response tears down the issuing context. -/
  | crossFault (port : Nat)
  /-- LASER_FAULT (R320): A laser module fault holds every port of its block. -/
  | laserFault (block : Nat)
  /-- LASER_INSERT (R320): A replaced laser module is brought back into use. -/
  | laserInsert (block : Nat)
  /-- COH_RD (R231): Coherence read request served at the home slice. -/
  | cohRd (req : CohReq)
  /-- RDO (R231): Read with ownership served at the home slice. -/
  | rdo (req : CohReq)
  /-- UPG (R231): Upgrade of a shared copy to owned. -/
  | upg (req : CohReq)
  /-- OWN (R231): Ownership without data. -/
  | own (req : CohReq)
  /-- WB (R231): Write-back of owned bytes, merged at the slice. -/
  | wb (req : CohReq)
  /-- NRD (R231): Read without caching. -/
  | nrd (req : CohReq)
  /-- NWR (R231): Masked write without caching. -/
  | nwr (req : CohReq)
  /-- COH_ATM (R231): Atomic performed at the home slice in one transaction. -/
  | cohAtm (req : CohReq)
  /-- COH_RED (R239): Reduction performed or made pending at the home slice. -/
  | cohRed (req : CohReq)
  /-- FWD_S (R232): Forward to the owner keeping a clean copy. -/
  | fwdS (line : Nat) (cluster : Nat)
  /-- FWD_X (R232): Forward to the owner dropping its copy. -/
  | fwdX (line : Nat) (cluster : Nat)
  /-- INV (R233): Invalidate a cluster's copy, answered at once for an asleep island. -/
  | inv (line : Nat) (cluster : Nat)
  /-- COH_REPLY (R231): A DATA, ACK, NACK or FWD_MISS reply reaches requester or slice. -/
  | cohReply (line : Nat)
  /-- NACK_REISSUE (R234): A NACKed request is reissued from the intake 32 slice cycles later. -/
  | nackReissue (slice : Nat)
  /-- PENDING_REDUCTION_PERFORM (R239): Pending reductions on a line are performed once it is present and not BUSY. -/
  | pendingReductionPerform (line : Nat)
  /-- FLIT_TO_ASLEEP_ISLAND (R24): A flit reaches an asleep island and starts its wake. -/
  | flitToAsleepIsland (cluster : Nat) (srcDie : Nat) (ctx : Option Nat)
  /-- ISLAND_WAKE_COMPLETE (R24): An island finishes waking and accepts waiting flits. -/
  | islandWakeComplete (cluster : Nat)
  /-- ISLAND_SLEEP_ENTRY (R387): An island idle for ISLAND_IDLE µs writes back and sleeps. -/
  | islandSleepEntry (cluster : Nat)
  /-- HALF_CLOCK_DOWN (R388): A half whose islands slept HALF_IDLE µs stops its PLL. -/
  | halfClockDown (halfIx : Nat)
  /-- HBM_FRAME_START (R268): A pseudo-channel frame starts and assured credits are added. -/
  | hbmFrameStart (pc : Nat)
  /-- LPX_FRAME_START (R274): A package frame starts and assured credits are added. -/
  | lpxFrameStart (pkg : Nat)
  /-- STACK_TEMPERATURE_SAMPLE (R271): A stack temperature is read every 100 µs and its level set. -/
  | stackTemperatureSample (stack : Nat) (reading : Option Nat)
  /-- STACK_RATE_STEP (R271): Each 1 ms a stack's rate falls or rises by 10% of nominal. -/
  | stackRateStep (stack : Nat)
  /-- SLICE_CLOCK_THROTTLE (R271): After 10 ms at level 2 the die's slice clock falls to 75%. -/
  | sliceClockThrottle (md : Nat)
  /-- UNCORRECTABLE_READ (R263): An uncorrectable read faults the consumer and retires the page. -/
  | uncorrectableRead (dpa : Nat) (r : Reader)
  /-- PARITY_ERROR (R371): A parity error is refetched or tears down the consumer. -/
  | parityError (p : ParityAt)
  /-- PSEUDO_CHANNEL_FAILURE (R267): A pseudo-channel fails while running. -/
  | pseudoChannelFailure (pc : Nat)
  /-- SLICE_FAILURE (R373): A cache slice's tag or directory fails while running. -/
  | sliceFailure (slice : Nat)
  /-- CORE_FAILURE (R367): A core slot fails and the spare is bound to its logical core. -/
  | coreFailure (core : Nat) (badCkpt : Bool)
  /-- REPLAY_RESUME (R367): The spare loads the last checkpoint and resumes. -/
  | replayResume (core : Nat)
  /-- RESUME_WITHOUT_SPARE (R368): A failed core's checkpoint resumes on the first core that becomes free. -/
  | resumeWithoutSpare (core : Nat)
  /-- SELFTEST_COMPLETE (R362): A cluster self-test ends and its findings are repaired or recorded. -/
  | selftestComplete (cluster : Nat) (r : TestReport)
  /-- GANGWAY_LANE_FAILURE (R16): A gangway lane fails in the field. -/
  | gangwayLaneFailure (die : Nat)
  /-- XD0_LOSS (R377): The loss of XD0 is detected by the loss of its heartbeat. -/
  | xd0Loss
  /-- POWER_ESTIMATE (R395): Each die forms a power estimate every 1 µs. -/
  | powerEstimate (die : Nat) (f : PowerFig)
  /-- BUBBLE_UPDATE (R397): Every 1 µs XD0 computes bubble fractions against the cap. -/
  | bubbleUpdate (shares : List Nat)
  /-- GAIN_UPDATE (R396): Every 1 ms firmware reads regulators and updates the gain. -/
  | gainUpdate (m : Option Nat) (fault : Bool)
  /-- EMERGENCY_ENTRY (R399): A thermal or regulator cause puts the device in EMERGENCY. -/
  | emergencyEntry (regulator : Bool)
  /-- EMERGENCY_EXIT (R399): EMERGENCY ends after 10 ms with no cause present. -/
  | emergencyExit
  /-- REFCLK_LOSS (R383): REFCLK loss moves clocks to the on-die oscillator and revokes promises. -/
  | refclkLoss
  /-- REFCLK_RETURN (R384): After 10 ms of good edges the clocks move back to REFCLK. -/
  | refclkReturn
  /-- PWR_CMD_HALVES_OFF (R389): PWR_CMD powers both halves of a compute die off. -/
  | pwrCmdHalvesOff (die : Nat)
  /-- PWR_CMD_HALVES_ON (R389): PWR_CMD powers both halves of a compute die on. -/
  | pwrCmdHalvesOn (die : Nat)
  /-- HALVES_ON_COMPLETE (R389): After 150 µs every island of a powered die is awake. -/
  | halvesOnComplete (die : Nat)
  /-- PWR_CMD_STEWARD (R386): PWR_CMD toggles the die's steward domain. -/
  | pwrCmdSteward (die : Nat)
  /-- PWR6_CAP_WRITE (R401): A compatibility-mode cap write sets the cap under R394. -/
  | pwr6CapWrite (watts : Nat)
  /-- STW_FREQ_WRITE (R471): A steward clock step write, limited to 25. -/
  | stwFreqWrite (die : Nat) (step : Nat)
  /-- STW_START (R471): Start a steward core at an entry address. -/
  | stwStart (die : Nat) (n : Nat) (entry : Word)
  /-- MFT_CMD_SUBMIT (R55): MFT_CMD starts validation of a candidate Manifest. -/
  | mftCmdSubmit
  /-- MFT_VALIDATION_COMPLETE (R52): Validation ends, storing or applying the Manifest and posting LAST_RESULT. -/
  | mftValidationComplete (sigs : Sigs)
  /-- MFT_FLASH_WRITE_COMPLETE (R60): A Manifest's flash write completes and the floor is raised. -/
  | mftFlashWriteComplete (ok : Bool)
  /-- LIFECYCLE (R420): SEC command performing a lifecycle transition. -/
  | lifecycle (sigs : Sigs)
  /-- ATTEST (R412): SEC command producing a full chain with an attestation report. -/
  | attest
  /-- CAL_WRITE (R426): SEC command storing a new calibration record. -/
  | calWrite (sigs : Sigs) (stored : Bool)
  /-- CAL_READ (R426): SEC command copying out the stored calibration record. -/
  | calRead
  /-- DEBUG_TOKEN (R422): SEC command submitting a debug token. -/
  | debugToken (sigs : Sigs)
  /-- ID_CERT (R411): SEC command returning the DeviceID certificate. -/
  | idCert
  /-- LMS_TOP_RESERVE (R417): A TOP reservation write to the store completes or fails. -/
  | lmsTopReserve (ok : Bool)
  /-- LOWER_TREE_BUILD (R416): The next lower HSS tree is built and signed in the background. -/
  | lowerTreeBuild
  /-- INFO (R467): Mailbox command returning device status. -/
  | info (r : MbxReq)
  /-- MFT_SUBMIT (R467): Mailbox command delivering a Manifest for validation. -/
  | mftSubmit (r : MbxReq)
  /-- MFT_QUERY (R467): Mailbox command returning the MFT registers. -/
  | mftQuery (r : MbxReq)
  /-- BERTH (R467): Mailbox command issuing a berth command. -/
  | berth (r : MbxReq)
  /-- BERTH_KEY (R467): Mailbox command setting a berth's tenant key digest. -/
  | berthKey (r : MbxReq)
  /-- BERTH_QUERY (R467): Mailbox command returning a berth's per-berth registers. -/
  | berthQuery (r : MbxReq)
  /-- EXPORT (R336): Mailbox command writing a crossing export entry. -/
  | exportEntry (r : MbxReq)
  /-- SET_CAP (R394): Mailbox command setting the power cap. -/
  | setCap (r : MbxReq)
  /-- MARGIN (R392): Mailbox command margining a regulator. -/
  | margin (r : MbxReq)
  /-- HALVES (R389): Mailbox command powering a compute die's halves off or on. -/
  | halves (r : MbxReq)
  /-- STEWARD (R386): Mailbox command turning a steward domain off or on. -/
  | steward (r : MbxReq)
  /-- IF_CONFIG (R339): Mailbox command setting an interface's addresses, tag and MTU. -/
  | ifConfig (r : MbxReq)
  /-- PORT_RESET (R460): Mailbox command resetting a port or interface. -/
  | portReset (r : MbxReq)
  /-- EVT_ACK (R476): Mailbox command acknowledging event categories. -/
  | evtAck (r : MbxReq)
  /-- MON_START (R434): Mailbox command starting a MON interval on a die. -/
  | monStart (r : MbxReq)
  /-- REG_READ (R440): Mailbox command reading registers within the debug level. -/
  | regRead (r : MbxReq)
  /-- SELFTEST (R362): Mailbox command running a cluster self-test. -/
  | selftest (r : MbxReq)
  /-- SEC (R429): Mailbox command passing a command to the security controller. -/
  | sec (r : MbxReq)
  /-- ENGAGE (R441): Mailbox command engaging debug level D3. -/
  | engage (r : MbxReq)
  /-- ALLSTOP (R445): Mailbox command triggering all-stop. -/
  | allstop (r : MbxReq)
  /-- IMAGE_WRITE (R467): Mailbox command verifying and writing a firmware image. -/
  | imageWrite (r : MbxReq) (sigs : Sigs)
  /-- PREFER (R457): Mailbox command choosing the image tried first. -/
  | prefer (r : MbxReq)
  /-- COLD_RESET (R460): Mailbox command performing a cold reset. -/
  | coldReset (r : MbxReq)
  /-- DIE_RESET (R461): Mailbox command resetting a powered-off compute die. -/
  | dieReset (r : MbxReq)
  /-- MOOR (R393): Mailbox command entering MOORED. -/
  | moor (r : MbxReq)
  /-- UNMOOR (R459): Mailbox command leaving MOORED by booting from step 5. -/
  | unmoor (r : MbxReq)
  /-- PCIE_LINK_DOWN (R469): The management PCIe link drops. -/
  | pcieLinkDown
  /-- RST_CTL_COLD (R460): RST_CTL COLD starts a cold reset. -/
  | rstCtlCold
  /-- RST_CTL_READY (R457): Firmware reports it runs and the boot watchdog stops. -/
  | rstCtlReady
  /-- RST_CTL_DIE (R461): RST_CTL DIE resets one compute die if allowed. -/
  | rstCtlDie (die : Nat)
  /-- BOOT_WATCHDOG_EXPIRY (R457): Firmware did not report READY within 10 s and a cold reset follows. -/
  | bootWatchdogExpiry
  /-- BOOT_BEGIN (R452): Boot runs its sequence once power, REFCLK and reset conditions hold. -/
  | bootBegin (r : BootReport)
  /-- RPR_SELFTEST_START (R362): RPR_SELFTEST START begins a cluster self-test. -/
  | rprSelftestStart (die : Nat) (cluster : Nat)
  /-- MON_CTL_START (R434): MON_CTL START resets the die's MON_UNIT counters. -/
  | monCtlStart (die : Nat)
  /-- XPT_CTL_RESET (R328): XPT_CTL RESET starts a port reset. -/
  | xptCtlReset (port : Nat)
  /-- XPT_EXPORT_WRITE (R336): A write to an export entry, waiting for its requests in progress. -/
  | xptExportWrite (port : Nat) (entry : Nat) (v : Word)
  /-- ETH_B_TKEY_WRITE (R357): Write of a berth's tenant key digest, effective only in CREATED or DISABLED. -/
  | ethBTkeyWrite (berth : Nat) (ix : Nat) (v : Word)
  /-- AON_EVT_ACK (R476): Firmware acknowledges event categories and releases their pins. -/
  | aonEvtAck (cats : Nat)
  /-- RC_READ (R6): Read of an RC field returns its value and clears it. -/
  | rcRead (reg : RegAt)
  /-- REGISTER_WRITE (R5): Write to a register with no row of its own, under its access code. -/
  | registerWrite (reg : RegAt) (v : Word)
  /-- DBG_CTL_STOP (R445): DBG_CTL STOP triggers all-stop while D3 is engaged. -/
  | dbgCtlStop (die : Nat)
  /-- JTAG_ALLSTOP (R445): JTAG instruction triggering all-stop. -/
  | jtagAllstop
  /-- ALLSTOP_BROADCAST (R447): XD0 broadcasts the stop to every die. -/
  | allstopBroadcast
  /-- SCAN_OUT (R450): Captured state of a stopped die is read by scan. -/
  | scanOut (die : Nat)
  /-- JTAG_BYPASS (R482): JTAG BYPASS instruction. -/
  | jtagBypass
  /-- JTAG_IDCODE (R482): JTAG IDCODE instruction returning the device code. -/
  | jtagIdcode
  /-- JTAG_SAMPLE_PRELOAD (R482): JTAG SAMPLE/PRELOAD instruction. -/
  | jtagSamplePreload
  /-- JTAG_EXTEST (R482): JTAG EXTEST instruction, acting only at D3. -/
  | jtagExtest
  /-- I3C_STATUS_READ (R483): The board controller reads status bytes over I3C. -/
  | i3cStatusRead
  /-- POWER_GOOD (R474): PGOOD rises after every rail is in tolerance. -/
  | powerGood
  /-- POWER_GOOD_LOST (R474): PGOOD low for 10 µs or longer stops the device. -/
  | powerGoodLost
  /-- RESET_IN_N (R460): RESET_IN_N asserted holds a cold reset. -/
  | resetInN (asserted : Bool)
  /-- PIN_SHORT_SAMPLE (R477): Every 10 µs sideband outputs are compared with their intent. -/
  | pinShortSample (level : Nat)
  /-- THERMAL_TRIP (R478): The trip latch sets, stopping PLLs and darkening transmitters. -/
  | thermalTrip (junction : Bool) (stack : Bool)
  /-- VDD_AON_REMOVAL (R478): Removal of VDD_AON clears the trip latch. -/
  | vddAonRemoval
  /-- COOLANT_EVALUATION (R486): Every 1 s the plate rows are compared to detect reversed coolant. -/
  | coolantEvaluation (inlet : Nat) (outlet : Nat)
  /-- ILLEGAL_ENCODING (R155): A group reaches a word whose opcode is not listed and faults with cause 0x01. -/
  | illegalEncoding (c : CoreAt) (w : Word)
  /-- INSTRUCTION_FETCH_FAULT (R156): A group's PC lies in an unmapped page or a page without X, and the fetch faults with cause 0x06. -/
  | instructionFetchFault (c : CoreAt)
  /-- MBX_UNKNOWN_OP (R467): A doorbell submits a request whose opcode is not listed and it is answered UNKNOWN_OP. -/
  | mbxUnknownOp (op : Nat) (r : MbxReq)
  /-- MEMORY_REQUEST_COMPLETE (R269): A stacked-memory or capacity-tier controller completes a fill, write-back, merge or reduction and replies to the home slice. -/
  | memoryRequestComplete (line : Nat) (work : MemWork) (rep : MemReport)
  /-- NO_LANE_MARKER_TIMEOUT (R322): A crossing receiver finds light but no lane marker within 50 ms and holds the port with NOT_CROSSING. -/
  | noLaneMarkerTimeout (port : Nat)
  /-- LIGHT_DETECTED (R338): Light appears on all receive lanes of a crossing port and stage 1 of bring-up ends. -/
  | lightDetected (port : Nat)
  /-- BAD_FLIT (R326): A flit with a bad CRC or an uncorrectable FEC codeword is discarded and a NAK is sent. -/
  | badFlit (port : Nat) (ue : Bool)
  /-- OTHER_FRAME (R339): An Ethernet frame of no supported kind is dropped and counted in ETH_I_DROP. -/
  | otherFrame (iface : Nat) (frame : RxFrame)
  /-- INTERFACE_LINK_CHANGE (R356): An Ethernet interface's link goes down or comes up, changing UP while transport sessions survive. -/
  | interfaceLinkChange (iface : Nat) (up : Bool)
  /-- PCIE_LINK_UP (R469): The management PCIe link returns and submissions and MSI-X delivery resume. -/
  | pcieLinkUp
  /-- DIE_RESET_COMPLETE (R461): A reset compute die finishes retraining its gangway lanes and returns from STATE 1 to STATE 2 with its islands asleep. -/
  | dieResetComplete (die : Nat)
  /-- SECURITY_CONTROLLER_FAULT (R377): A fault of the security controller, such as a DRBG health-test failure, puts the device in the failed state with cause 5. -/
  | securityControllerFault
  deriving DecidableEq, Repr

end Sys2Proof
end

