-- ==== Sys2Proof/Decode.lean ====
section
/-! DEFINITION. The command that an instruction word of a core stands for (06 R131, R132). The table of the commands gives no row any
bits, so no word of that table spells a command (DESIGN CHOICE, log entry 6). -/

namespace Sys2Proof

open Sys2Proof.Machine

/-- The command that a core's instruction word is, by its opcode, bits [63:56], and for brm, mlog, fence and crange by their
function field; none where ILLEGAL_ENCODING is the command of the word (06 R132, R137 to R151, R155).
(DESIGN CHOICE, log entry 6.) -/
def commandOf (c : CoreAt) (w : Word) : Option Instr :=
  let r : Rest := w.setWidth 56
  match w.toNat / 2 ^ 56 with
  | 0x01 => some (.vadd c r)
  | 0x02 => some (.vsub c r)
  | 0x03 => some (.vmul c r)
  | 0x04 => some (.vfma c r)
  | 0x05 => some (.vmin c r)
  | 0x06 => some (.vmax c r)
  | 0x07 => some (.vand c r)
  | 0x08 => some (.vor c r)
  | 0x09 => some (.vxor c r)
  | 0x0A => some (.vshl c r)
  | 0x0B => some (.vshr c r)
  | 0x0C => some (.vsel c r)
  | 0x0D => some (.vshfl c r)
  | 0x10 => some (.vcmp c r)
  | 0x18 => some (.vrcp c r)
  | 0x19 => some (.vrsqrt c r)
  | 0x1A => some (.vexp2 c r)
  | 0x1B => some (.vlog2 c r)
  | 0x41 => some (.vaddS c r)
  | 0x42 => some (.vsubS c r)
  | 0x43 => some (.vmulS c r)
  | 0x44 => some (.vfmaS c r)
  | 0x45 => some (.vminS c r)
  | 0x46 => some (.vmaxS c r)
  | 0x47 => some (.vandS c r)
  | 0x48 => some (.vorS c r)
  | 0x49 => some (.vxorS c r)
  | 0x4A => some (.vshlS c r)
  | 0x4B => some (.vshrS c r)
  | 0x5C => some (.vmov c r)
  | 0x5D => some (.vext c r)
  | 0x5E => some (.vlid c r)
  | 0x60 => some (.sadd c r)
  | 0x61 => some (.ssub c r)
  | 0x62 => some (.smul c r)
  | 0x63 => some (.sand c r)
  | 0x64 => some (.sor c r)
  | 0x65 => some (.sxor c r)
  | 0x66 => some (.sshl c r)
  | 0x67 => some (.sshr c r)
  | 0x68 => some (.ssra c r)
  | 0x69 => some (.smin c r)
  | 0x6A => some (.smax c r)
  | 0x6B => some (.sslt c r)
  | 0x6C => some (.ssltu c r)
  | 0x6D => some (.smov c r)
  | 0x6E => some (.sorhi c r)
  | 0x70 => some (.vld c r)
  | 0x71 => some (.vst c r)
  | 0x72 => some (.sld c r)
  | 0x73 => some (.sst c r)
  | 0x77 => some (.atomCas c r)
  | 0x78 => some (.atomAdd c r)
  | 0x79 => some (.atomFadd c r)
  | 0x7A => some (.atomMin c r)
  | 0x7B => some (.atomMax c r)
  | 0x7C => some (.atomAnd c r)
  | 0x7D => some (.atomOr c r)
  | 0x7E => some (.atomXor c r)
  | 0x7F => some (.atomExch c r)
  | 0x80 => some (.br c r)
  | 0x81 => if w.getLsbD 46 then some (.brmAll c r) else some (.brmAny c r)
  | 0x82 => some (.bz c r)
  | 0x83 => some (.bnz c r)
  | 0x84 => some (.call c r)
  | 0x85 => some (.jr c r)
  | 0x88 => some (.mif c r)
  | 0x89 => some (.melse c r)
  | 0x8A => some (.mjoin c r)
  | 0x8B => some (.mloop c r)
  | 0x8C => some (.mbrk c r)
  | 0x8D => some (.mskip c r)
  | 0x8E => some (.mresume c r)
  | 0x8F =>
    (match w.toNat / 2 ^ 24 % 16 with
    | 0 => some (.mand c r)
    | 1 => some (.mor c r)
    | 2 => some (.mxor c r)
    | 3 => some (.mandn c r)
    | 4 => some (.mnot c r)
    | 5 => some (.mmov c r)
    | 6 => some (.ms2m c r)
    | 7 => some (.mm2s c r)
    | _ => none)
  | 0x90 => some (.cvt c r)
  | 0x91 => some (.amaxr c r)
  | 0xA0 => some (.mma c r)
  | 0xA1 => some (.mout c r)
  | 0xA2 => some (.mclr c r)
  | 0xA3 => some (.mtsum c r)
  | 0xA8 => some (.mwait c r)
  | 0xB0 => some (.nop c r)
  | 0xB1 => some (.exitLanes c r)
  | 0xB2 => some (.barSync c r)
  | 0xB3 => some (.barArrive c r)
  | 0xB4 =>
    (match w.toNat / 2 ^ 3 % 4 with
    | 0 => some (.fenceAcqRel c r)
    | 1 => some (.fenceAcquire c r)
    | 2 => some (.fenceRelease c r)
    | _ => none)
  | 0xB5 => some (.evt c r)
  | 0xB6 => some (.srd c r)
  | 0xB7 =>
    (match w.toNat % 4 with
    | 0 => some (.crangePrefetch c r)
    | 1 => some (.crangeFlush c r)
    | 2 => some (.crangeInvalidate c r)
    | _ => none)
  | _ => none

/-- The command that a word spells by the bits of spec/opcode_table.json: the table gives no row any bits.
(DESIGN CHOICE, log entry 6.) -/
def decodeTableWord (_nbits _w : Nat) : Option Instr := none

end Sys2Proof
end

