-- ==== Sys2Proof/Config.lean ====
section
/-! DEFINITION. What an implementation fixes and what the spec leaves open: constants without a body, which no proof
can evaluate (DESIGN CHOICE, log entry 5), and the device's cryptographic and physical functions (DESIGN CHOICE, log entry 3). -/

namespace Sys2Proof.Config

/-- Does an effect that the spec leaves open happen? `n` is the State's counter of free values, `i` an index.
(DESIGN CHOICE, log entry 5.) -/
opaque freeBit : Nat → Nat → Bool
/-- A 64-bit value that the spec leaves open.
(DESIGN CHOICE, log entry 5.) -/
opaque freeWord : Nat → Nat → Word
/-- A byte that the spec leaves open.
(DESIGN CHOICE, log entry 5.) -/
opaque freeByte : Nat → Nat → Byte

/-- Byte `i` of the public key, or of the stored signature, that the device's secrets give for an input (19 R408).
(DESIGN CHOICE, log entry 3.) -/
opaque pubByte : List Byte → Nat → Byte

/-- Byte `i` of an ECDSA P-384 signature that a key, named by the input of its derivation, makes of a message; signatures differ
from one to the next, by the State's counter of free values (19 R408, R412).
(DESIGN CHOICE, log entry 3.) -/
opaque sigByte : List Byte → List Byte → Nat → Nat → Byte

/-- Byte `i` of the coordinates of the ephemeral ECDH P-384 key that a free value names (15 R323, 16 R343).
(DESIGN CHOICE, log entry 3.) -/
opaque ecByte : Nat → Nat → Byte

/-- Byte `i` of the secret that an ephemeral key shares with a partner's key (15 R324, 16 R344).
(DESIGN CHOICE, log entry 3.) -/
opaque dhByte : Nat → List Byte → Nat → Byte

/-- Byte `i` of an AES-256-GCM encryption followed by its tag: key, nonce, additional data, plain text (15 R325, 16 R342).
(DESIGN CHOICE, log entry 3.) -/
opaque gcmByte : List Byte → List Byte → List Byte → List Byte → Nat → Byte

/-- Byte `i` of the AES-256-XTS encryption of a line: key pair, tweak, plain text (12 R276).
(DESIGN CHOICE, log entry 3.) -/
opaque xtsByte : List Byte → List Byte → List Byte → Nat → Byte

/-- Byte `j` of the link-layer address of Ethernet interface `i`, which the spec does not give (16 R339).
(PRESUMED, log entry 53.) -/
opaque macByte : Nat → Nat → Byte

end Sys2Proof.Config
end

