-- ==== Sys2Proof/Machine/Bits.lean ====
section
/-! DEFINITION. Bit fields, sign extension and little-endian bytes (00 R2). -/

namespace Sys2Proof.Machine

/-- Bits `[lo + n - 1 : lo]` of a word, as a number. -/
def fld (lo n : Nat) (w : Word) : Nat := (w.toNat / 2 ^ lo) % 2 ^ n

/-- Bit `i` of a word. -/
def bitAt (i : Nat) (w : Word) : Bool := w.getLsbD i

/-- A number of `n` bits read as two's complement. -/
def signed (n : Nat) (x : Nat) : Int :=
  if 2 ^ (n - 1) ≤ x % 2 ^ n then (x % 2 ^ n : Nat) - (2 ^ n : Nat) else (x % 2 ^ n : Nat)

/-- An integer modulo `2 ^ n`, as an unsigned number of `n` bits. -/
def wrapTo (n : Nat) (x : Int) : Nat := (x % (2 ^ n : Nat)).toNat

/-- The low `n` bytes of a number, lowest address first (00 R2: little-endian). -/
def bytesOf : Nat → Nat → List Byte
  | 0, _ => []
  | n + 1, x => BitVec.ofNat 8 x :: bytesOf n (x / 256)

/-- The number that bytes spell, lowest address first (00 R2: little-endian). -/
def ofBytes : List Byte → Nat
  | [] => 0
  | b :: bs => b.toNat + 256 * ofBytes bs

/-- One bit as a number. -/
def b2n (b : Bool) : Nat := if b then 1 else 0

/-- The numbers below `n` for which `p` holds, in ascending order. -/
def below (n : Nat) (p : Nat → Bool) : List Nat := (List.range n).filter p

/-- The first number below `n` for which `p` holds. -/
def firstBelow (n : Nat) (p : Nat → Bool) : Option Nat := (List.range n).find? p

/-- The number of numbers below `n` for which `p` holds. -/
def countBelow (n : Nat) (p : Nat → Bool) : Nat := (below n p).length

/-- A number put in its place in a list that rises by a key, and a list sorted by it. -/
def insertBy (f : Nat → Nat) (a : Nat) : List Nat → List Nat
  | [] => [a]
  | b :: l => if f a ≤ f b then a :: b :: l else b :: insertBy f a l
def sortBy (f : Nat → Nat) : List Nat → List Nat
  | [] => []
  | a :: l => insertBy f a (sortBy f l)

/-- `⌈a / b⌉`. -/
def ceilDiv (a b : Nat) : Nat := (a + b - 1) / b

end Sys2Proof.Machine
end

