-- ==== Sys2Proof/Machine/Num.lean ====
section
/-! DEFINITION. Numbers as the device computes them: exact values, the one rounding, and the formats of
08_number_formats.md (R190 to R197). -/

namespace Sys2Proof.Machine

/-- A decoded value: NaN, an infinity with its sign, or exactly `±m × 2 ^ e`; zero keeps its sign (08 R192). -/
inductive Num where
  | nan
  | inf (neg : Bool)
  | fin (neg : Bool) (m : Nat) (e : Int)
  deriving DecidableEq, Repr

/-- An exact dyadic value `m × 2 ^ e`, the accumulator of exact sums. -/
structure Dy where
  m : Int := 0
  e : Int := 0
  deriving DecidableEq, Repr

/-- The exact sum of two dyadics. -/
def Dy.add (a b : Dy) : Dy :=
  if a.m = 0 then b else if b.m = 0 then a
  else if a.e ≤ b.e then { m := a.m + b.m * (2 ^ (b.e - a.e).toNat : Nat), e := a.e }
  else { m := a.m * (2 ^ (a.e - b.e).toNat : Nat) + b.m, e := b.e }

/-- The exact product of two dyadics. -/
def Dy.mul (a b : Dy) : Dy := { m := a.m * b.m, e := a.e + b.e }

/-- Is `a` below `b`? -/
def Dy.lt (a b : Dy) : Bool := decide ((a.add { m := -b.m, e := b.e }).m < 0)

/-- The dyadic of a finite value; infinities and NaN answer 0 and are never asked. -/
def Num.dy : Num → Dy
  | .fin n m e => { m := if n then -(m : Int) else m, e := e }
  | _ => {}

/-- The value of a dyadic; an exact zero takes the sign given. -/
def Dy.num (zeroNeg : Bool) (d : Dy) : Num :=
  if d.m = 0 then .fin zeroNeg 0 0 else .fin (d.m < 0) d.m.natAbs d.e

def Num.isNan : Num → Bool
  | .nan => true
  | _ => false

/-- The sign bit of a value; NaN counts as positive. -/
def Num.neg? : Num → Bool
  | .nan => false
  | .inf n => n
  | .fin n _ _ => n

/-- Is the value a zero of either sign? -/
def Num.isZero : Num → Bool
  | .fin _ 0 _ => true
  | _ => false

/-- The value with its sign turned (06 R136: NEG_A, NEG_C). -/
def Num.negate : Num → Num
  | .nan => .nan
  | .inf n => .inf !n
  | .fin n m e => .fin (!n) m e

/-- The exact sum; +Inf and −Inf give NaN; an exact zero is −0 only where both terms are −0
(DEDUCED from 07 R173 step 6, log entry 13). -/
def Num.add : Num → Num → Num
  | .nan, _ => .nan
  | _, .nan => .nan
  | .inf a, .inf b => if a = b then .inf a else .nan
  | .inf a, _ => .inf a
  | _, .inf b => .inf b
  | .fin a ma ea, .fin b mb eb =>
    (((Num.fin a ma ea).dy).add ((Num.fin b mb eb).dy)).num (a && b && ma == 0 && mb == 0)

/-- The exact product; a product of zero and an infinity is NaN (07 R171). -/
def Num.mul : Num → Num → Num
  | .nan, _ => .nan
  | _, .nan => .nan
  | .inf a, .inf b => .inf (a != b)
  | .inf a, .fin b m _ => if m = 0 then .nan else .inf (a != b)
  | .fin a m _, .inf b => if m = 0 then .nan else .inf (a != b)
  | .fin a ma ea, .fin b mb eb => .fin (a != b) (ma * mb) (ea + eb)

/-- Order of two values that are no NaN: is `a` below `b`? Zeros of both signs are equal. -/
def Num.lt : Num → Num → Bool
  | .nan, _ => false
  | _, .nan => false
  | .inf a, .inf b => a && !b
  | .inf a, _ => a
  | _, .inf b => !b
  | a, b => a.dy.lt b.dy

/-- Equality of two values that are no NaN. -/
def Num.eqv (a b : Num) : Bool := !a.isNan && !b.isNan && !a.lt b && !b.lt a

/-- Rounding mode: to nearest with ties to even, toward zero (08 R195), toward +Inf (07 R183). -/
inductive Rm where
  | near | zero | up
  deriving DecidableEq, Repr

/-- `m × 2 ^ e` rounded to a whole multiple of `2 ^ q`, as that multiple; `neg` is the sign of the value. -/
def roundQ (rm : Rm) (neg : Bool) (m : Nat) (e q : Int) : Nat :=
  if q ≤ e then m * 2 ^ (e - q).toNat
  else
    let sh := (q - e).toNat
    let f := m / 2 ^ sh
    let r := m % 2 ^ sh
    match rm with
    | .zero => f
    | .up => if neg || r = 0 then f else f + 1
    | .near =>
      if 2 * r < 2 ^ sh then f
      else if 2 * r = 2 ^ sh then (if f % 2 = 0 then f else f + 1)
      else f + 1

/-- What the codes with E all ones mean (08 R190). -/
inductive Special where
  /-- infinity at m = 0, NaN elsewhere -/
  | ieee
  /-- E4M3: one NaN, the code of all ones -/
  | e4m3
  /-- ordinary values: no infinity, no NaN -/
  | none
  deriving DecidableEq, Repr

/-- A float encoding: x exponent bits, y mantissa bits, bias, special codes, canonical NaN, largest finite code,
and whether subnormal codes are flushed (08 R190, R192). -/
structure FFmt where
  x : Nat
  y : Nat
  bias : Nat
  special : Special
  nanCode : Nat
  maxCode : Nat
  flush : Bool
  deriving DecidableEq, Repr

def fp32 : FFmt := ⟨8, 23, 127, .ieee, 0x7FC00000, 0x7F7FFFFF, true⟩
def bf16 : FFmt := ⟨8, 7, 127, .ieee, 0x7FC0, 0x7F7F, true⟩
def fp16 : FFmt := ⟨5, 10, 15, .ieee, 0x7E00, 0x7BFF, true⟩
def e4m3 : FFmt := ⟨4, 3, 7, .e4m3, 0x7F, 0x7E, true⟩
def e5m2 : FFmt := ⟨5, 2, 15, .ieee, 0x7E, 0x7B, true⟩
def e3m2 : FFmt := ⟨3, 2, 3, .none, 0, 0x1F, false⟩
def e2m3 : FFmt := ⟨2, 3, 1, .none, 0, 0x1F, false⟩
def e2m1 : FFmt := ⟨2, 1, 1, .none, 0, 0x7, false⟩

/-- The width of a code in bits. -/
def FFmt.width (f : FFmt) : Nat := f.x + f.y + 1

/-- The code with its sign bit. -/
def FFmt.signCode (f : FFmt) (neg : Bool) (c : Nat) : Nat := if neg then 2 ^ (f.x + f.y) + c else c

/-- Decoding of a float code to its exact value (08 R190, R192). -/
def FFmt.decode (f : FFmt) (c : Nat) : Num :=
  let neg := c / 2 ^ (f.x + f.y) % 2 = 1
  let E := c / 2 ^ f.y % 2 ^ f.x
  let m := c % 2 ^ f.y
  let ones := E = 2 ^ f.x - 1
  if ones ∧ f.special = .ieee then (if m = 0 then .inf neg else .nan)
  else if ones ∧ f.special = .e4m3 ∧ m = 2 ^ f.y - 1 then .nan
  else if E = 0 then
    (if f.flush then .fin neg 0 0 else .fin neg m (1 - (f.bias : Int) - f.y))
  else .fin neg (2 ^ f.y + m) ((E : Int) - f.bias - f.y)

/-- The rounding quantum of a finite nonzero magnitude: the significand width of the format with the exponent
unbounded, or the finite grid of the small formats, extended above by its top spacing (08 R195). -/
def FFmt.quantum (f : FFmt) (m : Nat) (e : Int) : Int :=
  let q := (Nat.log2 m : Int) + e - f.y
  if f.flush then q
  else max (1 - (f.bias : Int) - f.y) (min q ((2 ^ f.x - 1 : Nat) - (f.bias : Int) - f.y))

/-- What a conversion to a float gives for an overflow or an infinite source (08 R197). -/
def FFmt.overflow (f : FFmt) (sat neg : Bool) : Nat :=
  match f.special with
  | .ieee => f.signCode neg (if sat then f.maxCode else (2 ^ f.x - 1) * 2 ^ f.y)
  | .e4m3 => if sat then f.signCode neg f.maxCode else f.nanCode
  | .none => f.signCode neg f.maxCode

/-- What an infinite source gives (08 R197). -/
def FFmt.infinity (f : FFmt) (sat neg : Bool) : Nat :=
  match f.special with
  | .ieee => f.signCode neg ((2 ^ f.x - 1) * 2 ^ f.y)
  | .e4m3 => if sat then f.signCode neg f.maxCode else f.nanCode
  | .none => f.signCode neg f.maxCode

/-- The code of `r × 2 ^ q` without sign, exact, for a nonzero `r` on the format's grid; a value above the largest
finite one gives a larger number than its code, and one below the smallest normal of a flushed format gives 0. -/
def FFmt.magCode (f : FFmt) (r : Nat) (q : Int) : Nat :=
  let k := Nat.log2 r
  let E : Int := (k : Int) + q + f.bias
  if E < 1 then
    (if f.flush then 0 else r * 2 ^ (q - (1 - (f.bias : Int) - f.y)).toNat)
  else E.toNat * 2 ^ f.y + (if k ≤ f.y then r * 2 ^ (f.y - k) else r / 2 ^ (k - f.y)) - 2 ^ f.y

/-- A value rounded to a float format: rounding, flush, overflow and the special results, in the order of 08 R195
(R196, R197). -/
def FFmt.encode (f : FFmt) (rm : Rm) (sat : Bool) : Num → Nat
  | .nan => f.nanCode
  | .inf neg => f.infinity sat neg
  | .fin neg m e =>
    if m = 0 then f.signCode neg 0
    else
      let q := f.quantum m e
      let r := roundQ rm neg m e q
      if r = 0 then f.signCode neg 0
      else
        let c := f.magCode r q
        if f.maxCode < c then f.overflow sat neg else f.signCode neg c

/-- An integer clamped to `[lo, hi]` or taken modulo `2 ^ n`, as a code of `n` bits (08 R197). -/
def intCode (n : Nat) (lo hi : Int) (sat : Bool) (v : Int) : Nat :=
  if sat then wrapTo n (max lo (min hi v)) else wrapTo n v

/-- A value converted to an integer code of `n` bits whose unit is `2 ^ q` (q = −6 for MXINT8, else 0), under
08 R195 to R197. -/
def intEncode (n : Nat) (lo hi : Int) (q : Int) (rm : Rm) (sat : Bool) : Num → Nat
  | .nan => 0
  | .inf neg => if sat then intCode n lo hi true (if neg then lo else hi) else 0
  | .fin neg m e =>
    let r : Int := roundQ rm neg m e q
    intCode n lo hi sat (if neg then -r else r)

/-- The FP32 value of a lane, and the FP32 bits of a value rounded to nearest (06 R136). -/
def f32dec (b : Lane) : Num := fp32.decode b.toNat
def f32enc (v : Num) : Lane := BitVec.ofNat 32 (fp32.encode .near false v)

/-! ### Division, roots, powers and logarithms (06 R138) -/

/-- `⌊√n⌋` by Newton's iteration from above. -/
def isqrtGo : Nat → Nat → Nat → Nat
  | 0, _, x => x
  | k + 1, n, x =>
    let y := (x + n / x) / 2
    if x ≤ y then x else isqrtGo k n y

/-- `⌊√n⌋`. -/
def isqrt (n : Nat) : Nat := if n = 0 then 0 else isqrtGo (Nat.log2 n + 2) n (2 ^ (Nat.log2 n / 2 + 1))

/-- A positive quotient cut to `k` bits more than it needs, with its remainder kept as a sticky bit. -/
def stickyDiv (n d : Nat) : Nat := 2 * (n / d) + (if n % d = 0 then 0 else 1)

/-- `1 / v` to enough bits that one rounding to FP32 is exact (06 R138). -/
def Num.recip : Num → Num
  | .nan => .nan
  | .inf neg => .fin neg 0 0
  | .fin neg m e =>
    if m = 0 then .inf neg
    else
      let k := Nat.log2 m + 40
      .fin neg (stickyDiv (2 ^ k) m) (-e - k - 1)

/-- `1 / √v` to enough bits that one rounding to FP32 is exact (06 R138). -/
def Num.rsqrt : Num → Num
  | .nan => .nan
  | .inf neg => if neg then .nan else .fin false 0 0
  | .fin neg m e =>
    if m = 0 then .inf neg
    else if neg then .nan
    else
      let odd := e % 2 ≠ 0
      let m := if odd then 2 * m else m
      let e := if odd then e - 1 else e
      let k := Nat.log2 m + 40
      let r := isqrt (2 ^ (2 * k) / m)
      .fin false (2 * r + (if r * r * m = 2 ^ (2 * k) then 0 else 1)) (-(e / 2) - k - 1)

/-- Bits of the fixed point in which `exp2Frac` works: the hardest FP32 inputs need fewer than 64 bits beyond the
result's (DEDUCED, log entry 10). -/
def expBits : Nat := 160

/-- The product of `2 ^ (2 ^ -i)` over the bits `i = 1, 2, …` of a fraction whose bit `i` is `f.testBit (n - i)`:
`root` is the current `2 ^ (2 ^ -i)` and `acc` the product so far, both in fixed point. -/
def exp2Go : Nat → Nat → Nat → Nat → Nat
  | 0, _, _, acc => acc
  | i + 1, f, root, acc =>
    exp2Go i f (isqrt (root * 2 ^ expBits))
      (if f.testBit i then acc * root / 2 ^ expBits else acc)

/-- `2 ^ (f / 2 ^ n)` for a fraction `f < 2 ^ n`, in fixed point. -/
def exp2Frac (n f : Nat) : Nat := exp2Go n f (isqrt (2 * 2 ^ (2 * expBits))) (2 ^ expBits)

/-- `2 ^ v`, correctly rounded by one rounding to FP32 (06 R138).
(DEDUCED, log entry 10.) -/
def Num.exp2 : Num → Num
  | .nan => .nan
  | .inf neg => if neg then .fin false 0 0 else .inf false
  | .fin neg m e =>
    let top : Int := (Nat.log2 m : Int) + e
    if m = 0 ∨ top < -30 then .fin false 1 0
    else if 8 ≤ top then (if neg then .fin false 1 (-300) else .fin false 1 300)
    else
      let n := (-e).toNat
      let x : Int := (if neg then -(m : Int) else m) * (2 ^ e.toNat : Nat)
      let k : Int := x / (2 ^ n : Nat)
      let f := (x % (2 ^ n : Nat)).toNat
      if f = 0 then .fin false 1 k
      else .fin false (2 * exp2Frac n f + 1) (k - expBits - 1)

/-- Bits of the fixed point in which `log2Go` works, and bits of fraction it produces (DEDUCED, log entry 10). -/
def logBits : Nat := 320
def logFrac : Nat := 128

/-- The next bits of `log₂ y` for `1 ≤ y < 2` in fixed point, by squaring. -/
def log2Go : Nat → Nat → Nat → Nat
  | 0, _, acc => acc
  | i + 1, y, acc =>
    let z := y * y / 2 ^ logBits
    if 2 ^ (logBits + 1) ≤ z then log2Go i (z / 2) (2 * acc + 1) else log2Go i z (2 * acc)

/-- `log₂ v`, correctly rounded by one rounding to FP32 (06 R138).
(DEDUCED, log entry 10.) -/
def Num.log2 : Num → Num
  | .nan => .nan
  | .inf neg => if neg then .nan else .inf false
  | .fin neg m e =>
    if m = 0 then .inf true
    else if neg then .nan
    else
      let k : Int := (Nat.log2 m : Int) + e
      if m = 2 ^ Nat.log2 m then
        (if k = 0 then .fin false 0 0 else .fin (k < 0) k.natAbs 0)
      else
        let y := m * 2 ^ (logBits - Nat.log2 m)
        let f : Int := log2Go logFrac y 0
        let t : Int := 2 * (k * (2 ^ logFrac : Nat) + f) + 1
        .fin (t < 0) t.natAbs (-(logFrac : Int) - 1)

end Sys2Proof.Machine
end

