-- ==== Sys2Proof/Machine/Flags.lean ====
section
/-! DEFINITION. The block has no flags register: a comparison writes a mask register. This file gives the comparison
conditions of vcmp (06 R139) and the mask functions of the group width (05 R114, 06 R148). -/

namespace Sys2Proof.Machine

/-- An integer comparison; une is no integer condition (06 R139). -/
def condInt (cond : Nat) (a b : Int) : Bool :=
  match cond with
  | 0 => decide (a = b)
  | 1 => decide (a ≠ b)
  | 2 => decide (a < b)
  | 3 => decide (a ≤ b)
  | 4 => decide (b < a)
  | 5 => decide (b ≤ a)
  | _ => false

/-- A float comparison: every condition but une is false where an operand is NaN (06 R139). -/
def condNum (cond : Nat) (a b : Num) : Bool :=
  if a.isNan || b.isNan then decide (cond = 6)
  else match cond with
  | 0 => !a.lt b && !b.lt a
  | 1 => a.lt b || b.lt a
  | 2 => a.lt b
  | 3 => !b.lt a
  | 4 => b.lt a
  | 5 => !a.lt b
  | 6 => a.lt b || b.lt a
  | _ => false

/-- Ones in bits `[g − 1 : 0]` (05 R114). -/
def widthMask (g : Nat) : Word := BitVec.ofNat 64 (2 ^ g - 1)

/-- The mask whose bit `t` is `p t`, for the lanes below the width. -/
def maskOf (g : Nat) (p : Nat → Bool) : Word :=
  BitVec.ofNat 64 ((List.range g).foldl (fun acc t => if p t then acc + 2 ^ t else acc) 0)

/-- The mask functions of mlog on masks of width `g` (06 R148). -/
def maskFn (fn : Nat) (g : Nat) (a b s : Word) : Word :=
  match fn with
  | 0 => a &&& b
  | 1 => a ||| b
  | 2 => a ^^^ b
  | 3 => a &&& ~~~b
  | 4 => ~~~a &&& widthMask g
  | 5 => a
  | _ => s &&& widthMask g

end Sys2Proof.Machine
end

