-- ==== Sys2Proof/Machine/Formats.lean ====
section
/-! DEFINITION. The fifteen format codes, lane form and the conversions of cvt (08 R190 to R202). -/

namespace Sys2Proof.Machine

/-- What a format code stands for (00 R8, 08 R190): a float encoding, or integers of `n` bits in `[lo, hi]` whose
unit is `2 ^ q`. -/
inductive Fmt where
  | float (f : FFmt)
  | int (n : Nat) (lo hi q : Int)
  deriving DecidableEq, Repr

/-- The format of a code; 0xF names none (00 R8). -/
def fmtOf : Nat → Option Fmt
  | 0x0 => some (.float fp32)
  | 0x1 => some (.float bf16)
  | 0x2 => some (.float fp16)
  | 0x3 => some (.float e4m3)
  | 0x4 => some (.float e5m2)
  | 0x5 => some (.float e4m3)
  | 0x6 => some (.float e5m2)
  | 0x7 => some (.float e3m2)
  | 0x8 => some (.float e2m3)
  | 0x9 => some (.float e2m1)
  | 0xA => some (.int 8 (-128) 127 (-6))
  | 0xB => some (.int 8 (-128) 127 0)
  | 0xC => some (.int 8 0 255 0)
  | 0xD => some (.int 16 (-32768) 32767 0)
  | 0xE => some (.int 4 (-8) 7 0)
  | _ => none

/-- The codes 0x5 to 0xA are the microscaling formats (00 R8). -/
def fmtMx (c : Nat) : Bool := decide (5 ≤ c) && decide (c ≤ 0xA)

/-- The width of an element in bits. -/
def Fmt.width : Fmt → Nat
  | .float f => f.width
  | .int n _ _ _ => n

/-- The elements of one lane in lane form (08 R194). -/
def Fmt.perLane (f : Fmt) : Nat :=
  match f.width with
  | 32 => 1
  | 16 => 2
  | 8 => 4
  | 6 => 4
  | _ => 8

/-- Decoding of an element code to its exact value, before any scale (08 R190, R192). -/
def Fmt.decode : Fmt → Nat → Num
  | .float f, c => f.decode c
  | .int n lo _ q, c =>
    let v : Int := if lo < 0 then signed n c else (c % 2 ^ n : Nat)
    .fin (v < 0) v.natAbs q

/-- A value rounded to an element code (08 R195 to R197). -/
def Fmt.encode (rm : Rm) (sat : Bool) : Fmt → Num → Nat
  | .float f, v => f.encode rm sat v
  | .int n lo hi q, v => intEncode n lo hi q rm sat v

/-- A value multiplied by `2 ^ k`. -/
def Num.scale (k : Int) : Num → Num
  | .fin neg m e => .fin neg m (e + k)
  | v => v

/-- A microscaling element: multiplied by its scale `2 ^ (e − 127)`, or NaN where the scale byte is 0xFF
(08 R191, R201; 07 R171). -/
def mxValue (e : Nat) (v : Num) : Num := if e = 0xFF then .nan else v.scale ((e : Int) - 127)

/-- The pairs that cvt converts (08 R198). -/
def cvtPair (src dst : Nat) : Bool :=
  if src = 0 then decide (1 ≤ dst ∧ dst ≤ 0xE)
  else if src = 1 then decide (dst = 0 ∨ dst = 2 ∨ (3 ≤ dst ∧ dst ≤ 0xA))
  else if src = 2 then decide (dst = 0 ∨ dst = 1 ∨ (3 ≤ dst ∧ dst ≤ 0xA))
  else if src ≤ 0xA then decide (dst ≤ 2)
  else if src ≤ 0xE then decide (dst = 0)
  else false

/-- Conversions that are always exact: from an integer source, and from a 16-bit float source to FP32 (08 R198). -/
def cvtExact (src dst : Nat) : Bool := decide (0xB ≤ src) || ((src == 1 || src == 2) && dst == 0)

/-- The lengths of the source and destination spans of a cvt (08 R199). -/
def cvtSpans (src dst : Nat) : Nat × Nat :=
  match fmtOf src, fmtOf dst with
  | some s, some d =>
    let q := max s.perLane d.perLane
    (q / s.perLane, q / d.perLane)
  | _, _ => (1, 1)

/-- Element `e` of a lane in lane form (08 R194). -/
def laneElem (w : Nat) (x : Lane) (e : Nat) : Nat := x.toNat / 2 ^ (w * e) % 2 ^ w

/-- A lane built from its elements in lane form, element 0 lowest; unused bits are zero (08 R194). -/
def laneOf (w : Nat) (cs : List Nat) : Lane :=
  BitVec.ofNat 32 (cs.foldr (fun c acc => c % 2 ^ w + 2 ^ w * acc) 0)

/-- The values of a lane's sequence, as a cvt decodes them, and whether they count for the running maximum
(08 R199, R201, R202). -/
def cvtSource (src dst : Nat) (scale : Nat) (regs : List Lane) : List Num :=
  match fmtOf src with
  | none => []
  | some f =>
    (regs.flatMap fun x => (List.range f.perLane).map (laneElem f.width x)).map fun c =>
      if (fmtMx src || fmtMx dst) && scale = 0xFF then .nan
      else if fmtMx src then mxValue scale (f.decode c)
      else f.decode c

/-- One lane of a cvt: the destination registers of its sequence (08 R195, R199, R201). -/
def cvtLane (src dst : Nat) (rm : Rm) (sat : Bool) (scale : Nat) (regs : List Lane) : List Lane :=
  match fmtOf dst with
  | none => []
  | some f =>
    let cs := (cvtSource src dst scale regs).map fun v =>
      f.encode rm sat (if fmtMx dst then v.scale (127 - (scale : Int)) else v)
    (List.range (cvtSpans src dst).2).map fun r => laneOf f.width ((cs.drop (r * f.perLane)).take f.perLane)

/-- The running maximum raised by one value: NaN leaves it, infinities and values above the FP32 range give +Inf,
values below `2 ^ -126` count as +0 (08 R202). Nonnegative FP32 codes order as their numbers. -/
def amaxWith (m : Lane) (v : Num) : Lane :=
  match v with
  | .nan => m
  | .inf _ => f32enc (.inf false)
  | .fin _ k e =>
    let x := f32enc (.fin false k e)
    if m.toNat < x.toNat then x else m

end Sys2Proof.Machine
end

