-- ==== Sys2Proof/Machine/Lanes.lean ====
section
/-! DEFINITION. What one lane of a vector instruction computes (06 R136 to R139, R141), and the scalar operations. -/

namespace Sys2Proof.Machine

/-- Element types (06 R136, table "Element types"). -/
inductive ElTy where
  | u32 | s32 | f32 | bf16x2 | f16x2
  deriving DecidableEq, Repr

/-- The type of a TYPE code; 0x5 to 0xF are reserved. -/
def elTy : Nat → Option ElTy
  | 0 => some .u32
  | 1 => some .s32
  | 2 => some .f32
  | 3 => some .bf16x2
  | 4 => some .f16x2
  | _ => none

def ElTy.isFloat : ElTy → Bool
  | .u32 => false
  | .s32 => false
  | _ => true

/-- The modifiers of an arithmetic instruction (06 R136). -/
structure Mods where
  ty : ElTy := .u32
  sat : Bool := false
  negA : Bool := false
  negC : Bool := false
  deriving DecidableEq, Repr

/-- An exact integer result, wrapped modulo 2^32 or clamped to the type's range (06 R136). -/
def intLane (ty : ElTy) (sat : Bool) (v : Int) : Lane :=
  let r : Int :=
    if !sat then v
    else if ty = .s32 then max (-2147483648) (min 2147483647 v)
    else max 0 (min 4294967295 v)
  BitVec.ofInt 32 r

/-- A lane as an integer of its type. -/
def laneInt (ty : ElTy) (a : Lane) : Int := if ty = .s32 then a.toInt else (a.toNat : Int)

/-- One half of a packed lane. -/
def half (hi : Bool) (a : Lane) : Nat := if hi then a.toNat / 65536 else a.toNat % 65536

/-- A float operation on the elements of a lane: one FP32 value, or the two packed values element by element, each
computed exactly and rounded once (06 R136). -/
def floatLane (ty : ElTy) (op : Num → Num → Num → Num) (a b c : Lane) : Lane :=
  let pair (f : FFmt) : Lane :=
    let el (hi : Bool) := f.encode .near false
      (op (f.decode (half hi a)) (f.decode (half hi b)) (f.decode (half hi c)))
    BitVec.ofNat 32 (el true * 65536 + el false)
  match ty with
  | .bf16x2 => pair bf16
  | .f16x2 => pair fp16
  | _ => f32enc (op (f32dec a) (f32dec b) (f32dec c))

/-- NEG_A and NEG_C (06 R136). -/
def negIf (n : Bool) (v : Num) : Num := if n then v.negate else v

/-- One lane of an operation on integers or floats, with its modifiers. -/
def arith (m : Mods) (iop : Int → Int → Int → Int) (fop : Num → Num → Num → Num) (a b c : Lane) : Lane :=
  if m.ty.isFloat then floatLane m.ty (fun x y z => fop (negIf m.negA x) y (negIf m.negC z)) a b c
  else intLane m.ty m.sat (iop (laneInt m.ty a) (laneInt m.ty b) (laneInt m.ty c))

/-- The smaller of two values: the other where one is NaN, −0 below +0 (06 R137). -/
def Num.minNum (a b : Num) : Num :=
  if a.isNan then b else if b.isNan then a
  else if a.lt b then a else if b.lt a then b
  else if a.neg? then a else b

/-- The larger of two values: the other where one is NaN, +0 above −0 (06 R137). -/
def Num.maxNum (a b : Num) : Num :=
  if a.isNan then b else if b.isNan then a
  else if a.lt b then b else if b.lt a then a
  else if a.neg? then b else a

def laneAdd (m : Mods) (a b _c : Lane) : Lane := arith m (fun x y _ => x + y) (fun x y _ => x.add y) a b 0
def laneSub (m : Mods) (a b _c : Lane) : Lane := arith m (fun x y _ => x - y) (fun x y _ => x.add y.negate) a b 0
def laneMul (m : Mods) (a b _c : Lane) : Lane := arith m (fun x y _ => x * y) (fun x y _ => x.mul y) a b 0
def laneFma (m : Mods) (a b c : Lane) : Lane :=
  arith m (fun x y z => x * y + z) (fun x y z => (x.mul y).add z) a b c
def laneMin (m : Mods) (a b _c : Lane) : Lane := arith m (fun x y _ => min x y) (fun x y _ => x.minNum y) a b 0
def laneMax (m : Mods) (a b _c : Lane) : Lane := arith m (fun x y _ => max x y) (fun x y _ => x.maxNum y) a b 0
def laneAnd (_m : Mods) (a b _c : Lane) : Lane := a &&& b
def laneOr (_m : Mods) (a b _c : Lane) : Lane := a ||| b
def laneXor (_m : Mods) (a b _c : Lane) : Lane := a ^^^ b
def laneShl (_m : Mods) (a b _c : Lane) : Lane := a <<< (b.toNat % 32)
def laneShr (m : Mods) (a b _c : Lane) : Lane :=
  if m.ty = .s32 then a.sshiftRight (b.toNat % 32) else a >>> (b.toNat % 32)
def laneRcp (m : Mods) (a : Lane) : Lane := f32enc (negIf m.negA (f32dec a)).recip
def laneRsqrt (m : Mods) (a : Lane) : Lane := f32enc (negIf m.negA (f32dec a)).rsqrt
def laneExp2 (m : Mods) (a : Lane) : Lane := f32enc (negIf m.negA (f32dec a)).exp2
def laneLog2 (m : Mods) (a : Lane) : Lane := f32enc (negIf m.negA (f32dec a)).log2

/-- One lane of vcmp; for packed types both elements must meet the condition (06 R137, R139). -/
def laneCmp (m : Mods) (cond : Nat) (a b : Lane) : Bool :=
  let fl (f : FFmt) (x y : Nat) : Bool := condNum cond (negIf m.negA (f.decode x)) (f.decode y)
  match m.ty with
  | .u32 => condInt cond a.toNat b.toNat
  | .s32 => condInt cond a.toInt b.toInt
  | .f32 => fl fp32 a.toNat b.toNat
  | .bf16x2 => fl bf16 (half false a) (half false b) && fl bf16 (half true a) (half true b)
  | .f16x2 => fl fp16 (half false a) (half false b) && fl fp16 (half true a) (half true b)

/-! ### Scalar operations (06 R141) -/

def scAdd (a b : Word) : Word := a + b
def scSub (a b : Word) : Word := a - b
def scMul (a b : Word) : Word := a * b
def scAnd (a b : Word) : Word := a &&& b
def scOr (a b : Word) : Word := a ||| b
def scXor (a b : Word) : Word := a ^^^ b
def scShl (a b : Word) : Word := a <<< (b.toNat % 64)
def scShr (a b : Word) : Word := a >>> (b.toNat % 64)
def scSra (a b : Word) : Word := a.sshiftRight (b.toNat % 64)
def scMin (a b : Word) : Word := if b.slt a then b else a
def scMax (a b : Word) : Word := if a.slt b then b else a
def scSlt (a b : Word) : Word := if a.slt b then 1 else 0
def scSltu (a b : Word) : Word := if a.ult b then 1 else 0
def scMov (_a b : Word) : Word := b
def scOrHi (a b : Word) : Word := a ||| (b <<< 32)

/-! ### Atomic operations on 32-bit or 64-bit values (05 R124, 06 R144) -/

/-- FP32 add of an atomic: to nearest, ties to even, subnormals flushed (05 R124). -/
def fadd32 (a b : Nat) : Nat := (f32enc ((fp32.decode a).add (fp32.decode b))).toNat

/-- Minimum or maximum, signed or unsigned, of numbers of `n` bits. -/
def minmax (n : Nat) (isMax sx : Bool) (a b : Nat) : Nat :=
  let le : Bool := if sx then decide (signed n a ≤ signed n b) else decide (a ≤ b)
  if le != isMax then a else b

end Sys2Proof.Machine
end

