-- ==== Sys2Proof/Machine/Operands.lean ====
section
/-! DEFINITION. The fields of the instruction word (06 R131 to R153), the encoding check (R155) and the registers that
an instruction names (R112, R133). -/

namespace Sys2Proof.Machine

/-- The word a command stands for: its opcode and the operand's 56 bits (06 R131).
(DESIGN CHOICE, log entry 15.) -/
def wordOf (op : Nat) (w : Rest) : Word := BitVec.ofNat 64 (op % 256 * 2 ^ 56 + w.toNat)

/-- The word with bits `[lo + n − 1 : lo]` set to a number: a command whose mnemonic names a function of its opcode
(brm.any, mand, fence.release, crange.flush) fixes that field. -/
def withField (lo n v : Nat) (w : Word) : Word :=
  BitVec.ofNat 64 (w.toNat - fld lo n w * 2 ^ lo + v % 2 ^ n * 2 ^ lo)

def opc (w : Word) : Nat := fld 56 8 w

/-! Fields common to the formats VV, VS, M and C. -/
def fVD (w : Word) : Nat := fld 48 8 w
def fVA (w : Word) : Nat := fld 40 8 w
def fVB (w : Word) : Nat := fld 32 8 w
def fVC (w : Word) : Nat := fld 24 8 w
/-! VS (06 R140). -/
def fK (w : Word) : Bool := bitAt 32 w
def fImm (w : Word) : Nat := fld 0 32 w
/-! M (06 R142). -/
def fSB (w : Word) : Nat := fld 26 6 w
def fAmode (w : Word) : Nat := fld 24 2 w
def fSize (w : Word) : Nat := fld 22 2 w
def fScope (w : Word) : Nat := fld 19 3 w
def fOrd (w : Word) : Nat := fld 17 2 w
def fSX (w : Word) : Bool := bitAt 16 w
def fRet (w : Word) : Bool := bitAt 15 w
/-- The signed byte offset, sign-extended to 64 bits. -/
def fOff (w : Word) : Word := BitVec.ofInt 64 (signed 15 (fld 0 15 w))
/-- The access size in bytes. -/
def accBytes (w : Word) : Nat := 2 ^ fSize w
/-! B (06 R146). -/
def fMD (w : Word) : Nat := fld 53 3 w
def fMA (w : Word) : Nat := fld 50 3 w
def fMB (w : Word) : Nat := fld 47 3 w
def fBSA (w : Word) : Nat := fld 40 6 w
def fMfn (w : Word) : Nat := fld 24 4 w
/-- The branch displacement in bytes: 8 × OFFSET. -/
def fDisp (w : Word) : Word := BitVec.ofInt 64 (8 * signed 24 (fld 0 24 w))
/-! C (06 R149). -/
def fFsrc (w : Word) : Nat := fld 28 4 w
def fFdst (w : Word) : Nat := fld 24 4 w
def fCSD (w : Word) : Nat := fld 14 6 w
def fRm (w : Word) : Rm := if fld 20 2 w = 1 then .zero else .near
/-! X and S (06 R150, R151). -/
def fXD (w : Word) : Nat := fld 50 6 w
def fXA (w : Word) : Nat := fld 44 6 w
def fXB (w : Word) : Nat := fld 38 6 w
def fXC (w : Word) : Nat := fld 32 6 w
def fFmtA (w : Word) : Nat := fld 28 4 w
def fFmtB (w : Word) : Nat := fld 24 4 w
/-- M or N of a tile: 0 → 16, 1 → 32, 2 → 64 (07 R168). -/
def dimOf (c : Nat) : Nat := 16 * 2 ^ c
def fM (w : Word) : Nat := dimOf (fld 0 2 w)
def fN (w : Word) : Nat := dimOf (fld 2 2 w)
def fAcc (w : Word) : Nat := fld 8 5 w

/-- The modifiers of a VV word. -/
def modsVV (w : Word) : Mods :=
  { ty := (elTy (fld 20 4 w)).getD .u32, sat := bitAt 16 w, negA := bitAt 17 w, negC := bitAt 18 w }
/-- The modifiers of a VS word. -/
def modsVS (w : Word) : Mods :=
  { ty := (elTy (fld 36 4 w)).getD .u32, sat := bitAt 33 w, negA := bitAt 34 w, negC := bitAt 35 w }

/-- The types that a VV operation accepts (06 R137). -/
def vvTypes (op : Nat) : List ElTy :=
  if op ≤ 0x06 ∨ op = 0x10 then [.u32, .s32, .f32, .bf16x2, .f16x2]
  else if op = 0x0B then [.u32, .s32]
  else if 0x18 ≤ op then [.f32]
  else [.u32]

/-- The modifiers an operation may carry with a type (06 R136). -/
def modsLegal (op ty : Nat) (sat negA negC : Bool) : Bool :=
  match elTy ty with
  | none => false
  | some t =>
    (vvTypes op).contains t &&
    (!sat || (decide (1 ≤ op ∧ op ≤ 4) && !t.isFloat)) &&
    (!negA || t.isFloat) &&
    (!negC || (op == 4 && t.isFloat))

/-- The VV opcodes. -/
def isVV (op : Nat) : Bool :=
  (decide (0x01 ≤ op) && decide (op ≤ 0x0D)) || op == 0x10 || (decide (0x18 ≤ op) && decide (op ≤ 0x1B))

/-- A legal VV word (06 R135 to R139, R155). -/
def legalVV (w : Word) : Bool :=
  let op := opc w
  let cond := fld 12 4 w
  modsLegal op (fld 20 4 w) (bitAt 16 w) (bitAt 17 w) (bitAt 18 w) &&
  !bitAt 19 w && fld 0 12 w == 0 &&
  (if op = 0x10 then decide (1 ≤ fVD w ∧ fVD w < 8) && decide (cond ≤ 6) &&
      (cond != 6 || (modsVV w).ty.isFloat)
    else cond == 0) &&
  (decide (op < 0x18) || fVB w == 0) &&
  (if op = 0x04 then true else if op = 0x0C then decide (fVC w < 8) else fVC w == 0)

/-- The VS opcodes of vector forms with a VV counterpart (06 R141). -/
def isVSArith (op : Nat) : Bool := decide (0x41 ≤ op) && decide (op ≤ 0x4B)
/-- The scalar opcodes. -/
def isScalar (op : Nat) : Bool := decide (0x60 ≤ op) && decide (op ≤ 0x6E)

/-- A legal VS or scalar word for a group of width `g` (06 R140, R141, R155). -/
def legalVS (g : Nat) (w : Word) : Bool :=
  let op := opc w
  let noMod := fld 33 7 w == 0
  let opnd := fK w || fld 6 26 w == 0
  if isVSArith op then
    modsLegal (op - 0x40) (fld 36 4 w) (bitAt 33 w) (bitAt 34 w) (bitAt 35 w) && opnd
  else if op = 0x5C then noMod && opnd && fVA w == 0
  else if op = 0x5D then noMod && fK w && fld 6 26 w == 0 && decide (fld 0 6 w < g) && decide (fVD w < 64)
  else if op = 0x5E then noMod && !fK w && fImm w == 0 && fVA w == 0
  else noMod && opnd && decide (fVD w < 64) && decide (fVA w < 64) && (op != 0x6D || fVA w == 0)

/-- The atomic opcodes. -/
def isAtomic (op : Nat) : Bool := decide (0x77 ≤ op) && decide (op ≤ 0x7F)

/-- Registers of an operand: 2 for eight bytes, else 1 (06 R144). -/
def sizeSpan (w : Word) : Nat := if fSize w = 3 then 2 else 1
/-- Registers of an atomic's operand: atom.cas holds the compare and the new value (06 R144). -/
def atomSpan (w : Word) : Nat := if opc w = 0x77 then 2 * sizeSpan w else sizeSpan w

/-- A legal M word (06 R142 to R145, R155). SX of a scalar load sign-extends at every size (DEDUCED, log entry 14). -/
def legalM (w : Word) : Bool :=
  let op := opc w
  let am := fAmode w
  let ordOk (o : Nat) := (fOrd w == 0 && fScope w == 0) || (fOrd w == o && decide (fScope w ≤ 5))
  let vaOk := am != 3 && (am != 0 || fVA w == 0)
  if op = 0x70 then
    vaOk && ordOk 1 && fVB w == 0 && !fRet w && (!fSX w || decide (fSize w ≤ 1)) && fVD w % sizeSpan w == 0
  else if op = 0x71 then
    vaOk && ordOk 2 && fVD w == 0 && !fRet w && !fSX w && fVB w % sizeSpan w == 0
  else if op = 0x72 then
    am == 0 && fVA w == 0 && ordOk 1 && fVB w == 0 && !fRet w && decide (fVD w < 64)
  else if op = 0x73 then
    am == 0 && fVA w == 0 && ordOk 2 && fVD w == 0 && !fRet w && !fSX w && decide (fVB w < 64)
  else
    vaOk && fOrd w == 0 && decide (fScope w ≤ 5) &&
    (fSize w == 2 || (fSize w == 3 && op != 0x79)) &&
    (!fSX w || op == 0x7A || op == 0x7B) &&
    (if fRet w then fVD w % sizeSpan w == 0 else fVD w == 0) &&
    fVB w % atomSpan w == 0

/-- A legal B word (06 R146 to R148, R155). -/
def legalB (w : Word) : Bool :=
  let op := opc w
  let z (md ma mb all sa mfn off : Bool) : Bool :=
    (md || fMD w == 0) && (ma || fMA w == 0) && (mb || fMB w == 0) && (all || !bitAt 46 w) &&
    (sa || fBSA w == 0) && fld 28 12 w == 0 && (mfn || fMfn w == 0) && (off || fld 0 24 w == 0)
  match op with
  | 0x80 => z false false false false false false true
  | 0x81 => z false true false true false false true
  | 0x82 => z false false false false true false true
  | 0x83 => z false false false false true false true
  | 0x84 => z false false false false true false true
  | 0x85 => z false false false false true false false
  | 0x88 => z false true false false false false true
  | 0x89 => z false false false false false false true
  | 0x8A => z false false false false false false false
  | 0x8B => z false false false false false false true
  | 0x8C => z false true false false false false false
  | 0x8D => z false true false false false false false
  | 0x8E => z false false false false false false false
  | 0x8F =>
    let fn := fMfn w
    if fn ≤ 3 then z true true true false false true false && fMD w != 0
    else if fn ≤ 5 then z true true false false false true false && fMD w != 0
    else if fn = 6 then z true false false false true true false && fMD w != 0
    else if fn = 7 then z false true false false true true false
    else false
  | _ => false

/-- A legal C word (06 R149, 08 R198, R199, R201). -/
def legalC (w : Word) : Bool :=
  if opc w = 0x90 then
    let sp := cvtSpans (fFsrc w) (fFdst w)
    cvtPair (fFsrc w) (fFdst w) && (cvtExact (fFsrc w) (fFdst w) || decide (fld 20 2 w ≤ 1)) && fld 0 20 w == 0 &&
    fVA w % sp.1 == 0 && fVD w % sp.2 == 0 &&
    (fmtMx (fFsrc w) || fmtMx (fFdst w) || fVB w == 0)
  else fld 20 36 w == 0 && fld 0 13 w == 0

/-- The format classes of mma (07 R169). -/
def isFloatClass (c : Nat) : Bool := decide (1 ≤ c ∧ c ≤ 0xA)
def isIntClass (c : Nat) : Bool := decide (0xB ≤ c ∧ c ≤ 0xE)

/-- A legal tile: shape codes below 3, and a 64 × 64 tile at an even base slot (07 R165, R168). -/
def tileLegal (w : Word) : Bool :=
  decide (fld 0 2 w < 3) && decide (fld 2 2 w < 3) && (!(fld 0 2 w == 2 && fld 2 2 w == 2) || fAcc w % 2 == 0)

/-- A legal X word (06 R150; 07 R168, R169, R175 to R177, R182). -/
def legalX (w : Word) : Bool :=
  match opc w with
  | 0xA0 =>
    tileLegal w && decide (fld 4 2 w < 3) && fld 13 11 w == 0 &&
    ((isFloatClass (fFmtA w) && isFloatClass (fFmtB w) && !bitAt 6 w) || (isIntClass (fFmtA w) && isIntClass (fFmtB w)))
  | 0xA1 =>
    let int := bitAt 6 w
    let eop := fld 13 2 w
    let topk := bitAt 15 w
    let fb := fFmtB w
    tileLegal w && fld 4 2 w == 0 && !bitAt 7 w && decide (eop < 3) && (!int || eop == 0) &&
    (if topk then decide (fld 16 6 w + 1 ≤ fN w) else fld 16 6 w == 0) &&
    (if eop = 0 then fFmtA w == 0 && fXB w == 0 else decide (fFmtA w ≤ 2)) &&
    (topk || bitAt 23 w || fXC w == 0) &&
    (if int then fb == 0 || (!topk && isIntClass fb) else if topk then decide (fb ≤ 2) else decide (fb ≤ 4))
  | 0xA2 =>
    tileLegal w && fld 4 4 w == 0 && fld 13 11 w == 0 && fFmtA w == 0 && fFmtB w == 0 &&
    fXA w == 0 && fXB w == 0 && fXC w == 0
  | 0xA3 => decide (1 ≤ fFmtA w ∧ fFmtA w ≤ 4) && fFmtB w == 0 && fld 1 23 w == 0
  | 0xA8 => fXD w == 0 && fXB w == 0 && fXC w == 0 && fld 0 32 w == 0
  | _ => false

/-- A legal S word (06 R151 to R153). -/
def legalS (w : Word) : Bool :=
  let sd0 := fXD w == 0
  let sa0 := fXA w == 0
  let sb0 := fXB w == 0
  fld 32 6 w == 0 &&
  match opc w with
  | 0xB0 => sd0 && sa0 && sb0 && fImm w == 0
  | 0xB1 => sd0 && sa0 && sb0 && fImm w == 0
  | 0xB2 => sd0 && sa0 && sb0 && decide (fImm w < 4)
  | 0xB3 => sd0 && sa0 && sb0 && decide (fImm w < 4)
  | 0xB4 => sd0 && sa0 && sb0 && decide (fld 0 3 w ≤ 5) && decide (fld 3 2 w ≤ 2) && fld 5 27 w == 0
  | 0xB5 => sd0 && sb0 && fld 7 25 w == 0 &&
      (if bitAt 6 w then fld 0 6 w == 0 else sa0 && decide (8 ≤ fld 0 6 w))
  | 0xB6 => sa0 && sb0 && decide (fImm w ≤ 8)
  | 0xB7 => sd0 && decide (fImm w ≤ 2)
  | _ => false

/-- The opcodes that chapter 6 lists (06 R132). -/
def listedOp (op : Nat) : Bool :=
  isVV op || isVSArith op || (decide (0x5C ≤ op) && decide (op ≤ 0x5E)) || isScalar op ||
  (decide (0x70 ≤ op) && decide (op ≤ 0x73)) || isAtomic op ||
  (decide (0x80 ≤ op) && decide (op ≤ 0x85)) || (decide (0x88 ≤ op) && decide (op ≤ 0x8F)) ||
  op == 0x90 || op == 0x91 || (decide (0xA0 ≤ op) && decide (op ≤ 0xA3)) || op == 0xA8 ||
  (decide (0xB0 ≤ op) && decide (op ≤ 0xB7))

/-- The encoding check of a word that a group of width `g` would issue (06 R155). -/
def legalWord (g : Nat) (w : Word) : Bool :=
  let op := opc w
  listedOp op &&
  (if op < 0x40 then legalVV w else if op < 0x70 then legalVS g w else if op < 0x80 then legalM w
   else if op < 0x90 then legalB w else if op < 0xA0 then legalC w else if op < 0xB0 then legalX w else legalS w)

/-- The vector registers an instruction names, as first register and span (06 R133, 05 R112). -/
def vregsOf (w : Word) : List (Nat × Nat) :=
  let op := opc w
  if op < 0x40 then
    (if op = 0x10 then [] else [(fVD w, 1)]) ++ [(fVA w, 1)] ++ (if op < 0x18 then [(fVB w, 1)] else []) ++
    (if op = 0x04 then [(fVC w, 1)] else [])
  else if op < 0x60 then
    (if op = 0x5D then [] else [(fVD w, 1)]) ++ (if op = 0x5C ∨ op = 0x5E then [] else [(fVA w, 1)])
  else if op < 0x70 then []
  else if op < 0x80 then
    if op = 0x72 ∨ op = 0x73 then []
    else (if fAmode w = 0 then [] else [(fVA w, 1)]) ++
      (if op = 0x70 then [(fVD w, sizeSpan w)]
       else if op = 0x71 then [(fVB w, sizeSpan w)]
       else (if fRet w then [(fVD w, sizeSpan w)] else []) ++ [(fVB w, atomSpan w)])
  else if op = 0x90 then
    let sp := cvtSpans (fFsrc w) (fFdst w)
    [(fVA w, sp.1), (fVD w, sp.2)] ++ (if fmtMx (fFsrc w) || fmtMx (fFdst w) then [(fVB w, 1)] else [])
  else []

/-- Every register the word names lies below the kernel's register count (05 R112). -/
def allocOk (r : Nat) (w : Word) : Bool := (vregsOf w).all fun p => decide (p.1 + p.2 ≤ r)

end Sys2Proof.Machine
end

