-- ==== Sys2Proof/Machine/TMft.lean ====
section
/-! DEFINITION. The Manifest, its records, and the state of the MFT block (02 R40 to R62). -/

namespace Sys2Proof.Machine

/-- A record: the offset of its type field, its type and its body (02 R42). -/
structure Rec where
  off : Nat := 0
  ty : Nat := 0
  body : List Byte := []
  deriving DecidableEq, Repr

/-- A Manifest whose header and record area have been read (02 R41, R42). -/
structure Manifest where
  live : Bool := false
  seq : Nat := 0
  keyId : List Byte := []
  recs : List Rec := []
  /-- all bytes, header through trailer -/
  bytes : List Byte := []
  deriving DecidableEq, Repr

/-- A Manifest slot of the flash: its bytes, none where it is empty, and the verdicts on its trailer. -/
structure MftSlot where
  bytes : List Byte := []
  sigs : Sigs := {}
  deriving DecidableEq, Repr

/-- Where a submission stands: validating, or its flash write in progress (02 R52, R56, R60). -/
inductive MftPhase where
  | idle | validating | writing (slot : Nat) (raise : Bool)
  deriving DecidableEq, Repr

/-- The MFT block and the Manifest region of the flash (02 R61). -/
structure Mft where
  /-- 0 none applied yet, 2 running, 3 unconfigured -/
  state : Nat := 0
  phase : MftPhase := .idle
  candidate : List Byte := []
  runSlot : Nat := 0
  lastResult : Nat := 0
  lastLive : Bool := false
  resultNew : Bool := false
  /-- the anti-rollback floor of the XD0 nonvolatile store -/
  floor : Nat := 0
  errOffset : Nat := 0
  errType : Nat := 0
  slot0Result : Nat := 0
  slot1Result : Nat := 0
  src : Nat := 0
  len : Nat := 0
  slots : Tbl MftSlot := []
  /-- the verdicts on the candidate's trailer -/
  sigs : Sigs := {}
  running : Option Manifest := none
  /-- the Manifest that ran before a live one whose flash write is in progress (02 R59) -/
  before : Option Manifest := none
  /-- MFT_DIGEST: SHA-384 of the running Manifest's signed message -/
  digest : List Byte := List.replicate 48 0
  /-- a Manifest has been stored under R55 since the last boot while none runs -/
  stored : Bool := false
  deriving DecidableEq, Repr

/-- The record of a type that a Manifest holds once. -/
def Manifest.body (m : Manifest) (ty : Nat) : List Byte :=
  ((m.recs.find? fun r => r.ty == ty).map Rec.body).getD []

/-- `n` bytes of a record body at an offset, as a number. -/
def bf (b : List Byte) (off n : Nat) : Nat := ofBytes ((b.drop off).take n)

/-- Object `n` of a bitmap field (02 R42). -/
def bitmapAt (b : List Byte) (off n : Nat) : Bool := ((b.getD (off + n / 8) 0).toNat).testBit (n % 8)

/-- The body of the POOL record of a pool. -/
def Manifest.pool (m : Manifest) (q : Nat) : Option (List Byte) :=
  (m.recs.find? fun r => r.ty == 6 && bf r.body 0 1 == q).map Rec.body

/-! The fields of a POOL record (02 R46). -/
def poolPinWays (b : List Byte) : Nat := bf b 1 1
def poolDebug (b : List Byte) : Bool := bf b 2 1 % 2 == 1
def poolCluster (b : List Byte) (n : Nat) : Bool := bitmapAt b 4 n
def poolHbmGib (b : List Byte) : Nat := bf b 16 4
def poolLpxGib (b : List Byte) : Nat := bf b 20 4
def poolMaxBerths (b : List Byte) : Nat := bf b 26 2
def poolSessions (b : List Byte) : Nat := bf b 28 2
def poolContexts (b : List Byte) : Nat := bf b 30 2

end Sys2Proof.Machine
end

