-- ==== Sys2Proof/Machine/TPlat.lean ====
section
/-! DEFINITION. Boot, security, power and the nonvolatile memories of XD0 (17 R359; 18 R393 to R403; 19 R404 to R431;
21 R452 to R470; 22 R475 to R488), the berth command block (03 R80), the proofer's intake (04 R88) and Ethernet
interfaces (16 R357). -/

namespace Sys2Proof.Machine

/-- A firmware image of the boot flash: whether it passes 19 R407 but for the revocation fuse, its slot and version and
its FW_DIGEST. -/
structure Image where
  good : Bool := true
  keyIx : Nat := 0
  version : Nat := 0
  digest : List Byte := []
  deriving DecidableEq, Repr

/-- The RST block and the conditions of a boot (21 R452, R470; 22 R474).
(DESIGN CHOICE, log entry 7.) -/
structure Rst where
  step : Nat := 0
  ready : Bool := false
  cause : Nat := 0
  image : Nat := 0
  refused : Bool := false
  prefer : Nat := 0
  tries : Nat := 0
  readyTick : Nat := 0
  /-- firmware serves the mailbox, or the security controller serves it alone (21 R458) -/
  fwUp : Bool := false
  recovery : Bool := false
  /-- the tick at which step 8 started, until firmware writes READY (21 R457) -/
  watchdog : Option Nat := none
  /-- PGOOD is high, REFCLK counts as present, RESET_IN_N is asserted, VDD_AON is present -/
  power : Bool := true
  refclk : Bool := true
  resetIn : Bool := false
  vddAon : Bool := true
  /-- a boot runs after the present conditions clear, with its CAUSE; `bootFrom5` after UNMOOR -/
  pending : Bool := true
  bootFrom5 : Bool := false
  /-- the firmware images A and B of the boot flash (21 R455) -/
  firmwares : Tbl (Option Image) := [(0, some {}), (1, some {})]
  deriving DecidableEq, Repr

/-- The AON block: clock source, moored, sideband pins, cooling and the trip latch (18 R403, 22 R475 to R488). -/
structure Aon where
  osc : Bool := false
  refclkLost : Bool := false
  oscPpm : Nat := 0
  moored : Bool := false
  /-- the tick at which REFCLK was lost (18 R383, R384) -/
  refclkGood : Option Nat := none
  /-- by category: the tick until which an event's pins stay asserted at least (22 R476) -/
  evtUntil : Tbl Nat := []
  /-- the levels of the last sample, 1 high (22 R477) -/
  pinLevel : Nat := 0
  shortLow : Nat := 0
  shortHigh : Nat := 0
  /-- mismatching samples in a row, low and high, by pin -/
  runLow : Tbl Nat := []
  runHigh : Tbl Nat := []
  /-- the tick of the last evaluation, and the rows then, in 1/16 °C (22 R486) -/
  coolTick : Nat := 0
  inletRow : Nat := 0
  outletRow : Nat := 0
  reversed : Bool := false
  /-- evaluations in a row towards the other state -/
  coolRun : Nat := 0
  tripped : Bool := false
  tripJunction : Bool := false
  tripStack : Bool := false
  deriving DecidableEq, Repr

/-- The PWR registers of XD0 (18 R402). Watts in 1/16 W where the register has them so. -/
structure Pwr where
  state : Nat := 2
  excess : Bool := false
  telemetryLost : Bool := false
  /-- the margins applied, by rail: the offset in mV, as a byte (18 R392) -/
  rails : Tbl Nat := []
  cap : Nat := 0
  floor : Nat := 0
  capMax : Nat := 0
  estimator : Nat := 0
  total : Nat := 0
  measured : Nat := 0
  gain : Nat := 0x1000
  overCount : Nat := 0
  emerg : Nat := 0
  bulk : Nat := 0
  std : Nat := 0
  asr : Nat := 0
  /-- the tick of the last update, and the unthrottled draws of the classes then, scaled (18 R397) -/
  updated : Nat := 0
  uPrev : List Nat := [0, 0, 0]
  /-- sum (times 4,096) and number of the estimates of the running millisecond (18 R396) -/
  acc : Nat := 0
  accN : Nat := 0
  readTick : Nat := 0
  missed : Nat := 0
  rejected : Bool := false
  /-- the tick since which no cause of EMERGENCY has been present (18 R399) -/
  calm : Option Nat := none
  deriving DecidableEq, Repr

/-- A margin is applied to a rail (18 R392). -/
def Pwr.margin (p : Pwr) : Bool := !p.rails.isEmpty

/-- The security controller: fuses, SEC block, keys and HSS state (19 R404 to R430).
(DESIGN CHOICE, log entry 7.) -/
structure Sec where
  entries : List Nat := [1]
  serial : List Byte := List.replicate 16 0
  revoked : Nat := 0
  udsGone : Bool := false
  /-- OWNER_KEY_ID of the owner key record in the store -/
  owner : Option (List Byte) := none
  /-- the TRANSITIONS that this record carries (19 R420, R421) -/
  ownerTrans : Nat := 0
  /-- a transition whose record is written and whose fuse entry is not blown yet: its target (19 R420) -/
  moving : Option Nat := none
  ready : Bool := false
  token : Option Nat := none
  result : Nat := 0
  resultNew : Bool := false
  src : Nat := 0
  len : Nat := 0
  dst : Nat := 0
  /-- the command that runs, its input, and whether a mailbox request waits for it -/
  running : Option Nat := none
  input : List Byte := []
  viaMbx : Bool := false
  challenge : List Byte := List.replicate 32 0
  bootId : Word := 0
  fwVersion : Nat := 0
  fwDigest : List Byte := []
  next : Nat := 0
  top : Nat := 0
  /-- a write of TOP + 1,024 runs; the last one failed -/
  reserving : Bool := false
  reserveFailed : Bool := false
  /-- the lower tree that has been built ahead (19 R416) -/
  built : Nat := 0
  createNext : Nat := 0
  createTop : Nat := 0
  /-- the KIND 0 report of the current boot: its first 0x164 bytes -/
  report : List Byte := []
  deriving DecidableEq, Repr

/-- The calibration record (19 R425 to R431): stored bytes, and those in force.
(DESIGN CHOICE, log entry 7.) -/
structure Cal where
  stored : List Byte := []
  inForce : List Byte := []
  bad : Bool := false
  pending : Bool := false
  deriving DecidableEq, Repr

/-- The nonvolatile store of XD0 but for the parts above: field repair (17 R359, R361) and RPR_FATAL.
(DESIGN CHOICE, log entry 7.) -/
structure Nv where
  failedSlots : List Nat := []
  /-- bindings of clusters whose spare has been used: core slot and logical index -/
  bindings : List (Nat × Nat) := []
  /-- arrays repaired in the field by die code -/
  arrays : Tbl Nat := []
  mappedPcs : List Nat := []
  failedSlices : List Nat := []
  /-- the retired-page list, in units of 64 KiB -/
  listed : List Nat := []
  bootOnly : Nat := 0
  listFull : Bool := false
  fatalCause : Nat := 0
  fatalDie : Nat := 0
  deriving DecidableEq, Repr

/-- A berth command (03 R79). -/
structure BerthCmd where
  op : Nat
  berth : Nat
  args : List Word
  deriving DecidableEq, Repr

/-- The BTH command block (03 R80). -/
structure Bth where
  args : Tbl Word := []
  /-- the command that runs or is held -/
  running : Option BerthCmd := none
  done : Bool := false
  result : Nat := 0
  resultBerth : Nat := 0
  msiAddr : Word := 0
  msiData : Nat := 0
  viaMbx : Bool := false
  deriving DecidableEq, Repr

/-- The proofer's intake and its device-wide registers (04 R88, R106). -/
structure Prf where
  queue : List Header := []
  /-- headers on their way to the proofer, oldest first -/
  onWay : List Header := []
  decided : Nat := 0
  busyRefused : Nat := 0
  /-- interference intervals that have been evaluated (04 R104) -/
  interval : Nat := 0
  deriving DecidableEq, Repr

/-- An Ethernet interface (16 R357). -/
structure EthIf where
  mtu : Nat := 0x5DC
  vlan : Nat := 0
  up : Bool := false
  ip6Hi : Word := 0
  ip6Lo : Word := 0
  ip4 : Nat := 0
  rx : Nat := 0
  drop : Nat := 0
  deriving DecidableEq, Repr

end Sys2Proof.Machine
end

