-- ==== Sys2Proof/Machine/TOut.lean ====
section
/-! DEFINITION. Event records (17 R379, 21 R468) and what leaves the device (DESIGN CHOICE, log entry 12). -/

namespace Sys2Proof.Machine

/-- A repair, fault or further event record (17 R379). -/
structure EventRec where
  code : Nat := 0
  category : Nat := 0
  die : Nat := 0x20
  unit : Nat := 0
  berth : Nat := 0xFF
  cause : Nat := 0
  ctx : Nat := 0xFFFF
  tick : Nat := 0
  detail : Nat := 0
  deriving DecidableEq, Repr

/-- What the device sends or shows to the outside, newest first in the State's log.
(DESIGN CHOICE, log entry 12.) -/
inductive Out where
  /-- a packet of the berth transport: session, interface and destination, type, SEQ, body before encryption, and the bytes as
  they leave (16 R341, R342, R354) -/
  | packet (conn iface : Nat) (peer : List Byte) (ty seq : Nat) (body bytes : List Byte)
  /-- a frame of an Ethernet interface (16 R339) -/
  | frame (iface : Nat) (body : List Byte)
  /-- a flit of a crossing link: port, TYPE, FLAGS, SEQ, ACK_SEQ, body before encryption, and the 256 bytes as they leave (15
  R325) -/
  | flit (port ty flags seq ack : Nat) (body bytes : List Byte)
  /-- the lane markers of a crossing port: port, and the first bytes of this device's identity digest; lane i repeats number i
  (15 R321, R322) -/
  | markers (port : Nat) (digest : Word)
  /-- the value that a register or status read returns -/
  | value (v : Word)
  /-- a coherence reply to its requester: DATA, ACK or NACK (10 R230) -/
  | coh (who line kind : Nat) (data : List Byte)
  /-- a message interrupt: to a steward core's IMSIC, or an MSI-X vector of the management endpoint -/
  | msi (addr : Word) (data : Nat)
  /-- bytes on a board interface: JTAG, I3C, or a scan chain -/
  | pinsOut (kind : Nat) (bits : List Byte)
  deriving DecidableEq, Repr

end Sys2Proof.Machine
end

