-- ==== Sys2Proof/Machine/TSess.lean ====
section
/-! DEFINITION. Sessions, tray stores and the allocator's intake (13 R280 to R298), and set-engine descriptors (14 R299
to R318). -/

namespace Sys2Proof.Machine

/-- A session (13 R280, R281). -/
structure Sess where
  /-- 0 FREE, 1 OPEN, 2 MEMBER, 3 DEFERRED -/
  state : Nat := 0
  berth : Nat := 0
  reserved : Bool := false
  batch : Nat := 0
  len : Nat := 0
  maxTokens : Nat := 0
  tpt : Nat := 0
  streams : Nat := 0
  /-- the frames of its trays in tray order, each its BVA divided by 65,536 -/
  rack : List Nat := []
  /-- frames reserved and not yet allocated -/
  resvLeft : Nat := 0
  deriving DecidableEq, Repr

/-- A frame of a tray store: in the capacity tier, and holding a tray. -/
structure Frame where
  tier : Bool := false
  used : Bool := false
  deriving DecidableEq, Repr

/-- A command of a berth in the allocator's intake (13 R293, R295). -/
structure SesCmd where
  who : GroupId
  code : Nat
  arg0 : Word
  arg1 : Word
  num : Nat := 0
  /-- a STEP's units of partners' memory received, by aperture address divided by 64, and its requests without a response -/
  got : List (Nat × List Byte) := []
  open_ : Nat := 0
  deriving DecidableEq, Repr

/-- The tray store of a berth and its allocator state (13 R283, R288, R290, R298). -/
structure Store where
  frames : Tbl (Option Frame) := []
  spill : Bool := false
  /-- deferred joins, oldest first: batch, session, tokens -/
  deferred : List (Nat × Nat × Nat) := []
  deferCount : Nat := 0
  stallCount : Nat := 0
  intake : List SesCmd := []
  /-- commands that have reached the intake -/
  taken : Nat := 0
  deriving DecidableEq, Repr

/-- A set-engine descriptor that is submitted and not completed (14 R300 to R317). -/
structure Desc where
  num : Nat := 0
  who : GroupId
  /-- the position of the group's core among its context's cores, and the rank of its cluster -/
  pos : Nat := 0
  rank : Nat := 0
  bva : Nat := 0
  /-- the memory-side die whose queue holds it -/
  md : Nat := 0
  /-- the engine that runs it, and the one that ran it last -/
  engine : Option Nat := none
  last : Nat := 0
  /-- its fields have been checked and its operation performed; else it waits for a partner's bytes, or has not started -/
  performed : Bool := false
  /-- units of a partner's memory received, by aperture address divided by 64 -/
  got : List (Nat × List Byte) := []
  /-- requests to partners without a response -/
  open_ : Nat := 0
  /-- output not written yet: pieces by address, and a SCATTER's reductions with their operation and width (14 R317) -/
  writes : List (Nat × List Byte) := []
  reds : List (Nat × Nat) := []
  redOp : Rmw := .add
  redBytes : Nat := 4
  /-- work units left, and the results to be written -/
  work : Nat := 0
  status : Nat := 0
  count : Nat := 0
  deriving DecidableEq, Repr

/-- The registers of a set engine (14 R318). -/
structure SetEng where
  inService : Bool := false
  done : Nat := 0
  units : Nat := 0
  statusErr : Nat := 0
  faults : Nat := 0
  deriving DecidableEq, Repr

end Sys2Proof.Machine
end

