-- ==== Sys2Proof/Machine/TTrans.lean ====
section
/-! DEFINITION. Transport sessions, their messages, and the sends of results (16 R339 to R356). -/

namespace Sys2Proof.Machine

/-- A reliable message of the device: its type and body (16 R341). -/
structure Msg where
  ty : Nat := 0
  body : List Byte := []
  deriving DecidableEq, Repr

/-- A reliable packet that is not acknowledged yet (16 R346). -/
structure Sent where
  seq : Nat := 0
  msg : Msg := {}
  /-- the tick of its last transmission, and the number of resends -/
  since : Nat := 0
  tries : Nat := 0
  deriving DecidableEq, Repr

/-- A live transport session (16 R343 to R355). -/
structure Conn where
  berth : Nat := 0
  /-- the interface and the source address and port of the last authenticated packet (16 R354) -/
  iface : Nat := 0
  peer : List Byte := []
  ip6 : Bool := true
  /-- the keys of the two directions, tenant to device and device to tenant (16 R342, R344) -/
  rxKey : List Byte := []
  txKey : List Byte := []
  txSeq : Nat := 0
  unacked : List Sent := []
  /-- messages that wait because 4,096 packets are unacknowledged (16 R346) -/
  waiting : List Msg := []
  /-- the lowest SEQ not received, the SEQs received above it, and the refusals to tell (16 R345) -/
  rxNext : Nat := 0
  rxGot : List Nat := []
  refusals : List (Nat × Nat) := []
  /-- WINDOW_WRITEs whose bytes in an aperture are not all acknowledged: SEQ, requests open, failed (16 R347) -/
  windows : List (Nat × Nat × Bool) := []
  /-- WINDOW_WRITEs accepted lately: SEQ, BVA, bytes (16 R347) -/
  writes : List (Nat × Nat × Nat) := []
  lastAuth : Nat := 0
  lastHb : Nat := 0
  deriving DecidableEq, Repr

/-- A send of result bytes that the I/O engine has not wholly transmitted (16 R351, R352). -/
structure Send where
  num : Nat := 0
  order : Nat := 0
  /-- the group that waits for the range to be read; none for the device's own empty send (06 R160) -/
  who : Option GroupId := none
  base : Nat := 0
  len : Nat := 0
  /-- bytes transmitted so far, and OFFSET of the first byte -/
  gone : Nat := 0
  off : Nat := 0
  last : Bool := false
  /-- units of a partner received for the next packet, and requests without a response -/
  got : List (Nat × List Byte) := []
  open_ : Nat := 0
  deriving DecidableEq, Repr

end Sys2Proof.Machine
end

