-- ==== Sys2Proof/Machine/TSys.lean ====
section
/-! DEFINITION. Dies with their counters, power, repair and debug blocks (01 R14, R37; 17 R380; 18 R402; 20 R435, R451)
and the management mailbox (21 R465). -/

namespace Sys2Proof.Machine

/-- The MON block of a die (20 R432 to R435). -/
structure Mon where
  time : Nat := 0
  interval : Nat := 0
  csErr : Nat := 0
  ovf : Bool := false
  count : Nat := 0
  lastOff : Nat := 0
  units : Tbl Nat := []
  /-- core faults met while NEW of a COR_FAULT was 1 (05 R130) -/
  coreFaults : Nat := 0
  deriving DecidableEq, Repr

/-- The DBG block of a die (20 R451). -/
structure DieDbg where
  stopped : Bool := false
  origin : Bool := false
  osc : Bool := false
  trigFault : Bool := false
  stamp : Nat := 0
  trig : Nat := 0
  seen : Nat := 0
  stop : Nat := 0
  deriving DecidableEq, Repr

/-- The power of a die: its domains, halves, steward domain and estimate (01 R14; 18 R385 to R397, R402; 21 R471). -/
structure DiePwr where
  /-- domains of codes 0 to 2 that are powered, and those whose PLL is locked -/
  on : Nat := 0
  pll : Nat := 0
  /-- 0 off, 1 clocked down, 2 awake -/
  west : Nat := 0
  east : Nat := 0
  /-- ticks for which all six islands of the half have been asleep -/
  westIdle : Nat := 0
  eastIdle : Nat := 0
  islandIdle : Nat := 0x32
  halfIdle : Nat := 0xC8
  /-- the tick at which a powering-on die has every island awake -/
  rising : Option Nat := none
  refused : Bool := false
  fig : PowerFig := {}
  est : Nat := 0
  steward : Bool := false
  running : Nat := 0
  freq : Nat := 0x19
  deriving DecidableEq, Repr

/-- The RPR block of a die (17 R380). -/
structure DieRpr where
  refetch : Nat := 0
  lost : Nat := 0
  replays : Nat := 0
  cluster : Nat := 0
  result : Nat := 0
  /-- arrays repaired in the field on this die -/
  arrays : Nat := 0
  deriving DecidableEq, Repr

/-- A die (01 R14, R37). -/
structure Die where
  /-- 0 reset, 1 training, 2 ready, 3 failed -/
  state : Nat := 0
  csErr : Bool := false
  mon : Mon := {}
  dbg : DieDbg := {}
  pwr : DiePwr := {}
  rpr : DieRpr := {}
  binds : Tbl Word := []
  laneErr : Nat := 0
  w2 : Nat := 0xC
  w3 : Nat := 0x4
  seamW2E : Nat := 0
  seamE2W : Nat := 0
  /-- the tick at which a die reset has retrained its lanes (21 R461) -/
  resetEnd : Option Nat := none
  deriving DecidableEq, Repr

/-- What a mailbox request that has not been answered waits for. -/
inductive MbxWait where
  | manifest
  | berth
  | security
  | halves (die : Nat)
  | selftest (cluster : Nat)
  | dieReset (die : Nat)
  | exportEntry (port entry : Nat)
  deriving DecidableEq, Repr

/-- The management mailbox (21 R465 to R469). -/
structure Mbx where
  ring : Tbl EventRec := []
  head : Nat := 0
  tail : Nat := 0
  evtLost : Bool := false
  dropped : Nat := 0
  /-- the request being served: OPCODE, TAG, what it waits for, and whether its output can be written -/
  req : Option (Nat × Nat × MbxWait × Bool) := none
  respReady : Bool := false
  resp : List Byte := []
  /-- bytes moved to the host for the last request -/
  hostOut : List Byte := []
  linkUp : Bool := true
  deriving DecidableEq, Repr

end Sys2Proof.Machine
end

