-- ==== Sys2Proof/Machine/State.lean ====
section
/-! DEFINITION. The state of the device. -/

namespace Sys2Proof.Machine

open Sys2Proof

/-- Why a step stops with a fault. The device's own faults (cause codes, torn-down contexts, the failed state) are
next states; no meaning answers a fault. -/
inductive Fault where
  /-- Raised by no meaning: every command of the table has an effect that the spec gives (safe). -/
  | none
  deriving DecidableEq, Repr

/-- Why a step has no meaning for a command. -/
inductive Refusal where
  /-- Raised by an arm of exec whose command has no meaning yet (safe). -/
  | notModelled (mnemonic : String)
  deriving DecidableEq, Repr

structure State where
  pending : List Instr := []
  free : Nat := 0
  out : List Out := []
  /-- AON_TICK -/
  tick : Nat := 0
  /-- the device is in the failed state: its cause (17 R377) -/
  failed : Option Nat := none
  /-- stopped by all-stop (20 R445) -/
  stopped : Bool := false
  cores : Tbl Core := []
  clusters : Tbl Cluster := []
  ctxs : Tbl (Option Ctx) := []
  orders : Tbl (Option Order) := []
  berths : Tbl Berth := []
  dies : Tbl Die := []
  mbx : Mbx := {}
  /-- live transport sessions, the number of the next one, and messages of berths without a live session (16 R354) -/
  conns : Tbl (Option Conn) := []
  nextConn : Nat := 1
  outbox : Tbl (List Msg) := []
  /-- sends of results, oldest first (16 R352) -/
  sends : List Send := []
  /-- event categories unacknowledged (22 R476) -/
  evtOpen : Nat := 0
  /-- retired pages, in units of 64 KiB (17 R361) -/
  retired : List Nat := []
  /-- stacked memory in service, GiB (12 R265) -/
  stackGib : Nat := 0
  /-- capacity-tier packages in use and their GiB (01 R33) -/
  lpxCount : Nat := 0
  lpxGib : Nat := 0
  rst : Rst := {}
  aon : Aon := {}
  pwr : Pwr := {}
  sec : Sec := {}
  cal : Cal := {}
  nv : Nv := {}
  bth : Bth := {}
  prf : Prf := {}
  /-- D3 is engaged (20 R441); a stop has been triggered and not broadcast yet (20 R447) -/
  engaged : Bool := false
  stopAsked : Bool := false
  /-- Ethernet interfaces by port × 2 + half, and ETH_AUTH_FAIL by I/O die (16 R357) -/
  ifaces : Tbl EthIf := []
  authFail : Tbl Nat := []
  /-- the capacity tier by I/O die, the packages in use (01 R33), and what boot has found of the packages -/
  lpx : Tbl Lpx := []
  packages : List Nat := []
  trained : List (Nat × Nat) := []
  /-- credit of berths by pseudo-channel, and by 512 + package (12 R268, R274): key × 256 + berth -/
  credits : Tbl Nat := []
  /-- SLICE_MAP; empty before a Manifest is applied (01 R32) -/
  sliceMap : List Nat := []
  mft : Mft := {}
  /-- sessions by number and tray stores by berth (13) -/
  sessions : Tbl Sess := []
  stores : Tbl Store := []
  /-- set engines by number; descriptors that have not completed, in order of arrival; the next one's number (14) -/
  engines : Tbl SetEng := []
  descs : List Desc := []
  nextDesc : Nat := 0
  hbm : Tbl Stack := []
  slices : Tbl Slice := []
  lines : Tbl Line := []
  copies : Tbl Copy := []
  /-- the pseudo-LRU trees of the sets, by slice × 8,192 + set (10 R227) -/
  plru : Tbl Nat := []
  cohMsgs : List CohMsg := []
  mdDies : Tbl MdDie := []
  ports : Tbl Port := []
  /-- unreleased stores and atomics of groups (05 R126): the model's own record of them -/
  marks : List Mark := []
  /-- the value that memory itself still holds of a byte not yet written back (10 R226, R245) -/
  backing : Tbl (Option Byte) := []
  mem : Tbl Byte := []
  deriving DecidableEq, Repr

/-- DESIGN CHOICE, log entry 7. -/
def State.reset : State := {}

end Sys2Proof.Machine
end

