-- ==== Sys2Proof/Machine/Ops.lean ====
section
/-! DEFINITION. Reading and changing the parts of the State: cores, groups, registers of a group. -/

namespace Sys2Proof.Machine

/-! ### Numbers of units (01 R15) -/

/-- The cluster, 0–95, of a core slot. -/
def clusterOf (core : Nat) : Nat := core / 9
/-- The compute die, 0–7, of a core slot. -/
def dieOf (core : Nat) : Nat := core / 108
/-- The number of core slots. -/
def coreSlots : Nat := 864

/-! ### Log -/

/-- Something leaves the device. -/
def State.say (o : Out) (s : State) : State := { s with out := o :: s.out }

/-- A fresh number for a free value. -/
def State.nextFree (s : State) : Nat × State := (s.free, { s with free := s.free + 1 })

/-! ### Cores and groups -/

def State.core (s : State) (i : Nat) : Core := tget {} s.cores i
def State.setCore (i : Nat) (c : Core) (s : State) : State := { s with cores := tset {} s.cores i c }
def State.modCore (i : Nat) (f : Core → Core) (s : State) : State := s.setCore i (f (s.core i))
def State.modWork (i : Nat) (f : CoreWork → CoreWork) (s : State) : State :=
  s.modCore i fun c => { c with work := f c.work }

def CoreWork.group (w : CoreWork) (g : Nat) : Option Group := tget none w.groups g
def CoreWork.setGroup (g : Nat) (x : Option Group) (w : CoreWork) : CoreWork :=
  { w with groups := tset none w.groups g x }
def CoreWork.modGroup (g : Nat) (f : Group → Group) (w : CoreWork) : CoreWork :=
  w.setGroup g ((w.group g).map f)
def CoreWork.modAll (f : Group → Group) (w : CoreWork) : CoreWork :=
  (List.range 32).foldl (fun w g => w.modGroup g f) w

/-- The group at a place. -/
def State.groupAt (s : State) (c : CoreAt) : Option Group := (s.core c.core).work.group c.grp
def State.setGroup (c : CoreAt) (g : Group) (s : State) : State :=
  s.modWork c.core (CoreWork.setGroup c.grp (some g))
def State.modGroup (c : CoreAt) (f : Group → Group) (s : State) : State :=
  s.modWork c.core (CoreWork.modGroup c.grp f)

def State.cluster (s : State) (i : Nat) : Cluster := tget {} s.clusters i
def State.modCluster (i : Nat) (f : Cluster → Cluster) (s : State) : State :=
  { s with clusters := tmod {} s.clusters i f }

def State.ctx (s : State) (k : Nat) : Option Ctx := tget none s.ctxs k
def State.setCtx (k : Nat) (c : Option Ctx) (s : State) : State := { s with ctxs := tset none s.ctxs k c }
def State.modCtx (k : Nat) (f : Ctx → Ctx) (s : State) : State := s.setCtx k ((s.ctx k).map f)

def State.order (s : State) (o : Nat) : Option Order := tget none s.orders o
def State.setOrder (o : Nat) (x : Option Order) (s : State) : State := { s with orders := tset none s.orders o x }
def State.modOrder (o : Nat) (f : Order → Order) (s : State) : State := s.setOrder o ((s.order o).map f)

def State.berth (s : State) (b : Nat) : Berth := tget {} s.berths b
def State.setBerth (b : Nat) (x : Berth) (s : State) : State := { s with berths := tset {} s.berths b x }
def State.modBerth (b : Nat) (f : Berth → Berth) (s : State) : State := s.setBerth b (f (s.berth b))

/-! ### Ports -/

def State.port (s : State) (p : Nat) : Port := tget {} s.ports p
def State.setPort (p : Nat) (x : Port) (s : State) : State := { s with ports := tset {} s.ports p x }
def State.modPort (p : Nat) (f : Port → Port) (s : State) : State := s.setPort p (f (s.port p))

/-! ### Registers of a group (05 R107, R114) -/

def Group.vreg (g : Group) (r : Nat) : VReg := tget zeroVReg g.v r
/-- Lane `t` of vector register `r`. -/
def Group.lane (g : Group) (r t : Nat) : Lane := (g.vreg r).getD t 0
def Group.sreg (g : Group) (r : Nat) : Word := tget 0 g.s r
def Group.mreg (g : Group) (r : Nat) : Word := tget 0 g.m r
/-- The execution mask. -/
def Group.m0 (g : Group) : Word := g.mreg 0
/-- Is lane `t` active? -/
def Group.active (g : Group) (t : Nat) : Bool := decide (t < g.width) && bitAt t g.m0
/-- The active lanes in ascending order. -/
def Group.lanes (g : Group) : List Nat := below g.width g.active

/-- Vector register `r` with the active lanes written (06 R137). -/
def Group.setLanes (g : Group) (r : Nat) (f : Nat → Lane) : Group :=
  { g with v := tset zeroVReg g.v r ((List.range 64).map fun t => if g.active t then f t else g.lane r t) }
def Group.setS (g : Group) (r : Nat) (x : Word) : Group := { g with s := tset 0 g.s r x }
/-- Bits at and above the width are ignored (05 R114). -/
def Group.setM (g : Group) (r : Nat) (x : Word) : Group :=
  { g with m := tset 0 g.m r (x &&& widthMask g.width) }
/-- The PC after an instruction that does not transfer control (06 R131). -/
def Group.advance (g : Group) : Group := { g with pc := g.pc + 8 }
/-- A held group goes on with its next instruction. -/
def Group.goOn (g : Group) : Group := { g with hold := none, pc := g.pc + 8 }

/-! ### Groups by identity -/

/-- Who a group of a context's work is. -/
def CoreWork.idOf (w : CoreWork) (k : Nat) (g : Group) : GroupId :=
  let b := (tget none w.blocks g.block).getD {}
  { ctx := k, entry := b.entry, block := b.num, num := g.num }
/-- Who the group at a place is. -/
def State.idAt (s : State) (c : CoreAt) : GroupId :=
  let k := s.core c.core
  (s.groupAt c).elim { ctx := k.ctx.getD 0 } (k.work.idOf (k.ctx.getD 0))

/-- The work with one group changed, named by who it is. -/
def CoreWork.modId (k : Nat) (id : GroupId) (f : Group → Group) (w : CoreWork) : CoreWork :=
  w.modAll fun g => if w.idOf k g = id then f g else g
/-- A group of a context changed wherever it stands on a core: as it runs, and in the core's checkpoint (17 R367). -/
def Core.modId (id : GroupId) (f : Group → Group) (c : Core) : Core :=
  if c.ctx = some id.ctx then
    { c with work := c.work.modId id.ctx id f, ckpt := c.ckpt.map (CoreWork.modId id.ctx id f) }
  else c
/-- A group changed wherever it stands: on a core, or in its context's save area. -/
def State.modById (id : GroupId) (f : Group → Group) (s : State) : State :=
  ((tkeys s.cores).foldl (fun s i => s.modCore i (Core.modId id f)) s).modCtx id.ctx fun x =>
    { x with saved := x.saved.map (CoreWork.modId id.ctx id f) }

/-- The group is held by a reason that `p` names. -/
def Group.heldBy (g : Group) (p : Hold → Bool) : Bool := g.hold.elim false p

end Sys2Proof.Machine
end

