-- ==== Sys2Proof/Machine/Events.lean ====
section
/-! DEFINITION. Events to the manager, event vectors to the tenant, and the counters that stick (17 R379, 21 R468,
03 R78, 20 R432, R433). -/

namespace Sys2Proof.Machine

def allOnes32 : Nat := 4294967295

/-- A 32-bit error or event counter after `n` more events: it sticks at all-ones (20 R432). -/
def satAdd (x n : Nat) : Nat := min allOnes32 (x + n)

def State.die (s : State) (d : Nat) : Die := tget {} s.dies d
def State.modDie (d : Nat) (f : Die → Die) (s : State) : State := { s with dies := tmod {} s.dies d f }
def State.modMon (d : Nat) (f : Mon → Mon) (s : State) : State := s.modDie d fun x => { x with mon := f x.mon }

/-- A stop is triggered on a die while D3 is engaged: the die stops within 12 cycles and asks XD0 for the broadcast
(20 R445, R447).
(DESIGN CHOICE, log entry 42.) -/
def State.triggerStop (d : Nat) (s : State) : State :=
  if !s.engaged || (s.die d).dbg.stopped then s
  else
    let n := (Config.freeWord s.free 0).toNat % 13
    ({ s with free := s.free + 1, stopAsked := true } : State).modDie d fun x =>
      { x with dbg := { x.dbg with origin := true, stopped := true, trig := x.dbg.stamp, stop := (x.dbg.stamp + n) % 2 ^ 64 } }

/-- An event record is written into the ring, or lost where the ring is full; its category stays open until it is
acknowledged (21 R468, 22 R476). In all-stop no controller runs that could write one (20 R446). A fault event on a die whose TRIG_FAULT is 1 triggers all-stop (20 R445). -/
def State.raiseEvent (r : EventRec) (s : State) : State :=
  if s.stopped then s else
  let s := if r.category = 0 ∧ (s.die r.die).dbg.trigFault then s.triggerStop r.die else s
  let s : State := { s with evtOpen := s.evtOpen ||| 2 ^ r.category,
                            aon := { s.aon with evtUntil := tset 0 s.aon.evtUntil r.category (s.tick + 100) } }
  let m := s.mbx
  if (m.head + 1) % 128 = m.tail then
    { s with mbx := { m with evtLost := true } }
  else
    let s : State := { s with mbx := { m with ring := tset {} m.ring m.head { r with tick := s.tick }, head := (m.head + 1) % 128 } }
    if m.linkUp then s.say (.msi 0 1) else s

/-- A 32-bit counter at an offset of a die's window has reached all-ones (20 R433). -/
def State.counterFull (d off : Nat) (s : State) : State :=
  (s.modMon d fun m => { m with ovf := true, lastOff := off, count := min 255 (m.count + 1) }).raiseEvent
    { code := 0x18, category := 7, die := d, detail := off }

/-- One more event of a 32-bit counter at an offset of a die's window (20 R432, R433). -/
def State.bump (d off : Nat) (get : State → Nat) (set : Nat → State → State) (s : State) : State :=
  if get s ≥ allOnes32 then s
  else if get s + 1 = allOnes32 then (set allOnes32 s).counterFull d off
  else set (get s + 1) s

/-- An access without effect under R3, R39 or R30: CS_ERR of the die, and for a control-space access the count of its
MON block (01 R39, 20 R435). -/
def State.csError (d : Nat) (counted : Bool) (s : State) : State :=
  let s := s.modDie d fun x => { x with csErr := true }
  if counted then
    s.bump d 0x20018 (fun s => (s.die d).mon.csErr) (fun n s => s.modMon d fun m => { m with csErr := n })
  else s

/-- An event vector of a berth is raised: pending, and counted up to 65,535 (03 R78). -/
def State.raiseVector (b v : Nat) (s : State) : State :=
  s.modBerth b fun x =>
    { x with evtPend := x.evtPend ||| BitVec.ofNat 64 (2 ^ v),
             evtCount := tset 0 x.evtCount v (min 65535 (tget 0 x.evtCount v + 1)) }

/-- An event meant for firmware: a message interrupt to a steward core, unless BTH_MSI_ADDR is 0 (03 R78, R80). -/
def State.fwMsi (s : State) : State :=
  if s.bth.msiAddr = 0 then s else s.say (.msi s.bth.msiAddr s.bth.msiData)

/-- A berth takes a new state; firmware and the manager are told (03 R65, R78; code 0x17). -/
def State.berthState (b st : Nat) (s : State) : State :=
  ((s.modBerth b fun x => { x with state := st }).raiseEvent
    { code := 0x17, category := 6, die := 0x20, berth := b, detail := st }).fwMsi

/-- Admission of a berth opens or closes at this tick: it admits orders in ENABLED without ADMIT_HOLD (03 R66, R72). -/
def State.gate (b : Nat) (s : State) : State :=
  let y := s.berth b
  let o := y.state == 2 && !y.admitHold
  if (y.gates.head?.elim false Prod.snd) = o then s else s.modBerth b fun y => { y with gates := (s.tick, o) :: y.gates }

/-- A header whose recorded arrival tick is `a` finds its berth admitting orders (03 R66). -/
def State.admits (s : State) (b a : Nat) : Bool := ((s.berth b).gates.find? fun g => decide (g.1 ≤ a)).elim false Prod.snd

end Sys2Proof.Machine
end

