-- ==== Sys2Proof/Machine/Access.lean ====
section
/-! DEFINITION. Where an address leads (01 R29 to R33, 03 R74 to R76, 09 R206, R210), and reading and writing there. -/

namespace Sys2Proof.Machine

/-! ### Device physical addresses -/

/-- The device windows of 09 R210 begin here. -/
def deviceRegion : Nat := 0xFFFFFF9F0000

/-- The page that holds a BVA, and the DPA of that byte (03 R74). -/
def pageAt (m : Tbl (Option Page)) (bva : Nat) : Option (Page × Nat) :=
  match tget none m (bva / 65536) with
  | some p => some (p, p.dpa + bva % (if p.big then 2097152 else 65536))
  | none =>
    match tget none m (bva / 2097152 * 32) with
    | some p => if p.big then some (p, p.dpa + bva % 2097152) else none
    | none => none

def stackEnd : Nat := 0x006000000000
def lpxBase : Nat := 0x010000000000
def apBase : Nat := 0x080000000000
def apSize : Nat := 0x002000000000
def csBase : Nat := 0xF00000000000
def csSize : Nat := 0x000100000000
/-- The first DPA above the stacked memory in service (12 R265). -/
def State.stackTop (s : State) : Nat := s.stackGib * 1073741824
/-- The populated top of the capacity tier (01 R33). -/
def State.lpxTop (s : State) : Nat := lpxBase + s.lpxCount * s.lpxGib * 1073741824

/-- The interleave hash of a stacked-memory address: the global pseudo-channel (01 R31). -/
def hashPc (a : Nat) : Nat :=
  let u := a / 256
  (u % 512) ^^^ (u / 512 % 512) ^^^ (u / 262144 % 512) ^^^ (u / 134217728 % 16)

/-- The slice position of a line: stacked memory under 01 R31, the capacity tier under 10 R225. -/
def slicePos (a : Nat) : Nat :=
  let u := a / 256
  let h := if a < lpxBase then hashPc a else
    let v := u % 4294967296
    (v % 512) ^^^ (v / 512 % 512) ^^^ (v / 262144 % 512) ^^^ (v / 134217728 % 32)
  ((h / 4 % 64) ^^^ (u / 131072 % 64)) * 4 + h % 4

/-- The home slice of a line (01 R31, R32; 10 R225). -/
def State.sliceOf (s : State) (a : Nat) : Nat := s.sliceMap.getD (slicePos a) (slicePos a)

/-- The set of a line in its slice (10 R225). -/
def setOf (a : Nat) : Nat :=
  let v := if a < lpxBase then a / 131072 % 4194304 else a % 1099511627776 / 131072
  (2 * v + a / 128 % 2) % 6144

/-- The mapped-out pseudo-channels of the device, and whether one failed while running (12 R265, R267). -/
def State.stack (s : State) (k : Nat) : Stack := tget {} s.hbm k
def State.pcMapped (s : State) (pc : Nat) : Bool :=
  bitAt (pc / 8 % 32 * 2 + pc / 256 % 2) (s.stack (pc % 4 * 2 + pc / 4 % 2)).mapout
def State.pcFailed (s : State) (pc : Nat) : Bool :=
  bitAt (pc / 8 % 32 * 2 + pc / 256 % 2) (s.stack (pc % 4 * 2 + pc / 4 % 2)).pcFail

/-- The pseudo-channel and the byte offset that hold a stacked-memory address, after map-out (01 R31, 12 R266). -/
def State.pcOf (s : State) (a : Nat) : Nat × Nat :=
  let pc := hashPc a
  let q := a / 256 / 512 % 4194304
  if !s.pcMapped pc then (pc, q * 256 + a % 256)
  else
    let d := pc % 4
    let mapped := (List.range 128).filter fun i => s.pcMapped (4 * i + d)
    let healthy := (List.range 128).filter fun i => !s.pcMapped (4 * i + d)
    let k := (List.range 4).foldl (fun k e => max k ((List.range 128).filter fun i => s.pcMapped (4 * i + e)).length) 0
    let qTop := 3145728 - 24576 * k
    let qq := (mapped.findIdx (· == pc / 4)) * qTop + q
    let n := healthy.length
    (4 * healthy.getD (qq % n) 0 + d, (qTop + qq / n) * 256 + a % 256)

def State.slice (s : State) (i : Nat) : Slice := tget {} s.slices i

/-- Where an address leads: memory, the context's scratch (by image and offset), a partner's memory through an
aperture, memory behind a failed slice or pseudo-channel, control space, or nothing (01 R30). -/
inductive Loc where
  | mem (dpa : Nat)
  | scratch (key : Nat)
  | remote (port off : Nat)
  | lost (dpa : Nat)
  | control (dpa : Nat)
  | nothing
  deriving DecidableEq, Repr

/-- Where a DPA leads (01 R29, R30; 12 R265, R267; 17 R361, R373).
(DEDUCED, log entry 54.) -/
def State.dpaLoc (s : State) (a : Nat) : Loc :=
  if s.retired.contains (a / 65536) then .nothing
  else if a < s.stackTop then
    (if s.pcFailed (s.pcOf a).1 || (s.slice (s.sliceOf a)).failed then .lost a else .mem a)
  else if lpxBase ≤ a ∧ a < s.lpxTop then (if (s.slice (s.sliceOf a)).failed then .lost a else .mem a)
  else if apBase ≤ a ∧ a < apBase + 64 * apSize then
    (if (s.port ((a - apBase) / apSize)).mode = 1 then .remote ((a - apBase) / apSize) ((a - apBase) % apSize)
     else .nothing)
  else if csBase ≤ a ∧ a < csBase + csSize then .control a
  else .nothing

/-- The scratch window (09 R206) and the size of a scratch bank. -/
def scrBase : Nat := 0xFFFFFFA00000
def bankBytes : Nat := 196608
/-- The key of a byte of a context's scratch image (09 R208). -/
def scrKey (rank off : Nat) : Nat := rank * 8388608 + off

/-- The rank of a cluster among the clusters of a context (09 R208). -/
def Ctx.rank (x : Ctx) (cluster : Nat) : Nat := x.clusters.findIdx (· == cluster)

/-- The scratch banks of a context's program (09 R205). -/
def State.scrBytes (_ : State) (x : Ctx) : Nat :=
  (x.prog.elim 0 Program.scrBanks) * bankBytes

/-- Kinds of access (03 R76). -/
inductive Acc where
  | load | store
  deriving DecidableEq, Repr

/-- Where a berth's BVA leads through its map: device windows are never translated (03 R76, 09 R210). -/
def State.bvaLoc (s : State) (b : Nat) (acc : Acc) (bva : Nat) : Loc :=
  if deviceRegion ≤ bva then .nothing
  else match pageAt (s.berth b).map bva with
  | none => .nothing
  | some (p, dpa) => if acc = .store ∧ !p.w then .nothing else
    match s.dpaLoc dpa with
    | .control _ => .nothing
    | l => l

/-- Where an engine of a context on a cluster reaches with a BVA: the scratch window, or the map (09 R206). -/
def State.engineLoc (s : State) (x : Ctx) (cluster : Nat) (acc : Acc) (bva : Nat) : Loc :=
  if scrBase ≤ bva ∧ bva < 281474976710656 then
    (if bva - scrBase < s.scrBytes x then .scratch (scrKey (x.rank cluster) (bva - scrBase)) else .nothing)
  else s.bvaLoc x.berth acc bva

/-! ### Bytes -/

def State.byte (s : State) (dpa : Nat) : Byte := tget 0 s.mem dpa

/-- A write reaches the coherent memory: the byte changes, and memory itself keeps its old value until the line is
written back (10 R226). -/
def State.poke (dpa : Nat) (v : Byte) (s : State) : State :=
  { s with
    backing := (if (tget none s.backing dpa).isSome then s.backing else tset none s.backing dpa (some (s.byte dpa))),
    mem := tset 0 s.mem dpa v }

/-- Bytes from a DPA on, lowest address first. -/
def State.peekN (s : State) (dpa n : Nat) : List Byte := (List.range n).map fun i => s.byte (dpa + i)
def State.pokeN (dpa : Nat) (bs : List Byte) (s : State) : State :=
  (bs.zipIdx).foldl (fun s p => s.poke (dpa + p.2) p.1) s

/-- A byte that is written to memory itself, past the caches: cleared and zeroed pages (03 R75, 12 R277). -/
def State.pokeThrough (dpa : Nat) (v : Byte) (s : State) : State :=
  { s with backing := tset none s.backing dpa none, mem := tset 0 s.mem dpa v }

/-- The dirty bytes of a line are written back: memory holds what the caches held (10 R226, R245).
(DESIGN CHOICE, log entry 8.) -/
def State.writeBack (line : Nat) (s : State) : State :=
  { s with backing := s.backing.filter fun p => p.1 / 128 != line / 128 }

/-- The copies of a line are discarded without write-back: what memory itself holds shows again (10 R245, 17 R372). -/
def State.discard (line : Nat) (s : State) : State :=
  (List.range 128).foldl (fun s i =>
    match tget none s.backing (line / 128 * 128 + i) with
    | some v => s.pokeThrough (line / 128 * 128 + i) v
    | none => s) s

/-- Scratch bytes of a context (09 R208). -/
def Ctx.scr (x : Ctx) (key : Nat) : Byte := tget 0 x.scratch key
def Ctx.scrN (x : Ctx) (key n : Nat) : List Byte := (List.range n).map fun i => x.scr (key + i)
def Ctx.setScrN (x : Ctx) (key : Nat) (bs : List Byte) : Ctx :=
  { x with scratch := (bs.zipIdx).foldl (fun t p => tset 0 t (key + p.2) p.1) x.scratch }

/-- What a context's engine reads of `n` bytes at a place: bytes of a partner are those received so far. -/
def State.readLoc (s : State) (k : Nat) (rem : Remote) (l : Loc) (n : Nat) : List Byte :=
  match l with
  | .mem a => s.peekN a n
  | .scratch key => ((s.ctx k).getD {}).scrN key n
  | .remote p off =>
    let a := p * apSize + off
    match rem.got.find? (fun u => u.1 == a / 64) with
    | some u => (u.2.drop (a % 64)).take n
    | none => List.replicate n 0
  | _ => List.replicate n 0

/-- A context's engine writes bytes at a local place; nothing is written elsewhere. -/
def State.writeLoc (k : Nat) (l : Loc) (bs : List Byte) (s : State) : State :=
  match l with
  | .mem a => s.pokeN a bs
  | .scratch key => s.modCtx k fun x => x.setScrN key bs
  | _ => s

/-- The cause code of an access that cannot be made: nothing there (01 R30), or data that cannot be delivered
(12 R263, R267; 17 R373); 0 where it can be made. Writes behind a failed slice or pseudo-channel are discarded. -/
def Loc.cause (acc : Acc) : Loc → Nat
  | .nothing => 0x06
  | .control _ => 0x06
  | .lost _ => if acc = .load then 0x09 else 0
  | _ => 0

/-- The memory-side die of a stack, as a die code, and the offset of its HBM block (01 R34). -/
def mdCode (md : Nat) : Nat := 0x10 + md

def State.mdDie (s : State) (i : Nat) : MdDie := tget {} s.mdDies i
def State.modMd (i : Nat) (f : MdDie → MdDie) (s : State) : State := { s with mdDies := tmod {} s.mdDies i f }
def State.modStack (k : Nat) (f : Stack → Stack) (s : State) : State := { s with hbm := tmod {} s.hbm k f }
def State.lpxOf (s : State) (x : Nat) : Lpx := tget {} s.lpx x
def State.modLpx (x : Nat) (f : Lpx → Lpx) (s : State) : State := { s with lpx := tmod {} s.lpx x f }

/-! ### Where an address is stored (01 R31, R33; 12 R266) -/

/-- The stack, 0–7, and the local index, 0–63, of a global pseudo-channel (12 R278). -/
def pcStack (pc : Nat) : Nat := pc % 4 * 2 + pc / 4 % 2
def pcLocal (pc : Nat) : Nat := pc / 8 % 32 * 2 + pc / 256 % 2

/-- The package of a capacity-tier address: packages 0–7 stand on XD0, 8–15 on XD1 (01 R33). -/
def State.pkgOf (s : State) (dpa : Nat) : Nat :=
  s.packages.getD ((dpa - lpxBase) / 4096 % max 1 s.packages.length) 0

/-- The die whose controller stores an address. -/
def State.storeDie (s : State) (dpa : Nat) : Nat :=
  if dpa < lpxBase then mdCode ((s.pcOf dpa).1 % 4) else 0x20 + s.pkgOf dpa / 8

/-! ### What lost data counts (12 R263, R267, R278, R279) -/

/-- HBM_UE or LPX_UE, and the place of the last uncorrectable event. -/
def State.countUe (dpa : Nat) (s : State) : State :=
  if dpa < lpxBase then
    let pc := (s.pcOf dpa).1
    let k := pcStack pc
    (s.bump (mdCode (k / 2)) (0x300020 + k % 2 * 0x80000) (fun s => (s.stack k).ue) (fun n s => s.modStack k fun x => { x with ue := n })).modStack
      k fun x => { x with ueDpa := dpa / 128 * 128, uePc := pcLocal pc }
  else
    let p := s.pkgOf dpa
    (s.bump (0x20 + p / 8) 0x500018 (fun s => (s.lpxOf (p / 8)).ue) (fun n s => s.modLpx (p / 8) fun x => { x with ue := n })).modLpx
      (p / 8) fun x => { x with ueDpa := dpa / 128 * 128, uePkg := p % 8 }

/-- Reads of places behind a failed pseudo-channel are uncorrectable events (12 R267). -/
def State.countLostReads (ls : List Loc) (s : State) : State :=
  ls.foldl (fun s l => match l with
    | .lost a => if a < s.stackTop && s.pcFailed (s.pcOf a).1 then s.countUe a else s
    | _ => s) s

/-! ### Pages and their berths (03 R74) -/

/-- The bytes of a page, by SIZE. -/
def pageBytes (big : Bool) : Nat := if big then 2097152 else 65536

/-- Two ranges of addresses meet. -/
def meets (a n b m : Nat) : Bool := decide (a < b + m) && decide (b < a + n)

/-- The pages of a berth: first BVA unit of 64 KiB, and the page. -/
def Berth.pages (y : Berth) : List (Nat × Page) := y.map.filterMap fun p => p.2.map fun x => (p.1, x)

/-- The berth that maps a page of 64 KiB. -/
def State.mapper (s : State) (u : Nat) : Option Nat :=
  (tkeys s.berths).find? fun b => (s.berth b).pages.any fun p => meets (u * 65536) 65536 p.2.dpa (pageBytes p.2.big)
/-- The berth that maps a page of 64 KiB, or 0xFF. -/
def State.ownerOf (s : State) (u : Nat) : Nat := (s.mapper u).getD 0xFF

/-! ### Lines and copies (10 R224, R229) -/

def State.line (s : State) (ln : Nat) : Line := tget {} s.lines ln
def State.setLine (ln : Nat) (x : Line) (s : State) : State := { s with lines := tset {} s.lines ln x }
def State.modLine (ln : Nat) (f : Line → Line) (s : State) : State := s.setLine ln (f (s.line ln))
/-- The line is BUSY: in a transaction, or being filled (10 R229). -/
def Line.isBusy (x : Line) : Bool := x.busy.isSome || x.filling

/-- A cluster cache's copy of a line: the key is line × 128 + cluster. -/
def copyKey (ln cluster : Nat) : Nat := ln * 128 + cluster
def State.copy (s : State) (ln cluster : Nat) : Copy := tget {} s.copies (copyKey ln cluster)
def State.setCopy (ln cluster : Nat) (x : Copy) (s : State) : State :=
  { s with copies := tset {} s.copies (copyKey ln cluster) x }

/-- The line ends its transaction in a directory state. -/
def State.settleDir (ln : Nat) (d : Dir) (ptrs : List Nat) (s : State) : State :=
  s.modLine ln fun x => { x with dir := d, ptrs := ptrs, overflow := false, busy := none }

/-- A cluster cache gives up its copies of the lines that `p` names: an owner's dirty bytes merge into the line
(10 R228, 09 R208). -/
def State.giveBack (p : Nat → Bool) (n : Nat) (s : State) : State :=
  (s.copies.filter fun e => e.1 % 128 == n && p (e.1 / 128)).foldl (fun s e =>
    let ln := e.1 / 128
    let s := s.setCopy ln n {}
    if e.2.owned then
      let s := s.modLine ln fun x => { x with valid := x.valid ||| e.2.dirty, dirty := x.dirty ||| e.2.dirty }
      if (s.line ln).isBusy then s else s.settleDir ln .uncached []
    else s) s

/-- The cluster cache is written back and invalidated (10 R228). -/
def State.flushCluster (n : Nat) (s : State) : State := s.giveBack (fun _ => true) n

/-- A context whose partition has cache banks on a cluster belongs to the berth of a line (10 R228). -/
def State.clusterHolds (s : State) (ln n : Nat) : Bool :=
  let b := s.mapper (ln / 512)
  (s.cluster n).parts.any fun p => p.2.elim false fun q => decide (0 < q.cacheBanks) && (s.ctx q.ctx).elim false fun x => some x.berth == b

end Sys2Proof.Machine
end

