-- ==== Sys2Proof/Machine/Messages.lean ====
section
/-! DEFINITION. Messages of the device on the transport sessions (16 R341, R346, R350 to R354). -/

namespace Sys2Proof.Machine

def State.conn (s : State) (n : Nat) : Option Conn := tget none s.conns n
def State.setConn (n : Nat) (c : Option Conn) (s : State) : State := { s with conns := tset none s.conns n c }
def State.modConn (n : Nat) (f : Conn → Conn) (s : State) : State := s.setConn n ((s.conn n).map f)

/-- The live sessions of a berth, in the order in which they were opened. -/
def State.connsOf (s : State) (b : Nat) : List Nat :=
  (tkeys s.conns).filter fun n => (s.conn n).elim false fun c => c.berth == b

/-- The session that carries a message: the one named while it lives, else the berth's most recently opened
(16 R354). -/
def State.carrier (s : State) (n b : Nat) : Option Nat :=
  if (s.conn n).isSome then some n else (s.connsOf b).getLast?

def State.iface (s : State) (i : Nat) : EthIf := tget {} s.ifaces i
def State.modIface (i : Nat) (f : EthIf → EthIf) (s : State) : State := { s with ifaces := tmod {} s.ifaces i f }

/-- AES-256-GCM: the encryption and the first `t` bytes of its tag.
(DESIGN CHOICE, log entry 3.) -/
def gcmSeal (t : Nat) (key nonce aad body : List Byte) : List Byte :=
  (List.range (body.length + t)).map (Config.gcmByte key nonce aad body)

/-- The 16-byte header of a packet (16 R341). -/
def btpHeader (ty len conn seq : Nat) : List Byte := bytesOf 1 1 ++ bytesOf 1 ty ++ bytesOf 2 len ++ bytesOf 4 conn ++ bytesOf 8 seq

/-- A packet of the device as it leaves: the opening messages in the clear, every other sealed under the session's key from
device to tenant (16 R341, R342). -/
def packetBytes (n : Nat) (c : Conn) (seq : Nat) (m : Msg) : List Byte :=
  let h := btpHeader m.ty m.body.length n seq
  h ++ if m.ty ≤ 2 then m.body else gcmSeal 16 c.txKey (bytesOf 4 2 ++ bytesOf 8 seq) h m.body

/-- A packet leaves by the interface on which the session's last authenticated packet arrived (16 R354); nothing leaves
by an interface that is down (16 R356). -/
def State.emit (n : Nat) (c : Conn) (seq : Nat) (m : Msg) (s : State) : State :=
  if (s.iface c.iface).up then s.say (.packet n c.iface c.peer m.ty seq m.body (packetBytes n c seq m)) else s

/-- A reliable message is sent on a session and kept until it is acknowledged; with 4,096 unacknowledged it waits
(16 R346). -/
def State.sendOn (n : Nat) (m : Msg) (s : State) : State :=
  match s.conn n with
  | none => s
  | some c =>
    if c.unacked.length < 4096 then
      (s.setConn n (some { c with txSeq := c.txSeq + 1,
                                  unacked := c.unacked ++ [{ seq := c.txSeq, msg := m, since := s.tick }] })).emit n c c.txSeq m
    else s.setConn n (some { c with waiting := c.waiting ++ [m] })

/-- A message that is not reliable is sent once (16 R341). -/
def State.sendPlain (n : Nat) (m : Msg) (s : State) : State :=
  match s.conn n with
  | none => s
  | some c => (s.setConn n (some { c with txSeq := c.txSeq + 1 })).emit n c c.txSeq m

/-- A message for a berth goes on its carrying session, or waits until the berth has one (16 R354). -/
def State.post (n b : Nat) (m : Msg) (s : State) : State :=
  match s.carrier n b with
  | some c => s.sendOn c m
  | none => { s with outbox := tmod [] s.outbox b fun q => q ++ [m] }

/-- The ANSWER of an order (16 R350). -/
def answerMsg (tag status reason arrival time completion : Nat) : Msg :=
  { ty := 0x20,
    body := bytesOf 4 tag ++ bytesOf 1 status ++ bytesOf 1 reason ++ bytesOf 2 0 ++ bytesOf 8 arrival ++
      bytesOf 8 time ++ bytesOf 8 completion }

/-- A RESULT message (16 R352). -/
def resultMsg (tag off : Nat) (last : Bool) (data : List Byte) : Msg :=
  { ty := 0x21, body := bytesOf 4 tag ++ bytesOf 1 (b2n last) ++ bytesOf 3 0 ++ bytesOf 8 off ++ data }

/-- An EVENT message: vectors with their counts (16 R353). -/
def eventMsg (vs : List (Nat × Nat)) : Msg :=
  { ty := 0x22, body := bytesOf 1 vs.length ++ bytesOf 7 0 ++ vs.flatMap fun p => bytesOf 1 p.1 ++ bytesOf 1 0 ++ bytesOf 2 p.2 }

end Sys2Proof.Machine
end

