-- ==== Sys2Proof/Machine/Level.lean ====
section
/-! DEFINITION. Lifecycle, the debug level in force and the pools of the running Manifest (19 R418; 20 R439 to R442;
02 R46). -/

namespace Sys2Proof.Machine

/-- The lifecycle state: the code of the last entry blown (19 R418). -/
def State.lifecycle (s : State) : Nat := s.sec.entries.getLast?.getD 0
/-- TRANSITIONS: the entries blown (19 R418). -/
def State.transitions (s : State) : Nat := s.sec.entries.length
/-- The owner keys installed: those of the stored record, where it carries the count of the fuses (19 R418, R421). -/
def State.ownerKeys (s : State) : Option (List Byte) := if s.sec.ownerTrans = s.transitions then s.sec.owner else none

/-- The body of a record of the running Manifest that it holds once. -/
def State.mrec (s : State) (ty : Nat) : List Byte := s.mft.running.elim [] fun m => m.body ty
/-- The body of the POOL record of a pool of the running Manifest. -/
def State.poolRec (s : State) (q : Nat) : Option (List Byte) := s.mft.running.bind fun m => m.pool q
/-- The pool of a berth. -/
def State.poolOf (s : State) (b : Nat) : Nat := (s.berth b).grant.pool

/-- X, the level that the Manifest allows (20 R439). -/
def State.maxLevel (s : State) : Nat :=
  if s.mft.running.isSome then bf (s.mrec 0x0A) 0 1
  else if s.lifecycle = 0 ∨ s.lifecycle = 3 ∨ s.lifecycle = 4 then 3 else 0
/-- G, the level that the lifecycle state and a token grant (20 R439). -/
def State.grantLevel (s : State) : Nat :=
  match s.lifecycle with
  | 1 => min 2 (s.sec.token.getD 0)
  | 2 => s.sec.token.getD 0
  | _ => 3
/-- L, the debug level in force (20 R439). -/
def State.debugLevel (s : State) : Nat :=
  let l := min s.grantLevel s.maxLevel
  if s.engaged then l else min 2 l

/-- The tenant debug window acts for a berth (20 R442). -/
def State.tenantDebug (s : State) (b : Nat) : Bool :=
  decide (2 ≤ s.debugLevel) && (s.poolRec (s.poolOf b)).elim false poolDebug

end Sys2Proof.Machine
end

