-- ==== Sys2Proof/Machine/Sha.lean ====
section
/-! DEFINITION. SHA-384 (02 R41, 16 R344, 19 R407 to R420), CRC-32C (19 R425), on bytes. -/

namespace Sys2Proof.Machine

/-- Rotation to the right. -/
def rotr (x : Word) (n : Nat) : Word := (x >>> n) ||| (x <<< (64 - n))

/-- The `k`-th root of `n`, rounded down: the bits of the root below bit `b`, added to `x` from the highest on. -/
def rootGo (k n : Nat) : Nat → Nat → Nat
  | 0, x => x
  | b + 1, x => rootGo k n b (if (x + 2 ^ b) ^ k ≤ n then x + 2 ^ b else x)
/-- The first 64 bits of the fraction of the `k`-th root of `p`, for a root below 32. -/
def rootFrac (k p : Nat) : Word := BitVec.ofNat 64 (rootGo k (p * 2 ^ (64 * k)) 69 0)
/-- The primes below 410: the first eighty. -/
def shaPrimes : List Nat := (below 410 fun p => decide (2 ≤ p) && (List.range 21).all fun d => decide (d < 2) || decide (p ≤ d) || p % d != 0)

/-- The round constants of SHA-512 and SHA-384: the fractions of the cube roots of the first eighty primes. -/
def shaK : List Word := shaPrimes.map (rootFrac 3)

/-- The initial value of SHA-384: the fractions of the square roots of the ninth to the sixteenth prime. -/
def shaInit : List Word := ((shaPrimes.drop 8).take 8).map (rootFrac 2)

/-- Bytes as a number, the first byte highest. -/
def beNum (bs : List Byte) : Nat := bs.foldl (fun n b => n * 256 + b.toNat) 0
/-- The `n` bytes of a number, the highest first. -/
def beBytes (n x : Nat) : List Byte := (bytesOf n x).reverse

/-- A word turned to the right by several amounts, the results added bit by bit. -/
def turned (x : Word) (turns : List Nat) : Word := (turns.map (rotr x)).foldl (· ^^^ ·) 0

/-- The message schedule, the newest word first. -/
def shaSchedule : Nat → List Word → List Word
  | 0, w => w
  | n + 1, w =>
    let back (i : Nat) : Word := w.getD (i - 1) 0
    let stir (x : Word) (turns : List Nat) (shift : Nat) : Word := turned x turns ^^^ (x >>> shift)
    shaSchedule n ((back 16 + back 7 + stir (back 15) [1, 8] 7 + stir (back 2) [19, 61] 6) :: w)

/-- One round on the eight working words: they move up by one place, the fourth to the fifth with the first sum added, and both
sums come in at the first. -/
def shaRound (v : List Word) (k w : Word) : List Word :=
  let x (i : Nat) : Word := v.getD i 0
  let pick := x 6 ^^^ (x 4 &&& (x 5 ^^^ x 6))
  let most := (x 0 &&& (x 1 ||| x 2)) ||| (x 1 &&& x 2)
  let sum := k + w + x 7 + pick + turned (x 4) [14, 18, 41]
  (sum + most + turned (x 0) [28, 34, 39]) :: ((v.take 3) ++ (x 3 + sum) :: ((v.drop 4).take 3))

/-- One block of 128 bytes. -/
def shaBlock (h : List Word) (b : List Byte) : List Word :=
  let w0 := (List.range 16).map fun i => BitVec.ofNat 64 (beNum ((b.drop (8 * i)).take 8))
  let w := (shaSchedule 64 w0.reverse).reverse
  List.zipWith (· + ·) h ((shaK.zip w).foldl (fun v p => shaRound v p.1 p.2) h)

/-- The blocks of a message, one after another. -/
def shaBlocks : Nat → List Word → List Byte → List Word
  | 0, h, _ => h
  | n + 1, h, m => if m.isEmpty then h else shaBlocks n (shaBlock h (m.take 128)) (m.drop 128)

/-- SHA-384 of bytes.
(DESIGN CHOICE, log entry 3.) -/
def sha384 (m : List Byte) : List Byte :=
  let n := m.length
  let zeros := (239 - n % 128) % 128
  let p := m ++ [(0x80 : Byte)] ++ List.replicate zeros 0 ++ beBytes 16 (8 * n)
  ((shaBlocks (p.length / 128) shaInit p).take 6).flatMap fun w => beBytes 8 w.toNat

/-! ### HMAC and HKDF over SHA-384 (15 R323, R324; 16 R344) -/

/-- HMAC-SHA-384. -/
def hmac (key msg : List Byte) : List Byte :=
  let k := if 128 < key.length then sha384 key else key
  let k := k ++ List.replicate (128 - k.length) 0
  sha384 (k.map (· ^^^ 0x5C) ++ sha384 (k.map (· ^^^ 0x36) ++ msg))

/-- HKDF-SHA-384 of at most 48 bytes: the secret is extracted under the salt and expanded once. -/
def hkdf (salt secret info : List Byte) (n : Nat) : List Byte := (hmac (hmac salt secret) (info ++ [1])).take n

/-- One bit of CRC-32C, least significant bit first. -/
def crc32cBit (c : BitVec 32) : BitVec 32 := if c.getLsbD 0 then (c >>> 1) ^^^ 0x82F63B78 else c >>> 1
/-- CRC-32C of bytes (19 R425). -/
def crc32c (m : List Byte) : Nat :=
  let c := m.foldl (fun (c : BitVec 32) b =>
    let c := c ^^^ b.setWidth 32
    (List.range 8).foldl (fun c _ => crc32cBit c) c) 0xFFFFFFFF
  (c ^^^ 0xFFFFFFFF).toNat

end Sys2Proof.Machine
end

