-- ==== Sys2Proof/Machine/Trust.lean ====
section
/-! DEFINITION. Identity, certificates, attestation reports and the HSS state (19 R408 to R417). Public keys and
signatures are bytes that the device's secrets give: Config (DESIGN CHOICE, log entry 3). -/

namespace Sys2Proof.Machine

/-- `n` bytes that the spec leaves open.
(DESIGN CHOICE, log entry 5.) -/
def State.freeBytes (n : Nat) (s : State) : List Byte × State :=
  ((List.range n).map (Config.freeByte s.free), { s with free := s.free + 1 })
/-- A 64-bit value that the spec leaves open.
(DESIGN CHOICE, log entry 5.) -/
def State.draw (s : State) : Word × State := (Config.freeWord s.free 0, { s with free := s.free + 1 })

def zeros (n : Nat) : List Byte := List.replicate n 0

/-! ### The key slots of the capacity tier (12 R276; 19 R410, R423) -/

/-- The slot of the steward domain. -/
def stewardSlot : Nat := 256

/-- The security controller loads a fresh key pair of its generator into a slot of both controllers. -/
def State.loadKey (slot : Nat) (s : State) : State :=
  let k := s.freeBytes 64
  (List.range 2).foldl (fun s x => s.modLpx x fun y => { y with keys := tset [] y.keys slot k.1 }) k.2
/-- A slot is zeroised. -/
def State.dropKey (slot : Nat) (s : State) : State :=
  (List.range 2).foldl (fun s x => s.modLpx x fun y => { y with keys := tset [] y.keys slot [] }) s

/-- The key pair of a line of the tier: that of the berth that owns its page, or the steward domain's. -/
def State.tierKey (s : State) (dpa : Nat) : List Byte :=
  tget [] (s.lpxOf (s.pkgOf dpa / 8)).keys ((s.mapper (dpa / 65536)).getD stewardSlot)
/-- The bytes that a package holds for a written line at an address: its 128 bytes under the line's key, with the address as a
128-bit little-endian tweak. -/
def State.tierLine (s : State) (dpa : Nat) : List Byte :=
  (List.range 128).map (Config.xtsByte (s.tierKey dpa) (bytesOf 16 dpa) (s.peekN dpa 128))

/-! ### Keys (19 R408, R409) -/

/-- The owner key set installed, or zero (19 R412). -/
def State.ownerId (s : State) : List Byte := s.ownerKeys.getD (zeros 16)

/-- The inputs of CDI_1: firmware, lifecycle and owner (19 R408). -/
def State.cdi (s : State) : List Byte :=
  s.sec.fwDigest ++ bytesOf 1 s.lifecycle ++ bytesOf 1 s.transitions ++ s.ownerId

/-- "DeviceID", "HSS", "Alias" and "Berth" of the derivations of 19 R408. -/
def infoDevice : List Byte := beBytes 8 0x4465766963654944
def infoHss : List Byte := beBytes 3 0x485353
def infoAlias : List Byte := beBytes 5 0x416C696173
def infoBerth : List Byte := beBytes 5 0x4265727468
def infoCert : List Byte := beBytes 4 0x43455254

def pubKey (n : Nat) (input : List Byte) : List Byte := (List.range n).map (Config.pubByte input)

/-- The public DeviceID key; a device whose UDS is destroyed has none (19 R408, R420). -/
def State.deviceKey (s : State) : List Byte := if s.sec.udsGone then zeros 97 else pubKey 97 (infoDevice ++ s.sec.serial)
/-- The identity (19 R409). -/
def State.identity (s : State) : List Byte := if s.sec.udsGone then zeros 48 else sha384 s.deviceKey
def State.aliasKey (s : State) : List Byte := pubKey 97 (s.cdi ++ infoAlias)
/-- The derivation input of a berth's key (19 R408, R410). -/
def State.berthInput (s : State) (b : Nat) : List Byte :=
  s.cdi ++ infoBerth ++ bytesOf 1 b ++ bytesOf 8 (s.berth b).createCount
/-- The public key of a berth (19 R408, R410). -/
def State.berthKey (s : State) (b : Nat) : List Byte := pubKey 97 (s.berthInput b)

/-- An ECDSA P-384 signature over bytes by the key of a derivation input (19 R408, R412).
(DESIGN CHOICE, log entry 3.) -/
def State.sign (input msg : List Byte) (s : State) : List Byte × State :=
  ((List.range 96).map (Config.sigByte input msg s.free), { s with free := s.free + 1 })

/-- A fresh ephemeral ECDH P-384 key: the number that names it, and its point in uncompressed form (15 R323, 16 R343).
(DESIGN CHOICE, log entry 3.) -/
def State.ephemeral (s : State) : Nat × List Byte × State :=
  (s.free, 0x04 :: (List.range 96).map (Config.ecByte s.free), { s with free := s.free + 1 })

/-- The 48 bytes of the secret that an ephemeral key shares with a partner's point.
(DESIGN CHOICE, log entry 3.) -/
def ecdh (own : Nat) (point : List Byte) : List Byte := (List.range 48).map (Config.dhByte own point)

/-! ### Certificates (19 R411) -/

def certBytes (kind lc tr fwv : Nat) (serial subj hss issuer fwd owner : List Byte) : List Byte :=
  beBytes 8 0x5456383843455254 ++ bytesOf 1 kind ++ bytesOf 1 lc ++ bytesOf 1 tr ++ zeros 1 ++ bytesOf 4 fwv ++
  serial ++ subj ++ zeros 3 ++ hss ++ issuer ++ fwd ++ owner ++ zeros 8

/-- The DeviceID certificate of the factory, 3,236 bytes; a device in BLANK has none (19 R411, R414). -/
def State.deviceCert (s : State) : List Byte :=
  if s.lifecycle = 0 then zeros 3236
  else
    certBytes 0 0 0 0 s.sec.serial (pubKey 97 (infoDevice ++ s.sec.serial)) (pubKey 60 (infoHss ++ s.sec.serial)) (pubKey 48 infoCert)
      (zeros 48) (zeros 16) ++ pubKey 2924 (infoCert ++ s.sec.serial)

/-- The Alias certificate of the current boot, 408 bytes (19 R411). -/
def State.aliasCert (s : State) : List Byte :=
  let b := certBytes 1 s.lifecycle s.transitions s.sec.fwVersion s.sec.serial s.aliasKey (zeros 60) s.identity s.sec.fwDigest s.ownerId
  b ++ pubKey 96 (bytesOf 8 s.sec.bootId.toNat ++ b)

/-! ### The HSS state (19 R416, R417) -/

/-- The smallest index that the security controller cannot sign at. -/
def hssEnd : Nat := 2 ^ 40

/-- HSS signing is available (19 R416, R417). -/
def State.lmsOk (s : State) : Bool :=
  decide (s.sec.next < s.sec.top) && decide (s.sec.next < hssEnd) && !s.sec.udsGone

/-- A security event (19 R429). -/
def State.secEvent (op result : Nat) (s : State) : State :=
  s.raiseEvent { code := 0x16, category := 5, die := 0x20, detail := op + result * 256 + s.lifecycle * 65536 }

/-- One HSS signature at NEXT: its bytes; at TOP − 256 a write of TOP + 1,024 starts (19 R416, R417). -/
def State.signHss (s : State) : Option (List Byte × State) :=
  if s.lmsOk then
    let r := s.freeBytes 5716
    let n := s.sec.next + 1
    let start := decide (s.sec.top ≤ n + 256) && !s.sec.reserving && !s.sec.reserveFailed
    some (r.1, { r.2 with sec := { r.2.sec with next := n, built := max s.sec.built (s.sec.next / 1048576),
                                                reserving := s.sec.reserving || start } })
  else none

/-! ### Reports and chains (19 R412 to R415) -/

/-- CRC of the calibration record in force; 0 under CAL_BAD (19 R427, R431). -/
def State.calCrc (s : State) : Nat := if s.cal.bad then 0 else ofBytes ((s.cal.inForce.drop 0x1FFC).take 4)

/-- Bytes 0x000 to 0x163 of a report; `b` is the berth it is for (19 R412). -/
def State.reportBody (s : State) (kind sigs : Nat) (b : Option Nat) (nonce : List Byte) : List Byte :=
  beBytes 8 0x5456383841545354 ++ bytesOf 2 1 ++ bytesOf 1 kind ++ bytesOf 1 s.lifecycle ++ bytesOf 1 s.debugLevel ++
  bytesOf 1 sigs ++ bytesOf 1 s.transitions ++ zeros 1 ++ bytesOf 4 s.sec.fwVersion ++ bytesOf 1 (b.getD 0xFF) ++
  bytesOf 1 ((b.map s.poolOf).getD 0xFF) ++ zeros 2 ++ bytesOf 8 ((b.map fun i => (s.berth i).createCount).getD 0) ++
  bytesOf 8 s.sec.bootId.toNat ++ bytesOf 8 s.tick ++ nonce ++ s.identity ++ s.sec.fwDigest ++ s.mft.digest ++ s.ownerId ++
  bytesOf 8 ((s.mft.running.map Manifest.seq).getD 0) ++ bytesOf 4 s.calCrc ++ zeros 4 ++
  ((b.map s.berthKey).getD (zeros 97)) ++ zeros 3

/-- A report with SIGS = 1, 452 bytes. -/
def State.report1 (kind : Nat) (b : Option Nat) (nonce : List Byte) (s : State) : List Byte × State :=
  let r := s.sign (s.cdi ++ infoAlias) (s.reportBody kind 1 b nonce)
  (s.reportBody kind 1 b nonce ++ r.1, r.2)

/-- A report with SIGS = 3, 6,168 bytes; none where HSS signing is unavailable (19 R416). -/
def State.report3 (kind : Nat) (b : Option Nat) (nonce : List Byte) (s : State) : Option (List Byte × State) :=
  let r := s.sign (s.cdi ++ infoAlias) (s.reportBody kind 3 b nonce)
  r.2.signHss.map fun h => (s.reportBody kind 3 b nonce ++ r.1 ++ h.1, h.2)

/-- The full form of a chain around a report, 9,813 bytes (19 R413). -/
def State.fullChain (s : State) (report : List Byte) : List Byte := bytesOf 1 3 ++ s.deviceCert ++ s.aliasCert ++ report
/-- The compact form, 861 bytes less the report's (19 R413). -/
def State.compactChain (s : State) (report : List Byte) : List Byte := bytesOf 1 2 ++ s.aliasCert ++ report

/-- A new KIND 0 report at a Manifest apply; none where HSS signing is unavailable (19 R413). -/
def State.newReport (s : State) : State :=
  match s.report3 0 none (zeros 32) with
  | some r => { r.2 with sec := { r.2.sec with report := r.1 } }
  | none => { s with sec := { s.sec with report := [] } }

/-- LMS_TOP_RESERVE (19 R417): the write of TOP + 1,024 ends, and succeeds or fails. -/
def execLmsTopReserve (ok : Bool) (s : State) : Host.Outcome State Fault Refusal :=
  .next (if !s.sec.reserving then s
    else if ok then { s with sec := { s.sec with reserving := false, top := s.sec.top + 1024 } }
    else ({ s with sec := { s.sec with reserving := false, reserveFailed := true } } : State).secEvent 0 0x09)

/-- LOWER_TREE_BUILD (19 R416): at leaf 524,288 of a lower tree the next one is built and signed by top-tree leaf
q1 + 1. -/
def execLowerTreeBuild (s : State) : Host.Outcome State Fault Refusal :=
  .next (if 524288 ≤ s.sec.next % 1048576 ∧ s.sec.built ≤ s.sec.next / 1048576 ∧ !s.sec.udsGone then
      { s with sec := { s.sec with built := s.sec.next / 1048576 + 1 } }
    else s)

end Sys2Proof.Machine
end

