-- ==== Sys2Proof/Machine/Remote.lean ====
section
/-! DEFINITION. The sending side of a crossing port: messages, flits and requests (15 R326, R331, R332; 21 R462). -/

namespace Sys2Proof.Machine

/-- The bytes of a message: header and following bytes (15 R331). -/
def XMsg.bytes (m : XMsg) : List Byte :=
  bytesOf 8 (m.op + m.tag * 256 + m.addr * 1048576 + m.size * 2 ^ 57 + b2n m.ms * 2 ^ 59 + m.fn * 2 ^ 60) ++ m.body

/-- A list cut into pieces of `n`. -/
def chunks {α : Type} (n : Nat) : Nat → List α → List (List α)
  | 0, _ => []
  | k + 1, l => if l.isEmpty then [] else l.take n :: chunks n k (l.drop n)

/-- A port may send a new DATA or KEY flit (15 R326, R330). -/
def Port.maySend (p : Port) (ty : Nat) : Bool :=
  decide (p.replay.length < 2048) && (if ty = 3 then decide (2 ≤ p.state ∧ p.state ≤ 4) else p.state == 4)

/-- Flit slots that pass in a number of ticks: 781.25 million a second (15 "Flits"). -/
def flitSlots (ticks : Nat) : Nat := ticks * 625 / 8

/-- This end of a port's link has the lower identity digest, compared as big-endian numbers; the partner's came in its HELLO
(15 R324). -/
def State.lowerEnd (s : State) (p : Nat) : Bool :=
  decide (beNum s.identity < beNum ((((s.port p).keys.got.headD []).drop 33).take 48))

/-- The 256 bytes of a flit: before the link is up the body in the clear with a zero tag; then sealed under the sender's key, with
the slot's nonce and the header as additional data; the CRC over all of it (15 R325). -/
def flitBytes (up lower : Bool) (key : List Byte) (slot : Nat) (head body : List Byte) : List Byte :=
  let b := body ++ zeros (232 - body.length)
  let t := head ++ if up then gcmSeal 12 key (bytesOf 4 (if lower then 1 else 2) ++ bytesOf 8 slot) head b else b ++ zeros 12
  t ++ bytesOf 4 (crc32c t)

/-- A flit leaves a port in the next slot, with the EPOCH bit of its direction and the next sequence number expected (15
R325). Slots pass with time; flits of one tick take slots one after another.
(DESIGN CHOICE, log entry 79.) -/
def State.emitFlit (p ty flags seq : Nat) (body : List Byte) (s : State) : State :=
  let x := s.port p
  let slot := max x.txSlots (flitSlots (s.tick - x.txSince))
  let fl := b2n x.txEpoch + flags
  let head := bytesOf 1 ty ++ bytesOf 1 fl ++ bytesOf 3 seq ++ bytesOf 3 x.expSeq
  (s.setPort p { x with txSlots := slot + 1 }).say
    (.flit p ty fl seq x.expSeq body (flitBytes (x.stage == 4) (s.lowerEnd p) x.keys.tx slot head body))

/-- A DATA or KEY flit is sent and kept for replay, or waits at the port (15 R326). -/
def State.sendFlit (p ty : Nat) (body : List Byte) (s : State) : State :=
  let x := s.port p
  if x.maySend ty then
    (s.setPort p { x with nextSeq := (x.nextSeq + 1) % 16777216,
                          replay := x.replay ++ [{ seq := x.nextSeq, ty := ty, body := body }] }).emitFlit
      p ty 0 x.nextSeq body
  else s.setPort p { x with txq := x.txq ++ [{ seq := 0, ty := ty, body := body }] }

/-- Bytes go out in flits, padded with zeros to the end of the last (15 R325, R331). -/
def State.sendBytes (p ty : Nat) (bs : List Byte) (s : State) : State :=
  (chunks 232 bs.length bs).foldl (fun s b => s.sendFlit p ty (b ++ List.replicate (232 - b.length) 0)) s

/-- A message goes out in DATA flits (15 R331). -/
def State.sendMsg (p : Nat) (m : XMsg) (s : State) : State := s.sendBytes p 1 m.bytes

/-- The requests of a core outstanding on any port (04 R102). -/
def State.coreRemote (s : State) (core : Nat) : Nat :=
  (tkeys s.ports).foldl (fun n p => n + ((s.port p).outbound.filter fun r => r.core == core).length) 0

/-- A request may be sent: a tag is free, and a core has fewer than 32 outstanding; numbers from 864 on are no core's
(04 R102, 15 R332). No request overtakes one of its own requester that waits at the port (11 R248). -/
def State.mayRequest (s : State) (p core : Nat) : Bool :=
  decide ((s.port p).outbound.length < 4096) && (decide (coreSlots ≤ core) || decide (s.coreRemote core < 32)) &&
  !((s.port p).waitq.any fun r => r.core == core)

/-- A request is sent under the lowest free tag, or waits at the port (15 R332, 04 R102). -/
def State.sendReq (p : Nat) (r : XReq) (s : State) : State :=
  let x := s.port p
  if s.mayRequest p r.core then
    let tag := (firstBelow 4096 fun t => !(x.outbound.any fun q => q.msg.tag == t)).getD 0
    let r := { r with msg := { r.msg with tag := tag } }
    (s.setPort p { x with outbound := x.outbound ++ [r] }).sendMsg p r.msg
  else s.setPort p { x with waitq := x.waitq ++ [r] }

/-- Requests that wait at a port are sent as room frees, each requester's in their order; a wait holds only its requester
(15 R332). -/
def State.drainWait (p : Nat) (s : State) : State :=
  (s.port p).waitq.foldl (fun s r => s.sendReq p r) (s.modPort p fun x => { x with waitq := [] })
/-- A response has come: room may have freed for requests at every port, since a core's limit spans them (04 R102). -/
def State.drainWaits (s : State) : State := (tkeys s.ports).foldl (fun s p => s.drainWait p) s

/-- Flits that wait at a port are sent as the replay buffer frees (15 R326). -/
def State.drainFlitsGo : Nat → Nat → State → State
  | 0, _, s => s
  | n + 1, p, s =>
    match (s.port p).txq with
    | [] => s
    | f :: q =>
      if (s.port p).maySend f.ty then
        ((s.modPort p fun x => { x with txq := q }).sendFlit p f.ty f.body).drainFlitsGo n p
      else s
def State.drainFlits (p : Nat) (s : State) : State := s.drainFlitsGo (s.port p).txq.length p

/-- The export entry that an offset uses (15 R333). -/
def exportOf (off : Nat) : Nat := off / 1073741824 % 128
/-- A request of the partner that uses an entry is in progress (15 R336). -/
def Port.entryBusy (x : Port) (e : Nat) : Bool := x.inq.any fun m => decide (m.op < 0x81) && exportOf m.addr == e

/-- The link of a crossing port carries requests, or holds them for a partner in all-stop (15 R330). -/
def State.linkUp (s : State) (p : Nat) : Bool := (s.port p).state == 4 || (s.port p).state == 6

/-- The requests made for a context that nothing has answered yet: sent or waiting at a port, parked, or not yet sent since a
switch-out (04 R102, R103). -/
def State.openReqs (s : State) (k : Nat) : List XReq :=
  ((tkeys s.ports).flatMap fun p => ((s.port p).outbound ++ (s.port p).waitq).filter fun r => r.ctx == k) ++
  (s.ctx k).elim [] fun x => x.parked.map Park.req ++ x.unsent.map Prod.snd

/-- A group has requests that no response has answered. -/
def State.groupRemote (s : State) (c : CoreAt) : Bool :=
  (s.openReqs (s.idAt c).ctx).any fun r =>
    match r.waiter with
    | .group d _ _ => d == s.idAt c
    | _ => false

/-- The crossing-fault policy of a context's program (06 R159, 21 R462). -/
def State.crossContinues (s : State) (x : Ctx) : Bool :=
  x.prog.elim false Program.crossContinue

/-- FAULT of CROSS_STATUS is set with the port of the first fault (21 R463). -/
def State.noteCrossFault (k p : Nat) (s : State) : State :=
  s.modCtx k fun x => { x with crossFault := some (x.crossFault.getD p) }

end Sys2Proof.Machine
end

