-- ==== Sys2Proof/Machine/Race.lean ====
section
/-! DEFINITION. Accesses that no recipe has separated yet: atomics whose scope leaves out a thread that accesses their bytes
have an undefined result (05 R125, R126), and a load may miss stores and atomics of others (11 R255, R258). Stores and
atomics leave marks, which a release and the reader's acquire separate (DESIGN CHOICE, log entry 22). -/

namespace Sys2Proof.Machine

open Sys2Proof

/-- A scope around a group on a core includes another group on a core (05 R125). -/
def scopeHolds (scope core : Nat) (id : GroupId) (core' : Nat) (id' : GroupId) : Bool :=
  match scope with
  | 0 => id == id'
  | 1 => id.ctx == id'.ctx && id.entry == id'.entry && id.block == id'.block
  | 2 => clusterOf core == clusterOf core'
  | 3 => dieOf core == dieOf core'
  | _ => true

/-- The bytes at a local place before an access. -/
def State.before (s : State) (k size : Nat) (l : Loc) : List Byte :=
  match l with
  | .mem a => s.peekN a size
  | .scratch key => ((s.ctx k).getD {}).scrN key size
  | _ => []

/-- The mark of an access to a local place. An atomic's scope wider than cluster acts as cluster scope in scratch, and
crossing scope acts as device scope in memory that is no aperture (05 R127). -/
def State.markAt (s : State) (core : Nat) (id : GroupId) (size scope : Nat) (l : Loc) : Option Mark :=
  let old := s.before id.ctx size l
  match l with
  | .mem a => some { key := a, size := size, scope := if scope = 5 then 4 else scope, core := core, who := id, old := old }
  | .scratch a =>
    some { scr := true, key := a, size := size, scope := if scope < 6 then min scope 2 else 6, core := core, who := id, old := old }
  | _ => none

/-- The place of a mark. -/
def Mark.loc (m : Mark) : Loc := if m.scr then .scratch m.key else .mem m.key

/-- Two marks share a byte. -/
def Mark.meets (a b : Mark) : Bool :=
  a.scr == b.scr && (!a.scr || a.who.ctx == b.who.ctx) && decide (a.key < b.key + b.size) && decide (b.key < a.key + a.size)

/-- The scope of an atomic leaves the other access out. -/
def Mark.leavesOut (a b : Mark) : Bool := decide (a.scope < 6) && !scopeHolds a.scope a.core a.who b.core b.who

/-- An earlier access and a later one race: no recipe has separated them, and a scope leaves the other out (05 R126). -/
def Mark.races (a b : Mark) : Bool :=
  a.meets b && a.who != b.who && !a.seen.contains b.who && decide (a.rel < 7) && (a.leavesOut b || b.leavesOut a)

/-- A new access races with an earlier one. -/
def State.raced (s : State) (m : Mark) : Bool := s.marks.any fun o => o.races m

/-- Lane `t` of register `r` with a value. -/
def Group.putLane (g : Group) (r t : Nat) (v : Lane) : Group := { g with v := tset zeroVReg g.v r ((g.vreg r).set t v) }

/-- The number that lane `t` of `span` registers holds. -/
def Group.spanVal (g : Group) (r span t : Nat) : Nat :=
  (List.range span).foldl (fun acc i => acc + (g.lane (r + i) t).toNat * 2 ^ (32 * i)) 0

/-- The value that a racing atomic returned is free where it still stands. -/
def Group.freeRet (f : Nat) (d : Nat × Nat × Nat × Nat) (g : Group) : Group :=
  if g.spanVal d.1 d.2.1 d.2.2.1 = d.2.2.2 then
    (List.range d.2.1).foldl (fun g i => g.putLane (d.1 + i) d.2.2.1 (BitVec.ofNat 32 (Config.freeWord f (d.2.2.1 * 2 + i)).toNat)) g
  else g

/-- The value left where an atomic races is free, and so is the one it returned.
(DESIGN CHOICE, log entry 22.) -/
def State.freeMark (f : Nat) (m : Mark) (s : State) : State :=
  let s := s.writeLoc m.who.ctx m.loc ((List.range m.size).map fun i => Config.freeByte f (m.key + i))
  m.ret.elim s fun d => s.modById m.who (Group.freeRet f d)

/-- Accesses have been made: what is left at every atomic of a race is free, and the accesses are marked.
(DESIGN CHOICE, log entry 22.) -/
def State.afterAccess (ms : List Mark) (s : State) : State :=
  let ms := ms.filter fun m => (s.ctx m.who.ctx).isSome
  let bad := ms.filter s.raced
  let s :=
    if bad.isEmpty then s
    else
      let f := s.free
      (((s.marks.filter fun o => bad.any fun b => o.races b) ++ bad).filter fun m => decide (m.scope < 6)).foldl (fun s m => s.freeMark f m)
        { s with free := f + 1 }
  { s with marks := s.marks.filter (fun o => !ms.contains o) ++ ms.dedup }

/-- The value that an atomic returns from a place: free where it races (05 R126).
(DESIGN CHOICE, log entry 22.) -/
def State.foundAt (s : State) (m : Option Mark) (lane n v : Nat) : Nat :=
  if m.elim false s.raced then (Config.freeWord s.free lane).toNat % 2 ^ (8 * n) else v

/-- A release of a group at a scope: its accesses can be acquired within it (11 R254).
(DESIGN CHOICE, log entry 22.) -/
def State.released (id : GroupId) (scope : Nat) (s : State) : State :=
  { s with marks := s.marks.map fun m => if m.who = id then { m with rel := max m.rel (scope + 1) } else m }

/-- An acquire of a group at a scope: accesses released at a scope that holds the group, by groups that the acquire's scope
holds, are separated from what follows (11 R255).
(DESIGN CHOICE, log entry 22.) -/
def State.acquired (core : Nat) (id : GroupId) (scope : Nat) (s : State) : State :=
  { s with marks := s.marks.map fun m =>
      if m.rel ≠ 0 ∧ m.who ≠ id ∧ !m.seen.contains id ∧ scopeHolds (m.rel - 1) m.core m.who core id ∧ scopeHolds scope core id m.core m.who
      then { m with seen := id :: m.seen } else m }

/-- A partner has written bytes of memory: every atomic there that no release at crossing scope has followed leaves free bytes
(05 R126, R127).
(DESIGN CHOICE, log entry 22.) -/
def State.partnerWrote (a n : Nat) (s : State) : State :=
  let bad := s.marks.filter fun m => !m.scr && decide (m.scope < 6) && decide (m.rel < 6) && decide (a < m.key + m.size) && decide (m.key < a + n)
  if bad.isEmpty then s
  else
    let f := s.free
    bad.foldl (fun s m => s.freeMark f m) { s with free := f + 1 }

/-! ### Loads without a recipe (11 R255, R258) -/

/-- A mark covers a byte of memory, or of a context's scratch. -/
def Mark.covers (m : Mark) (scr : Bool) (ctx a : Nat) : Bool :=
  m.scr == scr && (!scr || m.who.ctx == ctx) && decide (m.key ≤ a) && decide (a < m.key + m.size)

/-- An access that a group need not see yet. -/
def Mark.hides (m : Mark) (id : GroupId) : Bool := m.who != id && decide (m.rel < 7) && !m.seen.contains id

/-- The accesses to a byte that a group's load may miss, newest first: those of others, later than any access there that is
its own or that it has acquired (11 R248, R255, R258). -/
def State.missable (s : State) (id : GroupId) (scr : Bool) (a : Nat) : List (Mark × Nat) :=
  (s.marks.zipIdx.reverse.filter fun p => p.1.covers scr id.ctx a).takeWhile fun p => p.1.hides id

/-- A byte as a group's load sees it: of each access that it may miss, a free bit says whether it does (11 R258); one access
is missed or seen as a whole (11 R249).
(DESIGN CHOICE, log entry 22.) -/
def State.seenByte (s : State) (id : GroupId) (scr : Bool) (a : Nat) (v : Byte) : Byte :=
  (s.missable id scr a).foldl (fun v p => if Config.freeBit s.free p.2 then p.1.old.getD (a - p.1.key) v else v) v

/-- What a group's load reads of `n` bytes at a place.
(DESIGN CHOICE, log entry 22.) -/
def State.loadLoc (s : State) (id : GroupId) (rem : Remote) (l : Loc) (n : Nat) : List Byte :=
  let bs := s.readLoc id.ctx rem l n
  match l with
  | .mem a => bs.zipIdx.map fun p => s.seenByte id false (a + p.2) p.1
  | .scratch a => bs.zipIdx.map fun p => s.seenByte id true (a + p.2) p.1
  | _ => bs

/-- Some load of a group among these places may miss an access: the load takes a free value. -/
def State.mayMiss (s : State) (id : GroupId) : Bool := s.marks.any fun m => m.hides id

/-- The marks of accesses are made again under another name. -/
def State.renameMarks (a b : GroupId) (s : State) : State :=
  { s with marks := s.marks.map fun m => if m.who = a then { m with who := b } else m }

/-- A write that everyone sees follows every earlier access to its bytes: of a fetcher, an interface, a partner, or the device
itself.
(DESIGN CHOICE, log entry 22.) -/
def State.shown (k : Nat) (l : Loc) (n : Nat) (s : State) : State :=
  match s.markAt coreSlots { ctx := k, entry := 65536, block := 2 ^ 64 } n 6 l with
  | some m => if s.marks.any fun o => o.meets m then { s with marks := s.marks ++ [{ m with rel := 7 }] } else s
  | none => s

/-- A write of the device itself, an interface or a fetcher: everyone sees it from now on. -/
def State.writeShown (k : Nat) (l : Loc) (bs : List Byte) (s : State) : State := (s.writeLoc k l bs).shown k l bs.length

end Sys2Proof.Machine
end

