-- ==== Sys2Proof/Machine/Home.lean ====
section
/-! DEFINITION. The home slice of a line: its counters, accesses that do not cache, pending reductions, and writes of the
device itself (10 R231, R239, R246, R247; 11 R253). A line is named by its DPA divided by 128. -/

namespace Sys2Proof.Machine

def State.modSlice (i : Nat) (f : Slice → Slice) (s : State) : State := { s with slices := tmod {} s.slices i f }

/-- The home slice of a line. -/
def State.home (s : State) (ln : Nat) : Nat := s.sliceOf (ln * 128)

/-- A reply in flight on a line that is dropped leaves no copy (10 R237). -/
def CohMsg.noKeep (p : Nat → Bool) (m : CohMsg) : CohMsg :=
  match m with
  | .toReq l w k b d => if p l then .toReq l w .nothing b d else .toReq l w k b d
  | m => m

/-- Every cluster cache drops its copies of the lines that `p` names. -/
def State.dropCopiesOf (p : Nat → Bool) (s : State) : State :=
  { s with copies := s.copies.filter fun e => !p (e.1 / 128), cohMsgs := s.cohMsgs.map (CohMsg.noKeep p) }
def State.dropCopies (ln : Nat) (s : State) : State := s.dropCopiesOf (· == ln)

/-! ### Counters (10 R246, R247) -/

/-- A saturating counter of a slice, at an offset of its LLC block. -/
def State.bumpSlice (sl off : Nat) (get : Slice → Nat) (set : Nat → Slice → Slice) (s : State) : State :=
  s.bump (mdCode (sl % 4)) (0x100000 + sl / 4 * 4096 + off) (fun s => get (s.slice sl)) fun n s => s.modSlice sl (set n)
/-- A saturating counter of the DIR block of a die. -/
def State.bumpDir (md off : Nat) (get : MdDie → Nat) (set : Nat → MdDie → MdDie) (s : State) : State :=
  s.bump (mdCode md) (0x200000 + off) (fun s => get (s.mdDie md)) fun n s => s.modMd md (set n)

/-- A lookup; LLC_LOOKUPS and LLC_MISSES wrap. -/
def State.countLookup (sl : Nat) (s : State) : State := s.modSlice sl fun x => { x with lookups := (x.lookups + 1) % 2 ^ 64 }
def State.countMiss (sl : Nat) (s : State) : State := s.modSlice sl fun x => { x with misses := (x.misses + 1) % 2 ^ 64 }
/-- DIR_BCAST: a broadcast invalidation round of a line whose overflow bit is set; DIR_FWD: an FWD_S or FWD_X. -/
def State.countRound (ln : Nat) (s : State) : State :=
  if (s.line ln).overflow then s.bumpDir (s.home ln % 4) 0x08 MdDie.bcast (fun n d => { d with bcast := n }) else s
def State.countFwd (ln : Nat) (s : State) : State := s.bumpDir (s.home ln % 4) 0x10 MdDie.fwd fun n d => { d with fwd := n }

/-! ### Accesses at the home slice that do not cache (10 R231) -/

/-- Every byte of a line is valid after its fill or merge. -/
def allBytes : BitVec 128 := BitVec.allOnes 128
def Line.filled (x : Line) : Line := { x with valid := allBytes, filling := false }

/-- An access that does not cache reaches a line in one transaction: a write, atomic or reduction (`excl`) ends every
cluster's copy; a read leaves shared copies, and the owner a clean one (10 R231, R232). On a BUSY line the copies belong to
the transaction in progress.
(DESIGN CHOICE, log entry 8.) -/
def State.homeTake (excl : Bool) (ln : Nat) (s : State) : State :=
  let x := s.line ln
  if !x.present || x.isBusy then s
  else match x.dir with
  | .uncached => s
  | .shared =>
    if excl then ((s.countRound ln).dropCopies ln).modLine ln fun y => { y with dir := .uncached, ptrs := [], overflow := false } else s
  | .owned =>
    let o := x.ptrs.getD 0 0
    let c := s.copy ln o
    let s := (s.countFwd ln).modLine ln fun y => { y with valid := y.valid ||| c.dirty, dirty := y.dirty ||| c.dirty }
    if !excl && c.valid == allBytes then
      (s.setCopy ln o { c with owned := false, dirty := 0 }).modLine ln fun y => { y with dir := .shared, ptrs := [o], valid := allBytes }
    else (s.dropCopies ln).modLine ln fun y => { y with dir := .uncached, ptrs := [] }

/-- The lines of memory that places name. -/
def linesOf (ls : List Loc) : List Nat := (ls.filterMap fun l => match l with | .mem a => some (a / 128) | _ => none).dedup
/-- An engine that does not cache accesses places.
(DESIGN CHOICE, log entry 8.) -/
def State.homeAll (excl : Bool) (ls : List Loc) (s : State) : State := (linesOf ls).foldl (fun s ln => s.homeTake excl ln) s

/-- Pending reductions of a slice (10 R239). -/
def State.pendingOf (s : State) (sl : Nat) : Nat :=
  (s.lines.filter fun p => s.home p.1 == sl).foldl (fun n p => n + p.2.pend.length) 0

/-- A RED that cannot be performed at once joins the line's pending reductions (10 R239). -/
def State.joinPending (r : CohReq) (s : State) : State := s.modLine r.line fun x => { x with pend := x.pend ++ [r] }

/-! ### Reductions (05 R124; 10 R238, R239) -/

/-- An atomic operation on numbers of `n` bytes: what is left in memory (05 R124, 06 R144). -/
def rmwVal (n : Nat) (op : Rmw) (old arg new : Nat) : Nat :=
  match op with
  | .add => (old + arg) % 2 ^ (8 * n)
  | .fadd => fadd32 old arg
  | .min sx => minmax (8 * n) false sx old arg
  | .max sx => minmax (8 * n) true sx old arg
  | .and => old &&& arg
  | .or => old ||| arg
  | .xor => old ^^^ arg
  | .exch => arg
  | .cas => if old = arg then new else old

/-- Bytes of a line under a mask, from an offset in the line. -/
def maskBits (off n : Nat) : BitVec 128 := BitVec.ofNat 128 ((2 ^ n - 1) * 2 ^ off)
/-- A read-modify-write in coherent memory: the value found (05 R128). -/
def State.rmwMem (dpa n : Nat) (op : Rmw) (arg cmp : Nat) (s : State) : State × Nat :=
  let old := ofBytes (s.peekN dpa n)
  (s.pokeN dpa (bytesOf n (if op = .cas then (if old = cmp then arg else old) else rmwVal n op old arg 0)), old)

/-- A pending reduction is performed on its line (10 R239). -/
def State.performRed (r : CohReq) (s : State) : State :=
  let s := (s.rmwMem (r.line * 128 + r.off) r.bytes r.op r.arg r.cmp).1
  s.modLine r.line fun x => { x with dirty := x.dirty ||| maskBits r.off r.bytes }

/-- The pending reductions of a line are performed in order of arrival; no cluster keeps a copy (10 R231, R239, R240).
(DESIGN CHOICE, log entry 8.) -/
def State.performPend (ln : Nat) (s : State) : State :=
  let s := if (s.line ln).pend.isEmpty then s else s.homeTake true ln
  ((s.line ln).pend.foldl (fun s r => s.performRed r) s).modLine ln fun x => { x with pend := [] }

/-- Pending reductions of the lines that an access touches are performed before it (11 R253). -/
def State.settle (ls : List Loc) (s : State) : State :=
  ls.foldl (fun s l => match l with
    | .mem a => if (s.line (a / 128)).pend.isEmpty then s else s.performPend (a / 128)
    | _ => s) s
/-- The pending reductions of every line are performed: an access of an engine follows (11 R253). -/
def State.settleAll (s : State) : State :=
  (tkeys s.lines).foldl (fun s ln => if (s.line ln).pend.isEmpty then s else s.performPend ln) s

/-! ### Writes of the device itself -/

/-- The places of the lines that `n` bytes from a place on lie in. -/
def lineStarts (l : Loc) (n : Nat) : List Loc :=
  match l with
  | .mem a => (List.range ((a % 128 + n + 127) / 128)).map fun i => .mem ((a / 128 + i) * 128)
  | l => [l]

/-- The device, an interface or a fetcher writes a local place at its home slice: after the pending reductions of its lines,
and everyone sees it (10 R231, 11 R253). -/
def State.deviceWrite (k : Nat) (l : Loc) (bs : List Byte) (s : State) : State :=
  let ls := lineStarts l bs.length
  ((s.settle ls).homeAll true ls).writeShown k l bs

end Sys2Proof.Machine
end

