-- ==== Sys2Proof/Machine/Contexts.lean ====
section
/-! DEFINITION. Final answers (00 R9 to R13), the booked horizon (04 R92), the release of a context (04 R85) and its
teardown (17 R374, R375). -/

namespace Sys2Proof.Machine

/-- The orders bound to a context, in admission order. -/
def State.boundTo (s : State) (k : Nat) : List Nat :=
  (tkeys s.orders).filter fun o => (s.order o).elim false fun x => x.ctx == k

/-- The contexts of a berth. -/
def State.ctxsOf (s : State) (b : Nat) : List Nat :=
  (tkeys s.ctxs).filter fun k => (s.ctx k).elim false fun x => x.berth == b

/-- A context is being torn down (17 R374). -/
def State.stops (s : State) (k : Nat) : Bool := (s.ctx k).elim false fun x => x.stopping.isSome

/-- No context: the number that an order keeps whose context is gone. -/
def noCtx : Nat := 1024

/-- The orders of a berth that have no final answer. -/
def State.ordersOf (s : State) (b : Nat) : List Nat :=
  (tkeys s.orders).filter fun o => (s.order o).elim false fun x => x.hdr.berth == b && !x.answered

/-- Orders without a final answer (04 R106, PRF_INFLIGHT). -/
def State.inflight (s : State) : Nat :=
  ((tkeys s.orders).filter fun o => (s.order o).elim false fun x => !x.answered).length

/-- The booked horizon after an unrevoked assured order ends at tick `c` before its booked end `e` (04 R92). -/
def horizonAfter (h e c : Nat) : Nat := if c < e then max c (h - (e - c)) else h

/-- The cores of a context lose its work, and its clusters their partitions; what their caches hold for no other context is
written back and invalidated (09 R208, R223; 10 R228). -/
def State.freeCores (k : Nat) (s : State) : State :=
  let mine := (tkeys s.clusters).filter fun n => (s.cluster n).parts.any fun p => p.2.elim false fun q => q.ctx == k
  let s := (tkeys s.cores).foldl (fun s i =>
    if (s.core i).ctx = some k then
      s.modCore i fun c => { c with ctx := none, work := {}, ckpt := none, replaying := false }
    else s) s
  mine.foldl (fun s n =>
    let s := s.modCluster n fun c => { c with parts := c.parts.filter fun p => p.2.elim false fun q => q.ctx != k }
    s.giveBack (fun ln => !s.clusterHolds ln n) n) s

/-- The accesses of a context are separated from what follows (11 R256). -/
def State.releasedCtx (k : Nat) (s : State) : State := { s with marks := s.marks.filter fun m => m.who.ctx != k }

/-- Step 4 of a teardown, and the whole of a release: scratch and cache banks are zeroed, the save area is freed and
the place in CONTEXTS returns to the berth (17 R374, 04 R85). -/
def State.endCtx (k : Nat) (s : State) : State := ((s.freeCores k).releasedCtx k).setCtx k none

/-- Every request made for a context is forgotten; its responses will be discarded (04 R103, 17 R374). -/
def State.dropRequests (k : Nat) (s : State) : State :=
  (tkeys s.ports).foldl (fun s p => s.modPort p fun x =>
    { x with waitq := x.waitq.filter fun r => r.ctx != k,
             outbound := x.outbound.map fun r =>
               if r.ctx = k then { r with ctx := noCtx, waiter := .none, parked := false } else r }) s

/-- The work that other units still do for a context ends: its requests to partners, its set-engine descriptors
(14 R317), its writes in the slices' intakes (11 R260), and the unread marks of its sends. Commands in the allocator's intake
complete, and their results are for nobody (13 R296). -/
def State.dropWork (k : Nat) (s : State) : State :=
  let s := s.dropRequests k
  { s with
    descs := s.descs.filter fun d => d.who.ctx != k
    slices := s.slices.map fun p => (p.1, { p.2 with intake := p.2.intake.filter fun r => !(r.kind == .nwr && r.ctx == some k) })
    stores := s.stores.map fun p => (p.1, { p.2 with intake := p.2.intake.map fun q =>
      if q.who.ctx = k then { q with who := { ctx := noCtx } } else q }) }

/-- A context without a bound order is released: its work ends and step 4 of a teardown is done (04 R85).
(DESIGN CHOICE, log entry 75.) -/
def State.releaseCtx (k : Nat) (s : State) : State := (s.dropWork k).endCtx k

/-- An order's record is kept while it has no final answer or its run still executes (04 R84). The context of a draining
berth, or of a program that REMOVE has taken away, is released as it becomes idle (04 R85). -/
def State.dropIfDone (o : Nat) (s : State) : State :=
  match s.order o with
  | some x =>
    if x.answered && x.runEnded then
      let s := (s.setOrder o none).modCtx x.ctx fun c => if c.order = some o then { c with order := none } else c
      let y := s.berth x.hdr.berth
      if (y.state = 3 ∨ (s.ctx x.ctx).elim false fun c => c.prog != tget none y.programs c.program) ∧ (s.boundTo x.ctx).isEmpty ∧ !s.stops x.ctx then s.releaseCtx x.ctx else s
    else s
  | none => s

/-- The final answer of an order: the ANSWER, the horizon (04 R92) and the standard counts (04 R106). `c` is the
completion tick of COMPLETED and LATE, else the tick at which the answer is decided. -/
def State.finalAnswer (o status c : Nat) (s : State) : State :=
  match s.order o with
  | none => s
  | some x =>
    if x.answered then s
    else
      let b := x.hdr.berth
      let s := s.setOrder o (some { x with answered := true })
      let s := s.post x.hdr.conn b (answerMsg x.hdr.tag status 0 x.hdr.arrival 0 (if status = 3 ∨ status = 4 then c else 0))
      let s :=
        if x.hdr.cls = 0 ∧ ¬ x.revoked then
          s.modBerth b fun y => { y with horizon := horizonAfter y.horizon x.booked c }
        else s
      let off := 0x101000 + b * 0x40 + 0x10
      let s :=
        if x.hdr.cls = 1 ∧ (status = 3 ∨ status = 4) then
          let s := s.bump 0x20 off (fun s => (s.berth b).stdDone) (fun n s => s.modBerth b fun y => { y with stdDone := n })
          if status = 4 then
            s.bump 0x20 off (fun s => (s.berth b).stdLate) (fun n s => s.modBerth b fun y => { y with stdLate := n })
          else s
        else s
      s.dropIfDone o

/-- A stopping cause of an order is recorded at the proofer; its run ends and its unsent RESULTs are discarded (17 R374
step 3, 00 R12). -/
def State.stopOrder (status : Nat) (s : State) (o : Nat) : State :=
  match s.order o with
  | none => s
  | some x =>
    { s.setOrder o (some { x with runEnded := true, causes := x.causes ++ [status] }) with sends := s.sends.filter fun d => d.order != o }

/-- The final answer by precedence: WITHDRAWN, then FAULTED, then BARRIER_TIMEOUT (00 R12). -/
def precedence (causes : List Nat) : Nat := if causes.contains 6 then 6 else if causes.contains 7 then 7 else 8

/-- The answer of a stopped order is decided on the recorded causes, unless its last RESULT has left a port: then its
completion report answers it (00 R12, 17 R375). Its context is gone.
(DESIGN CHOICE, log entry 72.) -/
def State.decideOrder (s : State) (o : Nat) : State :=
  match s.order o with
  | none => s
  | some x =>
    if x.causes.isEmpty then s
    else
      let s := if x.lastGone ∨ x.answered then s else s.finalAnswer o (precedence x.causes) s.tick
      (s.modOrder o fun y => { y with ctx := noCtx }).dropIfDone o

/-! ### Teardown dumps (20 R443) -/

/-- The dump record of a group (20 R443). -/
def dumpBytes (s : State) (i : Nat) (g : Group) (status : Nat) : List Byte :=
  let k := s.core i
  let entry (e : MaskEntry) : List Byte := bytesOf 8 e.outer.toNat ++ bytesOf 8 e.rest.toNat ++ bytesOf 8 e.reconv.toNat
  bytesOf 8 0x504D554438385654 ++ bytesOf 1 k.cause ++ bytesOf 1 status ++ bytesOf 1 k.faultGroup ++ bytesOf 1 g.width ++
  bytesOf 2 g.regs ++ bytesOf 1 g.stack.length ++ bytesOf 1 0 ++ bytesOf 8 k.faultPc.toNat ++
  bytesOf 2 (clusterOf i * 8 + k.bound.getD 0) ++ bytesOf 6 0 ++ bytesOf 8 k.cycles ++ bytesOf 24 0 ++
  ((List.range 64).flatMap fun r => bytesOf 8 (g.sreg r).toNat) ++
  ((List.range 8).flatMap fun r => bytesOf 8 (g.mreg r).toNat) ++
  (g.stack.reverse.flatMap entry) ++ bytesOf (24 * (16 - g.stack.length)) 0 ++
  ((List.range g.regs).flatMap fun r => (List.range g.width).flatMap fun t => bytesOf 4 (g.lane r t).toNat)

/-- A dump that DUMP_LEN cuts sets TRUNC (20 R443). -/
def cutDump (len : Nat) (b : List Byte) : List Byte :=
  if b.length ≤ len then b else (b.set 15 1).take len

/-- The dump of a teardown: of the recorded group of the lowest-numbered core that recorded a fault; bytes that find no
writable page are not written (20 R443).
(DESIGN CHOICE, log entry 38.) -/
def State.dump (k : Nat) (x : Ctx) (status : Nat) (s : State) : State :=
  if x.dumpBase = 0 ∨ !s.tenantDebug x.berth then s
  else
    match (x.cores.filter fun i => (s.core i).cause != 0).min? with
    | none => s
    | some i =>
      match (s.core i).work.group (s.core i).faultGroup with
      | none => s
      | some g =>
        (cutDump x.dumpLen.toNat (dumpBytes s i g status)).zipIdx.foldl (fun s p =>
          match s.bvaLoc x.berth .store (x.dumpBase.toNat + p.2) with
          | .mem a => s.deviceWrite k (.mem a) [p.1]
          | _ => s) s

/-- A context's engines stop: its cores and banks, its saved images and its parked requests are gone (17 R374 steps 1
and 2).
(DESIGN CHOICE, log entry 72.) -/
def State.stopCtx (die k status cause : Nat) (s : State) : State :=
  (((s.dropWork k).freeCores k).releasedCtx k).modCtx k fun x => { x with
    stopping := some (die, status, cause), switchedIn := false, mayLeave := false, cores := [], clusters := [], saved := [],
    parked := [], unsent := [], unplaced := [] }

/-- A cause tears a context down: its engines stop and the cause is recorded at the proofer for every order of the context
without a final answer (17 R374 steps 1 to 3). A context that no longer exists is torn down by nothing, and a second
cause is only recorded (17 R375). The answers are decided, and steps 4 and 5 made, at the next tick.
(DESIGN CHOICE, log entry 72.) -/
def State.tearDownFrom (die k status cause : Nat) (s : State) : State :=
  match s.ctx k with
  | none => s
  | some x =>
    if x.stopping.isSome then (s.boundTo k).foldl (State.stopOrder status) s
    else
      let s := s.dump k x status
      ((s.boundTo k).foldl (State.stopOrder status) s).stopCtx die k status cause

/-- The rest of a teardown: the answers of the context's orders, the end of the context, vector 0 of the berth and the
fault event (17 R374 steps 3 to 5).
(DESIGN CHOICE, log entry 72.) -/
def State.finishStop (s : State) (k : Nat) : State :=
  match s.ctx k with
  | none => s
  | some x =>
    match x.stopping with
    | none => s
    | some (die, status, cause) =>
      let s := ((s.boundTo k).foldl State.decideOrder s).endCtx k
      let s := s.raiseVector x.berth 0
      s.raiseEvent { code := 0x06, category := 0, die := die, berth := x.berth, cause := cause, ctx := k, detail := status }

/-- Every teardown that has begun is finished.
(DESIGN CHOICE, log entry 72.) -/
def State.finishStops (s : State) : State := (tkeys s.ctxs).foldl State.finishStop s

/-- A teardown that no core of the context met.
(DESIGN CHOICE, log entry 44.) -/
def State.tearDown (k status cause : Nat) (s : State) : State := s.tearDownFrom 0x20 k status cause

/-- COR_FAULT of a core slot records a fault, unless an earlier one stands there with NEW set: a later one is counted
(05 R130).
(DESIGN CHOICE, log entry 75.) -/
def State.recordFault (core grp : Nat) (pc : Word) (cause : Nat) (s : State) : State :=
  if (s.core core).faultNew then
    s.modMon (dieOf core) fun m => { m with coreFaults := satAdd m.coreFaults 1 }
  else s.modCore core fun c => { c with cause := cause, faultGroup := grp, faultPc := pc, faultNew := true }

/-- A fault of a group: COR_FAULT, and the context is torn down with final answer FAULTED (05 R130, 06 R155). -/
def State.coreFault (c : CoreAt) (cause : Nat) (s : State) : State :=
  let pc := (s.groupAt c).elim 0 Group.pc
  let s := s.recordFault c.core c.grp pc cause
  match (s.core c.core).ctx with
  | some k => s.tearDownFrom (dieOf c.core) k 7 cause
  | none => s

end Sys2Proof.Machine
end

