-- ==== Sys2Proof/Machine/MftCheck.lean ====
section
/-! DEFINITION. The layout of a Manifest and the conditions of validation steps 1, 6, 8 and 9 (02 R41 to R43, R46, R49,
R50, R489; 01 R17, R21, R32, R33). -/

namespace Sys2Proof.Machine

/-! ### The header and the records -/

/-- The length of the trailer (02 R44). -/
def trailerLen : Nat := 2924
/-- "TV88MFST" (02 R41). -/
def mftMagic : List Byte := [0x54, 0x56, 0x38, 0x38, 0x4D, 0x46, 0x53, 0x54]

/-- Step 1: the header of `b` stands as R41 says and LENGTH is at most 1 MiB and the length delivered (02 R40, R41,
R62). -/
def headerOk (b : List Byte) : Bool :=
  decide (64 ≤ b.length) && b.take 8 == mftMagic && bf b 8 2 == 1 && decide (bf b 10 2 < 2) &&
  decide (bf b 12 4 ≤ 1048576) && bf b 12 4 == 64 + bf b 0x2C 4 + trailerLen && bf b 0x2C 4 % 4 == 0 &&
  bf b 12 4 == b.length && bf b 0x38 8 == 0

/-- A place of failure: ERR_OFFSET, the row of "Error location", ERR_TYPE (02 R489). -/
abbrev Place := Nat × Nat × Nat

/-- The place reported of two: the lower offset, then the earlier row, then the lower type (02 R489). -/
def Place.before (a b : Place) : Bool :=
  decide (a.1 < b.1) || (a.1 == b.1 && (decide (a.2.1 < b.2.1) || (a.2.1 == b.2.1 && decide (a.2.2 ≤ b.2.2))))

/-- The place that a step reports. -/
def firstPlace : List Place → Option Place
  | [] => none
  | p :: l => match firstPlace l with
    | none => some p
    | some q => some (if Place.before p q then p else q)

/-- The records of the record area `b` from offset `off` on, at most `n`, with what breaks their sequence (02 R42,
R489).
(DEDUCED, log entry 48.) -/
def readRecs : Nat → Nat → List Byte → List Rec × List Place
  | 0, off, b => ([], if b.isEmpty then [] else [(off, 5, 0)])
  | n + 1, off, b =>
    if b.isEmpty then ([], [(off, 4, 0)])
    else
      let ty := bf b 0 2
      let len := bf b 2 2
      let stop := 4 + (len + 3) / 4 * 4
      if b.length < stop then ([], [(off, 4, ty)])
      else
        let r := readRecs n (off + stop) (b.drop stop)
        let bad := if ((b.take stop).drop (4 + len)).all (· == 0) then [] else [(off, 2, ty)]
        ({ off := off, ty := ty, body := (b.drop 4).take len } :: r.1, bad ++ r.2)

/-- The record area of a Manifest, read. -/
def recArea (b : List Byte) : List Rec × List Place :=
  readRecs (bf b 0x28 4) 64 ((b.drop 64).take (bf b 0x2C 4))

/-- A Manifest read from bytes whose header passes step 1. -/
def readMft (b : List Byte) : Manifest :=
  { live := bf b 10 2 % 2 == 1, seq := bf b 16 8, keyId := (b.drop 0x18).take 16, recs := (recArea b).1, bytes := b }

/-- The bytes that the signatures and MFT_DIGEST cover (02 R44). -/
def Manifest.message (m : Manifest) : List Byte := m.bytes.take (64 + bf m.bytes 0x2C 4)
/-- 0x40 + RECORDS_LENGTH. -/
def Manifest.areaEnd (m : Manifest) : Nat := 64 + bf m.bytes 0x2C 4

/-! ### The gangways (01 R15 to R17) -/

/-- The gangways by lower and higher die code, with their lane groups ("Gangway topology"). -/
def gangways : List (Nat × Nat × Nat) :=
  ((List.range 8).map fun k => (k, 0x10 + k % 4, 32)) ++ ((List.range 8).map fun k => (k, 0x10 + (k + 1) % 4, 32)) ++
  [(0x10, 0x11, 64), (0x10, 0x13, 64), (0x11, 0x12, 64), (0x12, 0x13, 64)] ++
  [(0, 0x20, 16), (4, 0x20, 16), (3, 0x21, 16), (7, 0x21, 16)] ++ [(0x10, 0x20, 16), (0x13, 0x21, 16)]

/-- The lane groups of the gangway between two dies; 0 where there is none. -/
def laneGroups (a b : Nat) : Nat := ((gangways.find? fun g => g.1 == a && g.2.1 == b).map fun g => g.2.2).getD 0

/-- A die carries an endpoint code ("GWY and NOC registers"). -/
def dieCarries (die ep : Nat) : Bool :=
  if die < 8 then decide (ep < 12) || ep == 0x80 || ep == 0x81
  else if die < 0x20 then decide (ep < 8) || ep == 0x81
  else ep == 0x82 || ep == 0x83

/-- The entries of a STREAM_BIND body: lane group and endpoint on each die (02 R46). -/
def bindEntries (b : List Byte) : List (Nat × Nat × Nat) :=
  (List.range (bf b 2 2)).map fun j => (bf b (4 + 4 * j) 1, bf b (5 + 4 * j) 1, bf b (6 + 4 * j) 1)

/-- How many bound lane groups of a STREAM_BIND body name endpoints that `p` accepts. -/
def boundBy (b : List Byte) (p : Nat → Nat → Bool) : Nat := ((bindEntries b).filter fun e => p e.2.1 e.2.2).length

/-- The bindings that "Required stream bindings" asks for whatever is in service (01 R17). -/
def bindsOk (b : List Byte) : Bool :=
  let a := bf b 0 1
  let z := bf b 1 1
  if a < 8 ∧ z < 0x20 then
    decide (2 ≤ boundBy b fun x y => x == 0x80 && y == 0) && decide (2 ≤ boundBy b fun x y => x == 0x81 && y == 0x81)
  else if a < 8 then decide (4 ≤ boundBy b fun x y => x == 0x80 && y == 0x83)
  else if z < 0x20 then (List.range 8).all fun g => decide (8 ≤ boundBy b fun x y => x == g && y == g)
  else (List.range 8).all fun g => decide (2 ≤ boundBy b fun x y => x == g && y == 0x82)

/-- The bindings that it asks for an in-service cluster of the compute die, by local number (01 R17). -/
def clusterBound (b : List Byte) (c : Nat) : Bool :=
  if bf b 1 1 < 0x20 then decide (2 ≤ boundBy b fun x y => x == c && decide (y < 8))
  else decide (1 ≤ boundBy b fun x y => x == c && y == 0x82)

/-! ### Step 6: each record by its own bytes (02 R43, R46) -/

/-- The twelve dies of VC_WEIGHT. -/
def vcDies : List Nat := List.range 8 ++ [0x10, 0x11, 0x12, 0x13]

/-- A record's type is valid, its body has its length, and every field and reserved byte stands within "Record bodies"
(02 R43, R46). -/
def Rec.ok (r : Rec) : Bool :=
  let b := r.body
  let n := b.length
  match r.ty with
  | 0x01 => n == 8 && [2, 4, 8, 16].contains (bf b 0 1) && [8, 16, 32, 64].contains (bf b 1 1) && decide (bf b 2 1 ≤ 3) &&
      bf b 3 1 == 0 && decide (8 ≤ bf b 4 4) && decide (bf b 4 4 ≤ 64)
  | 0x02 => n == 48
  | 0x03 => n == 256
  | 0x04 => decide (4 ≤ n) && n == 4 + 4 * bf b 2 2 && laneGroups (bf b 0 1) (bf b 1 1) != 0 &&
      (List.range (bf b 2 2)).all fun j => bf b (7 + 4 * j) 1 == 0
  | 0x05 => n == 24 && (vcDies.all fun d => (List.range 12).any fun j => bf b (2 * j) 1 == d) &&
      (List.range 12).all fun j => bf b (2 * j + 1) 1 % 16 != 0 && bf b (2 * j + 1) 1 / 16 != 0
  | 0x06 => n == 32 && decide (bf b 0 1 ≤ 15) && decide (bf b 1 1 ≤ 12) && decide (bf b 2 1 < 2) && bf b 3 1 == 0 &&
      decide (1 ≤ bf b 26 2) && decide (bf b 26 2 ≤ 256)
  | 0x07 => n == 128 && (List.range 64).all fun p => decide (bf b (2 * p) 1 ≤ 3) && decide (bf b (2 * p + 1) 1 < 2) &&
      (bf b (2 * p + 1) 1 == 0 || decide (2 ≤ bf b (2 * p) 1))
  | 0x08 => n == 52 && decide (bf b 0 1 ≤ 63) && bf b 1 3 == 0
  | 0x09 => n == 8 && decide (bf b 6 1 ≤ 1) && bf b 7 1 == 0
  | 0x0A => n == 8 && decide (bf b 0 1 ≤ 3) && decide (bf b 1 1 < 2) && bf b 2 6 == 0
  | 0x0B => n == 32 && (List.range 8).all fun c => decide (bf b (4 * c) 2 < 512) && bf b (4 * c + 2) 2 == 0
  | 0x0C => decide (1 ≤ bf b 0 4) && decide (bf b 0 4 ≤ 8) && n == 4 + 8 * bf b 0 4 &&
      (List.range (bf b 0 4)).all fun j => decide (bf b (4 + 8 * j) 4 ≤ bf b (8 + 8 * j) 4)
  | t => decide (0x8000 ≤ t)

/-- The most records of a type, the fewest, and the bytes of the body that say which object a record is for (02 R46). -/
def typeMost (t : Nat) : Nat := if t = 4 then 26 else if t = 6 then 16 else if t = 8 then 64 else 1
def typeLeast (t : Nat) : Nat := if t = 4 then 26 else if t = 8 ∨ t = 11 then 0 else 1
def typeKey (t : Nat) : Nat := if t = 4 then 2 else if t = 6 ∨ t = 8 then 1 else 0
/-- What identifies a record among those of its type (02 R57). -/
def Rec.key (r : Rec) : Nat := bf r.body 0 (typeKey r.ty)

/-- The records of a type. -/
def recsOf (rs : List Rec) (t : Nat) : List Rec := rs.filter fun r => r.ty == t

/-- Records that appear more often than their type allows: beyond its number, or a second one for one object. -/
def surplusRecs : List Rec → List Rec → List Rec
  | _, [] => []
  | seen, r :: rs =>
    let same := recsOf seen r.ty
    let bad := decide (r.ty < 0x8000) && decide (1 ≤ r.ty) && decide (r.ty ≤ 12) &&
      (decide (typeMost r.ty ≤ same.length) || same.any fun q => q.key == r.key)
    if bad then r :: surplusRecs (r :: seen) rs else surplusRecs (r :: seen) rs

/-- The failures of step 6 (02 R42, R43, R46, R489).
(DEDUCED, log entry 48.) -/
def formatFails (b : List Byte) : List Place :=
  let a := recArea b
  a.2 ++ (a.1.filter fun r => !r.ok).map (fun r => (r.off, 2, r.ty)) ++
  (surplusRecs [] a.1).map (fun r => (r.off, 3, r.ty)) ++
  (((List.range 13).drop 1).filter fun t => decide ((recsOf a.1 t).length < typeLeast t)).map
    fun t => (64 + bf b 0x2C 4, 6, t)

/-! ### Step 8: structure (02 R49) -/

/-- What validation asks of the device: clusters, set engines and slices in service in the repair map, the packages of
a capacity that trained on each I/O die, and the whole GiB of stacked memory in service. -/
structure Silicon where
  cluster : Nat → Bool
  engine : Nat → Bool
  slice : Nat → Bool
  packages : Nat → Nat → Nat
  hbmGib : Nat

/-- The place of the lowest of some records. -/
def lowest (rs : List Rec) : List Place :=
  match (rs.map Rec.off).min? with
  | none => []
  | some o => (rs.filter fun r => r.off == o).take 1 |>.map fun r => (o, 1, r.ty)

/-- The records of a failure where a condition does not hold. -/
def require (c : Bool) (rs : List Rec) : List Place := if c then [] else lowest rs

/-- The failures of one STREAM_BIND record, given IN_SERVICE (01 R17, 02 R49). -/
def bindFails (ins r : Rec) : List Place :=
  let b := r.body
  let a := bf b 0 1
  let z := bf b 1 1
  let es := bindEntries b
  require (es.all fun e => decide (e.1 < laneGroups a z) && dieCarries a e.2.1 && dieCarries z e.2.2) [r] ++
  require ((es.map fun e => e.1).Nodup) [r] ++ require (bindsOk b) [r] ++
  require (decide (8 ≤ a) || (List.range 12).all fun c =>
      if bitmapAt ins.body 0 (a * 12 + c) then clusterBound b c else es.all fun e => e.2.1 != c) [ins, r]

/-- The failures of step 8 (02 R49, R489; 01 R32). A cluster in no pool involves IN_SERVICE and every POOL record, one in two
pools those two.
(DESIGN CHOICE, log entry 73.) -/
def structureFails (d : Silicon) (rs : List Rec) : List Place :=
  let one (t : Nat) : Rec := ((recsOf rs t).head?).getD {}
  let dev := one 1
  let ins := one 2
  let map := one 3
  let vc := one 5
  let modes := one 7
  let pools := recsOf rs 6
  let cl (n : Nat) := bitmapAt ins.body 0 n
  ((recsOf rs 4).flatMap fun r => bindFails ins r) ++
  require ((List.range 12).all fun j => decide (3 * (bf vc.body (2 * j + 1) 1 / 16) ≤ bf vc.body (2 * j + 1) 1 % 16)) [vc] ++
  require ((List.range 256).all fun p => bf map.body p 1 % 4 == p % 4) [map] ++
  require ((List.range 256).all fun p => bitmapAt ins.body 16 (bf map.body p 1)) [map, ins] ++
  require (!((List.range 256).all fun n => bitmapAt ins.body 16 n) || (List.range 256).all fun p => bf map.body p 1 == p) [map, ins] ++
  require ((List.range 2).all fun x => decide (bf dev.body 0 1 / 2 ≤ d.packages x (bf dev.body 1 1))) [dev] ++
  require ((List.range 96).all fun n => !cl n || pools.any fun p => poolCluster p.body n) (ins :: pools) ++
  (pools.flatMap fun p =>
    require ((List.range 96).all fun n => !poolCluster p.body n || cl n) [p, ins] ++
    require ((List.range 96).any fun n => poolCluster p.body n) [p] ++
    (pools.flatMap fun q => require (p.off == q.off || (List.range 96).all fun n => !(poolCluster p.body n && poolCluster q.body n)) [p, q])) ++
  require (((List.range 96).all fun n => !cl n || d.cluster n) &&
    ((List.range 32).all fun n => !bitmapAt ins.body 12 n || d.engine n) &&
    ((List.range 256).all fun n => !bitmapAt ins.body 16 n || d.slice n)) [ins] ++
  ((recsOf rs 8).flatMap fun r => require (bf modes.body (2 * bf r.body 0 1) 1 == 1) [r, modes])

/-! ### Step 9: resources (02 R50) -/

/-- The record whose term first makes a running sum exceed its limit, in ascending offset (02 R489). -/
def sumFails (limit : Nat) : Nat → List (Rec × Nat) → List Place
  | _, [] => []
  | n, (r, x) :: l => if limit < n + x then [(r.off, 1, r.ty)] else sumFails limit (n + x) l

/-- The failures of step 9 (02 R50, R489). -/
def resourceFails (d : Silicon) (rs : List Rec) : List Place :=
  let one (t : Nat) : Rec := ((recsOf rs t).head?).getD {}
  let dev := one 1
  let pow := one 9
  let pools := recsOf rs 6
  let terms (f : List Byte → Nat) := pools.map fun p => (p, f p.body)
  let fl := bf pow.body 0 2
  let mx := bf pow.body 2 2
  let df := bf pow.body 4 2
  sumFails d.hbmGib 0 ((rs.filter fun r => r.ty == 1 || r.ty == 6).map fun r =>
    (r, if r.ty = 1 then bf r.body 4 4 else poolHbmGib r.body)) ++
  sumFails (bf dev.body 0 1 * bf dev.body 1 1) 0 (terms poolLpxGib) ++
  sumFails 256 0 (terms poolMaxBerths) ++ sumFails 4096 0 (terms poolSessions) ++ sumFails 1024 0 (terms poolContexts) ++
  sumFails fl 0 (terms fun b => bf b 24 2) ++
  require (decide (1400 ≤ fl) && decide (fl ≤ df) && decide (df ≤ mx) && decide (mx ≤ 3600) && fl % 25 == 0 && mx % 25 == 0 &&
    df % 25 == 0) [pow] ++
  pools.flatMap fun p => require (decide (poolPinWays p.body ≤ 12)) [p]

/-- A version lies inside a range of a Manifest's FIRMWARE_ACCEPT (02 R51). -/
def Manifest.accepts (m : Manifest) (v : Nat) : Bool :=
  let b := m.body 12
  (List.range (bf b 0 4)).any fun j => decide (bf b (4 + 8 * j) 4 ≤ v) && decide (v ≤ bf b (8 + 8 * j) 4)

/-! ### Step 10: what a live Manifest changes (02 R57) -/

/-- Records of device scope. -/
def Rec.deviceScope (r : Rec) : Bool := decide (r.ty < 0x8000) && r.ty != 6

/-- The pools whose POOL record is added, removed or changed (02 R57). -/
def changedPools (old new : Manifest) : List Nat := below 16 fun q => old.pool q != new.pool q

/-- The device-scope records of a candidate that differ from the running Manifest, or that it lacks (02 R57, R489). -/
def scopeFails (old new : Manifest) : List Place :=
  let find (rs : List Rec) (r : Rec) := rs.find? fun q => q.ty == r.ty && q.key == r.key
  ((new.recs.filter fun r => r.deviceScope && ((find old.recs r).map Rec.body != some r.body)).map fun r => (r.off, 1, r.ty)) ++
  ((old.recs.filter fun r => r.deviceScope && (find new.recs r).isNone).map fun r => (new.areaEnd, 1, r.ty))

/-- The place of a pool that fails step 10: its POOL record of the candidate, or the end of the record area where it has
none (02 R489). -/
def poolPlace (new : Manifest) (q : Nat) : Place :=
  match new.recs.find? fun r => r.ty == 6 && bf r.body 0 1 == q with
  | some r => (r.off, 1, 6)
  | none => (new.areaEnd, 1, 6)

end Sys2Proof.Machine
end

