-- ==== Sys2Proof/Machine/Issue.lean ====
section
/-! DEFINITION. Issuing an instruction: which group may issue, the fetch, the checks in the order of 06 R156, and the
forms that most instructions share. -/

namespace Sys2Proof.Machine

/-- The device runs: not stopped by all-stop, not in the failed state, and its PLLs not stopped by the trip latch (22 R478). -/
def State.running (s : State) : Bool := !s.stopped && s.failed.isNone && !s.aon.tripped

/-- A die runs: its clocks have not been halted (20 R445 to R447). -/
def State.dieRuns (s : State) (d : Nat) : Bool := s.running && !(s.die d).dbg.stopped

/-- The island of a cluster is awake; an asleep one has its logic power-gated (18 "Islands and halves"). -/
def State.islandUp (s : State) (n : Nat) : Bool := !(s.cluster n).asleep

/-- The group at a place may issue: its core is in service and holds a switched-in context, and the group is neither
ended nor held (05 R109, 04 R83), on an island that is awake. A commit point that waits for the matrix unit holds the core (17 R365). -/
def State.runGroup (s : State) (c : CoreAt) : Option (Nat × Ctx × Group) :=
  let k := s.core c.core
  match k.ctx, s.groupAt c with
  | some n, some g =>
    match s.ctx n with
    | some x =>
      if s.dieRuns (dieOf c.core) && k.slotState == 1 && !k.replaying && !k.commitDue && x.switchedIn && s.islandUp (clusterOf c.core) && !g.ended && g.hold.isNone
      then some (n, x, g) else none
    | none => none
  | _, _ => none

/-- A core that works on a switched-in context, with that context: in service and not replaying (17 R367). -/
def State.liveCore (s : State) (i : Nat) : Option (Nat × Ctx) :=
  let k := s.core i
  match k.ctx with
  | some n =>
    match s.ctx n with
    | some x => if s.dieRuns (dieOf i) && k.slotState == 1 && !k.replaying && x.switchedIn && s.islandUp (clusterOf i) then some (n, x) else none
    | none => none
  | none => none

/-- The group at a place, on a core that works, with the reason that holds it. -/
def State.heldGroup (s : State) (c : CoreAt) : Option (Nat × Ctx × Group × Hold) :=
  match s.liveCore c.core, s.groupAt c with
  | some (n, x), some g =>
    match g.hold with
    | some h => if !g.ended then some (n, x, g, h) else none
    | none => none
  | _, _ => none

/-- The word of a PC can be fetched: its page has X (06 R156 step 1, 03 R76).
(DESIGN CHOICE, log entry 15.) -/
def State.fetchOk (s : State) (b : Nat) (pc : Word) : Bool :=
  decide (pc.toNat < deviceRegion) &&
  match pageAt (s.berth b).map pc.toNat with
  | some (p, dpa) => p.x && !s.retired.contains (dpa / 65536)
  | none => false

/-- What an instruction's own effect answers: its group goes on, or a fault of the group. -/
abbrev Body := Nat → Ctx → Group → State → State

/-- An instruction reaches issue: the checks of 06 R156 in their order, then its own effect.
(DESIGN CHOICE, log entry 2.)
(DESIGN CHOICE, log entry 15.) -/
def issue (c : CoreAt) (w : Word) (body : Body) (s : State) : State :=
  match s.runGroup c with
  | none => s
  | some (k, x, g) =>
    if !s.fetchOk x.berth g.pc then s.coreFault c 0x06
    else if !legalWord g.width w then s.coreFault c 0x01
    else if !allocOk g.regs w then s.coreFault c 0x02
    else body k x g s

/-- An instruction that changes only its group and goes on. -/
def issueGroup (c : CoreAt) (w : Word) (f : Group → Group) (s : State) : State :=
  issue c w (fun _ _ g s => s.setGroup c (f g).advance) s

/-! ### Forms of the vector instructions -/

/-- A vector–vector operation on the active lanes (06 R137). -/
def vvForm (c : CoreAt) (w : Word) (op : Mods → Lane → Lane → Lane → Lane) (s : State) : State :=
  issueGroup c w (fun g => g.setLanes (fVD w) fun t =>
    op (modsVV w) (g.lane (fVA w) t) (g.lane (fVB w) t) (g.lane (fVC w) t)) s

/-- An operation with one source (06 R138). -/
def vuForm (c : CoreAt) (w : Word) (op : Mods → Lane → Lane) (s : State) : State :=
  issueGroup c w (fun g => g.setLanes (fVD w) fun t => op (modsVV w) (g.lane (fVA w) t)) s

/-- The operand of a VS word: a scalar register or the immediate (06 R140). -/
def vsOperand (g : Group) (w : Word) : Word :=
  if fK w then BitVec.ofNat 64 (fImm w) else g.sreg (fld 0 6 w)

/-- The operand of a scalar instruction: a scalar register or the sign-extended immediate (06 R140). -/
def scOperand (g : Group) (w : Word) : Word :=
  if fK w then BitVec.ofInt 64 (signed 32 (fImm w)) else g.sreg (fld 0 6 w)

/-- A vector–scalar operation: b is the operand in every lane, c the prior VD (06 R141). -/
def vsForm (c : CoreAt) (w : Word) (op : Mods → Lane → Lane → Lane → Lane) (s : State) : State :=
  issueGroup c w (fun g => g.setLanes (fVD w) fun t =>
    op (modsVS w) (g.lane (fVA w) t) ((vsOperand g w).setWidth 32) (g.lane (fVD w) t)) s

/-- A scalar instruction (06 R141). -/
def scForm (c : CoreAt) (w : Word) (op : Word → Word → Word) (s : State) : State :=
  issueGroup c w (fun g => g.setS (fVD w) (op (g.sreg (fVA w)) (scOperand g w))) s

/-! ### Forms of the branch and mask instructions -/

/-- A branch: to the target where taken, else on (06 R146). -/
def Group.branch (g : Group) (w : Word) (taken : Bool) : Group :=
  if taken then { g with pc := g.pc + fDisp w } else g.advance

/-- An instruction that changes its group, PC included. -/
def issueJump (c : CoreAt) (w : Word) (f : Group → Group) (s : State) : State :=
  issue c w (fun _ _ g s => s.setGroup c (f g)) s

/-- A mask-stack instruction on the top entry; an empty stack is an underflow (05 R115, R116). -/
def maskForm (c : CoreAt) (w : Word) (f : Group → MaskEntry → List MaskEntry → Group) (s : State) : State :=
  issue c w (fun _ _ g s =>
    match g.stack with
    | [] => s.coreFault c 0x04
    | e :: rest => s.setGroup c (f g e rest)) s

/-- A push onto the mask stack; a full stack is an overflow (05 R115, R116). -/
def pushForm (c : CoreAt) (w : Word) (f : Group → Group) (s : State) : State :=
  issue c w (fun _ _ g s => if 16 ≤ g.stack.length then s.coreFault c 0x03 else s.setGroup c (f g)) s

/-- Where control goes after a mask instruction that may leave no active lane (05 R115). -/
def Group.orTo (g : Group) (target : Word) : Group :=
  if g.m0 = 0 then { g with pc := target } else g.advance

/-- mlog (06 R148). -/
def mlogForm (c : CoreAt) (w : Word) (fn : Nat) (s : State) : State :=
  issueGroup c w (fun g =>
    g.setM (fMD w) (maskFn fn g.width (g.mreg (fMA w)) (g.mreg (fMB w)) (g.sreg (fBSA w)))) s

end Sys2Proof.Machine
end

