-- ==== Sys2Proof/Machine/MemOps.lean ====
section
/-! DEFINITION. The operations of the memory instructions: lane addresses, loads, stores and atomics (06 R142 to R145;
05 R124 to R129). -/

namespace Sys2Proof.Machine

/-- The address of lane `t` (06 R143). -/
def laneAddr (g : Group) (w : Word) (t : Nat) : Word :=
  let b := g.sreg (fSB w) + fOff w
  let v : Word := (g.lane (fVA w) t).setWidth 64
  match fAmode w with
  | 0 => b + BitVec.ofNat 64 (t * accBytes w)
  | 1 => b + v
  | _ => b + v * BitVec.ofNat 64 (accBytes w)

/-- The address of a scalar access (06 R144). -/
def scAddr (g : Group) (w : Word) : Word := g.sreg (fSB w) + fOff w

/-- The value of one or two registers of lane `t`, the first register lowest (06 R144). -/
def laneVal (g : Group) (r span t : Nat) : Nat :=
  (List.range span).foldl (fun acc i => acc + (g.lane (r + i) t).toNat * 2 ^ (32 * i)) 0

/-- A loaded value of `n` bytes extended to `m` bits (06 R144).
(DEDUCED, log entry 14.) -/
def extend (n m : Nat) (sx : Bool) (v : Nat) : Nat := if sx then wrapTo m (signed (8 * n) v) else v

/-- Values written to one or two registers of the lanes that `f` names (06 R144). -/
def Group.setVals (g : Group) (r span : Nat) (f : Nat → Nat) : Group :=
  (List.range span).foldl (fun h i => h.setLanes (r + i) fun t => BitVec.ofNat 32 (f t / 2 ^ (32 * i))) g

/-- The faults of lane addresses before any translation: alignment first, then the upper bits (06 R143, R156). -/
def addrCause (n : Nat) (as : List Word) : Nat :=
  if as.any fun a => a.toNat % n != 0 then 0x05
  else if as.any fun a => decide (2 ^ 48 ≤ a.toNat) then 0x06 else 0

/-- The first cause among the places of an instruction's lanes (06 R156). -/
def locsCause (acc : Acc) (ls : List Loc) : Nat := ((ls.map (Loc.cause acc)).find? (· != 0)).getD 0

/-- The 64-byte units of a partner's memory that a list of places needs and that have not been received. -/
def unitsMissing (rem : Remote) (n : Nat) (ls : List Loc) : List (Nat × Nat) :=
  (ls.flatMap fun l => match l with
    | .remote p off => (List.range ((off + n - 1) / 64 - off / 64 + 1)).map fun i => (p, off / 64 + i)
    | _ => []).dedup.filter fun u => !(rem.got.any fun x => x.1 == (u.1 * apSize) / 64 + u.2)

/-- The ports that a list of places reaches. -/
def portsOf (ls : List Loc) : List Nat :=
  (ls.filterMap fun l => match l with | .remote p _ => some p | _ => none).dedup

/-- A crossing fault of a group's access: the context is torn down, or the fault is noted and the order goes on
(21 R462). -/
def State.crossFaultGroup (c : CoreAt) (k : Nat) (x : Ctx) (p : Nat) (s : State) : State :=
  if s.crossContinues x then s.noteCrossFault k p else s.coreFault c 0x06

/-- Zero units for the units of a lost partner (21 R462: loads return zero bytes). -/
def zeroUnits (us : List (Nat × Nat)) : List (Nat × List Byte) :=
  us.map fun u => ((u.1 * apSize) / 64 + u.2, List.replicate 64 0)

/-- A read of places by a group has all its bytes: `fin` gets them, and an acquire form acquires (11 R248, R255). A load that
may miss another group's access takes a free value. -/
def State.finishRead (c : CoreAt) (w : Word) (k : Nat) (g : Group) (n : Nat) (fin : Group → (Loc → List Byte) → Group)
    (s : State) : State :=
  let id := s.idAt c
  let t := s.setGroup c { fin g (fun l => s.loadLoc id g.rem l n) with rem := {} }
  let t : State := if s.mayMiss id then { t with free := s.free + 1 } else t
  if fOrd w == 1 then t.acquired c.core id (fScope w) else t

/-- The units of a partner's memory that a group's read misses are asked for, and the group is held (15 R331). -/
def State.askUnits (c : CoreAt) (w : Word) (k : Nat) (g : Group) (us : List (Nat × Nat)) (s : State) : State :=
  us.foldl (fun s v => s.sendReq v.1
      { ctx := k, core := c.core, msg := { op := 0x01, addr := v.2 * 64, size := 0 }, waiter := .group (s.idAt c) true 0 })
    (s.setGroup c { g with hold := some (.remote w) })

/-- A read of places by a group: faults first, where a failed pseudo-channel counts its event (12 R267); units of a partner
are asked for and the group is held until they have come; then `fin` gets the values. -/
def State.groupRead (c : CoreAt) (w : Word) (k : Nat) (x : Ctx) (g : Group) (n : Nat) (ls : List Loc)
    (fin : Group → (Loc → List Byte) → Group) (s : State) : State :=
  if locsCause .load ls != 0 then (s.countLostReads ls).coreFault c (locsCause .load ls)
  else
    let miss := unitsMissing g.rem n ls
    let down := miss.filter fun v => !s.linkUp v.1
    match down.head? with
    | none => if miss.isEmpty then s.finishRead c w k g n fin else s.askUnits c w k g miss
    | some u =>
      if s.crossContinues x then
        let g := { g with rem := { g.rem with got := g.rem.got ++ zeroUnits down } }
        let s := s.noteCrossFault k u.1
        let rest := unitsMissing g.rem n ls
        if rest.isEmpty then s.finishRead c w k g n fin else s.askUnits c w k g rest
      else s.coreFault c 0x06

/-- A WR message for bytes at an aperture offset: one 64-byte unit under a byte mask (15 R331). -/
def wrMsg (off : Nat) (bs : List Byte) : XMsg :=
  let lo := off % 64
  let n := bs.length
  { op := 0x02, addr := off / 64 * 64, size := 0, ms := true,
    body := bytesOf 8 ((2 ^ n - 1) * 2 ^ lo) ++ (List.replicate lo 0 ++ bs ++ List.replicate (64 - lo - n) 0) }

/-- The bytes that a list of writes leaves in a 64-byte unit of a partner, the last write of a byte winning. -/
def unitWrites (p u : Nat) (ws : List (Loc × List Byte)) : List (Option Byte) :=
  ws.foldl (fun bs w => match w.1 with
    | .remote q off =>
      if q = p ∧ off / 64 = u then w.2.zipIdx.foldl (fun bs b => bs.set (off % 64 + b.2) (some b.1)) bs else bs
    | _ => bs) (List.replicate 64 none)
/-- The WR message of a unit under its byte mask (15 R331). -/
def unitMsg (u : Nat) (bs : List (Option Byte)) : XMsg :=
  { op := 0x02, addr := u * 64, size := 0, ms := true,
    body := bytesOf 8 (bs.zipIdx.foldl (fun m b => if b.1.isSome then m + 2 ^ b.2 else m) 0) ++ bs.map fun b => b.getD 0 }
/-- The units of partners that a list of places names, in its order. -/
def remoteUnits (ls : List Loc) : List (Nat × Nat) :=
  (ls.filterMap fun l => match l with | .remote p off => some (p, off / 64) | _ => none).dedup

/-- A store of a cluster makes the bytes of its own copy valid and dirty, where it owns the line (10 R229, R232).
(DESIGN CHOICE, log entry 8.) -/
def State.dirtyCopy (cluster : Nat) (l : Loc) (n : Nat) (s : State) : State :=
  match l with
  | .mem a =>
    let key := copyKey (a / 128) cluster
    let x := tget {} s.copies key
    if x.owned then
      let y : Copy := { x with valid := x.valid ||| maskBits (a % 128) n, dirty := x.dirty ||| maskBits (a % 128) n }
      { s with copies := tset {} s.copies key y }
    else s
  | _ => s

/-- A write of a group's core to a local place, through its cluster cache. -/
def State.coreWrite (c : CoreAt) (k : Nat) (l : Loc) (bs : List Byte) (s : State) : State :=
  (s.writeLoc k l bs).dirtyCopy (clusterOf c.core) l bs.length

/-- A write to one place by a group: local bytes are written; bytes of a partner are sent and the group goes on. -/
def State.groupWrite (c : CoreAt) (k : Nat) (x : Ctx) (l : Loc) (bs : List Byte) (s : State) : State :=
  match l with
  | .remote p off =>
    if s.linkUp p then
      s.sendReq p { ctx := k, core := c.core, msg := wrMsg off bs, waiter := .group (s.idAt c) false 0 }
    else s.crossFaultGroup c k x p
  | l => s.coreWrite c k l bs

/-- The writes of a group in ascending lane order, so the highest lane that writes a byte wins (05 R129); those in one
aligned 64-byte unit of a partner leave as one request (11 R249). A place that faults ends the context; which other lanes'
writes were performed is left open (06 R143).
(DESIGN CHOICE, log entry 23.) -/
def State.groupWrites (c : CoreAt) (k : Nat) (x : Ctx) (ws : List (Loc × List Byte)) (s : State) : State :=
  let cause := locsCause .store (ws.map Prod.fst)
  if cause != 0 then
    let n := s.free
    let s := (ws.zipIdx).foldl (fun s p =>
      if p.1.1.cause .store == 0 && Config.freeBit n p.2 then s.coreWrite c k p.1.1 p.1.2 else s) s
    ({ s with free := s.free + 1 }).coreFault c cause
  else
    let s := ws.foldl (fun s p => s.coreWrite c k p.1 p.2) s
    (remoteUnits (ws.map Prod.fst)).foldl (fun s u =>
      if s.linkUp u.1 then
        s.sendReq u.1 { ctx := k, core := c.core, msg := unitMsg u.2 (unitWrites u.1 u.2 ws), waiter := .group (s.idAt c) false 0 }
      else s.crossFaultGroup c k x u.1) s

/-- Is the operation sent as a reduction where it returns nothing (10 R238)? -/
def Rmw.reduces : Rmw → Bool
  | .add => true
  | .fadd => true
  | .min _ => true
  | .max _ => true
  | _ => false

/-- The FN code of an operation: its opcode − 0x70 (15 R331). -/
def Rmw.fn : Rmw → Nat
  | .cas => 7 | .add => 8 | .fadd => 9 | .min _ => 0xA | .max _ => 0xB
  | .and => 0xC | .or => 0xD | .xor => 0xE | .exch => 0xF

def Rmw.signed : Rmw → Bool
  | .min sx => sx
  | .max sx => sx
  | _ => false

/-- One lane's operation at a local place: the state and the value found (05 R128). -/
def State.rmwLoc (k n : Nat) (op : Rmw) (l : Loc) (arg new : Nat) (s : State) : State × Nat :=
  let old := ofBytes (s.readLoc k {} l n)
  (s.writeLoc k l (bytesOf n (rmwVal n op old arg new)), old)

/-- Lanes of one atomic at one address are one operation with one operand, where the operation allows it; a
compare-exchange and a floating addition do not (05 R128). -/
def Rmw.merges : Rmw → Bool
  | .cas => false
  | .fadd => false
  | _ => true
def Rmw.merge (n : Nat) (op : Rmw) (a b : Nat) : Nat := if op = .exch then b else rmwVal n op a b 0

/-- An operation in a partner's memory (15 R331). -/
def atmMsg (off n : Nat) (op : Rmw) (ret : Bool) (arg new : Nat) : XMsg :=
  let red := op.reduces && !ret
  { op := if red then 0x04 else 0x03, addr := off, size := if n = 4 then 2 else 3, ms := op.signed, fn := op.fn,
    body := bytesOf 8 arg ++ (if op = .cas then bytesOf 8 new else []) }

/-- The operations that lanes make of an atomic: lane, place, operand and new value; one for each place in a partner's memory
where the operation merges, under its first lane (05 R128).
(DESIGN CHOICE, log entry 80.) -/
def mergeLanes (n : Nat) (op : Rmw) (ls : List (Nat × Loc × Nat × Nat)) : List (Nat × Loc × Nat × Nat) :=
  ls.foldl (fun acc q =>
    match q.2.1 with
    | .remote _ _ =>
      if op.merges && acc.any fun r => r.2.1 == q.2.1 then
        acc.map fun r => if r.2.1 = q.2.1 then (r.1, r.2.1, op.merge n r.2.2.1 q.2.2.1, r.2.2.2) else r
      else acc ++ [q]
    | _ => acc ++ [q]) []

/-- The lanes' operations one after another in ascending lane order (05 R128), with the values found. -/
def State.rmwLanes (c : CoreAt) (k : Nat) (x : Ctx) (n : Nat) (op : Rmw) (ret : Bool)
    (ls : List (Nat × Loc × Nat × Nat)) (s : State) : State × List (Nat × Nat) :=
  (mergeLanes n op ls).foldl (fun (p : State × List (Nat × Nat)) q =>
    match q.2.1 with
    | .remote port off =>
      if p.1.linkUp port then
        (p.1.sendReq port { ctx := k, core := c.core, msg := atmMsg off n op ret q.2.2.1 q.2.2.2,
                            waiter := .group (s.idAt c) ret q.1 }, p.2)
      else (p.1.crossFaultGroup c k x port, p.2 ++ (ls.filter fun r => r.2.1 == q.2.1).map fun r => (r.1, 0))
    | l =>
      let r := p.1.rmwLoc k n op l q.2.2.1 q.2.2.2
      (r.1.dirtyCopy (clusterOf c.core) l n, p.2 ++ [(q.1, r.2)])) (s, [])

/-- The operand of lane `t` of an atomic (06 R144). -/
def atomArg (g : Group) (w : Word) (t : Nat) : Nat := laneVal g (fVB w) (sizeSpan w) t

/-- The values found by the lanes that a merged operation stands for: the value it found, and after it what each lane of its
place leaves to the next (05 R128). -/
def Group.spread (g : Group) (w : Word) (op : Rmw) (vals : List (Nat × Nat)) : List (Nat × Nat) :=
  g.lanes.filterMap fun t =>
    match vals.find? fun p => p.1 == t with
    | some p => some p
    | none =>
      let same := g.lanes.filter fun u => laneAddr g w u == laneAddr g w t
      (vals.find? fun p => same.contains p.1).map fun p =>
        (t, (same.filter fun u => decide (p.1 ≤ u) && decide (u < t)).foldl
          (fun v u => rmwVal (accBytes w) op v (atomArg g w u) 0) p.2)

/-- The values found, written to VD (05 R124). -/
def Group.setFound (g : Group) (w : Word) (vals : List (Nat × Nat)) : Group :=
  g.setVals (fVD w) (sizeSpan w) fun t =>
    ((vals.find? fun p => p.1 == t).map Prod.snd).getD (laneVal g (fVD w) (sizeSpan w) t)

/-- A commit point of a core: its checkpoint is its work as it stands (17 R364, R365). A core whose matrix unit has
accepted commands takes it once they have completed. -/
def State.takeCommit (i : Nat) (s : State) : State :=
  let o := ((s.core i).ctx.bind s.ctx).bind Ctx.order
  s.modCore i fun c => { c with ckpt := some c.work, ckptOrder := o, lastCommit := c.cycles, commitDue := false }
/-- DEDUCED, log entry 20. -/
def State.commitPoint (i : Nat) (s : State) : State :=
  if (s.core i).ctx.isNone then s
  else if (s.core i).work.mq.isEmpty then s.takeCommit i else s.modCore i fun c => { c with commitDue := true }

end Sys2Proof.Machine
end

