-- ==== Sys2Proof/Machine/CacheOps.lean ====
section
/-! DEFINITION. Lines of the unified cache: allocation, victims, and the range operations (10 R224 to R227, R241 to R245). -/

namespace Sys2Proof.Machine

/-! ### Ways and victims (10 R224, R227) -/

/-- The lines that share a set with a line (10 R224, R225). -/
def State.sameSet (s : State) (ln : Nat) : List Nat :=
  (tkeys s.lines).filter fun m =>
    s.home m == s.home ln && setOf (m * 128) == setOf (ln * 128)
/-- The ways that a line's set has in use. -/
def State.waysUsed (s : State) (ln : Nat) : List Nat := (s.sameSet ln).filter fun m => (s.line m).present

/-- The class of a victim: smaller is preferred (10 R227). -/
def Line.victimClass (x : Line) : Nat :=
  match x.dir with
  | .uncached => if x.dirty = 0 then 0 else 1
  | .shared => 2
  | .owned => 3

/-- A way that is neither pinned nor has a pending reduction (10 R227). -/
def Line.loose (x : Line) : Bool := x.present && x.pin.isNone && x.pend.isEmpty
/-- A way that may be chosen as a victim now: loose, and in no transaction. -/
def Line.canEvict (x : Line) : Bool := x.loose && !x.isBusy

/-- A tree of 15 nodes over 16 ways, one bit a node: 1 points to its upper half. A use of a way turns the nodes above it away
from it.
(PRESUMED, log entry 37.) -/
def plruTouch (t way : Nat) : Nat :=
  ([3, 2, 1, 0].foldl (fun (p : Nat × Nat) i =>
    let b := way / 2 ^ i % 2
    (p.1 - b2n (p.1.testBit p.2) * 2 ^ p.2 + (1 - b) * 2 ^ p.2, 2 * p.2 + b)) (t, 1)).1
/-- The way that the tree points to among some: where a half holds none of them, the other half is taken.
(PRESUMED, log entry 37.) -/
def plruPick (t : Nat) (ways : List Nat) : Nat :=
  ([3, 2, 1, 0].foldl (fun (p : Nat × List Nat) i =>
    let b := b2n (t.testBit p.1)
    let b := if p.2.any fun w => w / 2 ^ i % 2 == b then b else 1 - b
    (2 * p.1 + b, p.2.filter fun w => w / 2 ^ i % 2 == b)) (1, ways)).2.headD 0

/-- The set of a line among all sets. -/
def State.setKey (s : State) (ln : Nat) : Nat := s.home ln * 8192 + setOf (ln * 128)
/-- A line's way is used. -/
def State.touch (ln : Nat) (s : State) : State :=
  { s with plru := tmod 0 s.plru (s.setKey ln) fun t => plruTouch t (s.line ln).way }

/-- The victim among lines: of the most preferred class, the one that the pseudo-LRU tree points to (10 R227).
(PRESUMED, log entry 37.) -/
def State.victim (s : State) (ln : Nat) : Option Nat :=
  let c := (s.waysUsed ln).filter fun m => (s.line m).canEvict
  [0, 1, 2, 3].findSome? fun k =>
    let of := c.filter fun m => (s.line m).victimClass == k
    let w := plruPick (tget 0 s.plru (s.setKey ln)) (of.map fun m => (s.line m).way)
    of.find? fun m => (s.line m).way == w

/-- A line leaves the cache in one transaction: copies are recalled, dirty bytes written back (10 R226, R227). -/
def State.evict (ln : Nat) (s : State) : State :=
  let s := s.homeTake true ln
  ((s.dropCopies ln).writeBack (ln * 128)).setLine ln { prio := (s.line ln).prio }

/-- A line takes a way that is free in its set, with no byte valid. -/
def State.seatLine (ln : Nat) (s : State) : State :=
  let used := (s.waysUsed ln).map fun m => (s.line m).way
  (s.modLine ln fun x => { x with present := true, way := (firstBelow 16 fun w => !used.contains w).getD 0 }).touch ln

/-- A line gets a way in one transaction; none where no way can be given up now. -/
def State.allocLine (ln : Nat) (s : State) : Option State :=
  if (s.line ln).present then some s
  else if (s.waysUsed ln).length < 16 then some (s.seatLine ln)
  else (s.victim ln).map fun m => (s.evict m).seatLine ln

/-- prefetch: looked up, and allocated and filled if absent (10 R245, R246). -/
def State.prefetchLine (ln : Nat) (s : State) : State :=
  let s := s.countLookup (s.home ln)
  if (s.line ln).present then s.touch ln
  else match s.allocLine ln with
    | some s => (s.countMiss (s.home ln)).modLine ln Line.filled
    | none => s

/-- flush: every dirty copy is written to memory; copies stay valid and clean (10 R245). -/
def State.flushLine (ln : Nat) (s : State) : State :=
  let s := ((s.countLookup (s.home ln)).performPend ln).writeBack (ln * 128)
  let s := if (s.line ln).dir = .owned then s.countFwd ln else s
  let clean (c : Copy) : Copy := { c with dirty := 0, valid := if c.held then allBytes else c.valid }
  let s := (List.range 96).foldl (fun s n => s.setCopy ln n (clean (s.copy ln n))) s
  s.modLine ln fun x => if x.present then { x.filled with dirty := 0 } else x

/-- invalidate: every copy is discarded without write-back, after its pending reductions; its pin is released
(10 R243, R245). -/
def State.invalidateLine (ln : Nat) (s : State) : State :=
  let s := (s.countLookup (s.home ln)).performPend ln
  let s := match (s.line ln).dir with
    | .shared => s.countRound ln
    | .owned => s.countFwd ln
    | .uncached => s
  ((s.discard (ln * 128)).dropCopies ln).modLine ln fun x => { prio := x.prio }

/-- The lines of a BVA range that a range command acts on: those of pages that the berth maps in stacked memory or the
capacity tier (10 R244). -/
def State.rangeLines (s : State) (b bva len : Nat) : List Nat :=
  (List.range (len / 128)).filterMap fun i =>
    let a := bva + i * 128
    if deviceRegion ≤ a then none
    else match pageAt (s.berth b).map a with
      | some (_, dpa) =>
        if (dpa < s.stackTop ∨ (lpxBase ≤ dpa ∧ dpa < s.lpxTop)) ∧ !s.retired.contains (dpa / 65536) then some (dpa / 128) else none
      | none => none

/-- A line's step of a range command waits for the transaction in progress on the line (10 R237, R245).
(DESIGN CHOICE, log entry 77.) -/
def State.anyBusy (s : State) (lines : List Nat) : Bool := lines.any fun ln => (s.line ln).isBusy

/-- A range operation on every line of its range in turn (10 R245). -/
def State.rangeOp (op : Nat) (lines : List Nat) (s : State) : State :=
  lines.foldl (fun s ln => match op with
    | 0 => s.prefetchLine ln
    | 1 => s.flushLine ln
    | _ => s.invalidateLine ln) s

end Sys2Proof.Machine
end

