-- ==== Sys2Proof/Machine/Pins.lean ====
section
/-! DEFINITION. Pins and the cache control window (10 R241 to R243). -/

namespace Sys2Proof.Machine

open Sys2Proof

/-- Ways of a line's set that are pinned by a berth that `p` accepts (10 R241). -/
def State.pinnedWays (s : State) (ln : Nat) (p : Nat → Bool) : Nat :=
  ((s.sameSet ln).filter fun m => (s.line m).pin.elim false p).length

/-- Why a line cannot be pinned for a berth: the lowest code of "Pin results", 0 where it can (10 R241, R242). -/
def State.pinFault (s : State) (b ln : Nat) : Nat :=
  if (s.line ln).pin = some b then 0
  else if (s.berth b).grant.pinWays < s.pinnedWays ln (· == b) + 1 then 0x01
  else if ((s.poolRec (s.poolOf b)).elim 0 poolPinWays) <
      s.pinnedWays ln (fun o => s.poolOf o == s.poolOf b) + 1 then 0x02
  else if 12 < s.pinnedWays ln (fun _ => true) + 1 then 0x03 else 0

/-- The line of a BVA, if it lies in a page of the berth outside apertures and the device window region (10 R242). -/
def State.pinLineOf (s : State) (b bva : Nat) : Option Nat :=
  (s.rangeLines b bva 128).head?

/-- The pin command runs over the lines in ascending order and stops at the first that fails: lines handled and status,
or `none` for a status while a line waits for a pending reduction or a transaction (10 R241, R242). -/
def State.pinGo (b bva : Nat) : Nat → Nat → State → State × Nat × Option Nat
  | 0, done, s => (s, done, some 0)
  | n + 1, done, s =>
    match s.pinLineOf b bva with
    | none => (s, done, some 0x04)
    | some ln =>
      let f := s.pinFault b ln
      if f != 0 then
        (s.bump (mdCode (s.home ln % 4)) (0x100000 + s.home ln / 4 * 4096 + 0x30) (fun s => (s.slice (s.home ln)).pinFail)
          (fun v s => s.modSlice (s.home ln) fun x => { x with pinFail := v }), done, some f)
      else if (s.line ln).isBusy then (s, done, none)
      else
        let t := s.countLookup (s.home ln)
        match t.allocLine ln with
        | none => (s, done, none)
        | some t =>
          let t := if (s.line ln).present then t else t.countMiss (s.home ln)
          (t.modLine ln fun x => { x.filled with pin := some b }).pinGo b (bva + 128) n (done + 1)

/-- Unpin releases the berth's own pins in the range (10 R242). -/
def State.unpinGo (b bva : Nat) : Nat → Nat → State → State × Nat × Option Nat
  | 0, done, s => (s, done, some 0)
  | n + 1, done, s =>
    match s.pinLineOf b bva with
    | none => (s, done, some 0x04)
    | some ln =>
      (if (s.line ln).pin = some b then s.modLine ln fun x => { x with pin := none } else s).unpinGo b (bva + 128) n (done + 1)

/-- PIN_BASE and PIN_LEN within their values (10 R242). -/
def pinRangeOk (base len : Word) : Bool :=
  base.toNat % 128 == 0 && decide (base.toNat < 2 ^ 48) && len.toNat % 128 == 0 && decide (128 ≤ len.toNat) &&
  decide (len.toNat ≤ 67108864)

/-- A value of PIN_CMD is carried out: a command starts on the range as it stands, or ends at once (10 R242). -/
def Windows.pinStart (v : Word) (w : Windows) : Windows :=
  if v = 1 ∨ v = 2 then { w with pinRun := some v.toNat, runBase := w.pinBase, runLen := w.pinLen } else { w with pinResult := 0x04 }

/-- A pin command has ended: PIN_RESULT, and the groups held by it go on (10 R242). A held PIN_CMD starts next. -/
def Group.pinEnd (status done : Nat) (g : Group) : Group :=
  let r := BitVec.ofNat 64 (status + done * 2 ^ 32)
  let g := { g with win := { g.win with pinRun := none, pinResult := r } }
  match g.hold with
  | some (.pinResult rd) => (g.setS rd r).goOn
  | some (.pinCmd v) =>
    ({ g with win := g.win.pinStart v }).goOn
  | _ => g

/-- A held write of a control word that is carried out now is followed by a commit point (17 R364). -/
def State.commitIf (b : Bool) (i : Nat) (s : State) : State := if b then s.commitPoint i else s

/-- The group's pin command runs to its end (10 R242). -/
def State.pinRun (c : CoreAt) (which : Nat) (s : State) : State :=
  let again := (s.groupAt c).elim false fun g => g.heldBy fun h => match h with | .pinCmd _ => true | _ => false
  match s.liveCore c.core, s.groupAt c with
  | some (_, x), some g =>
    if g.win.pinRun = some which then
      if !pinRangeOk g.win.runBase g.win.runLen then
        let s := (s.modGroup c (Group.pinEnd 0x04 0)).commitIf again c.core
        if which = 1 then s.raiseVector x.berth 7 else s
      else
        let n := g.win.runLen.toNat / 128
        let r := if which = 1 then s.pinGo x.berth g.win.runBase.toNat n 0 else s.unpinGo x.berth g.win.runBase.toNat n 0
        match r.2.2 with
        | none => r.1
        | some st =>
          let s := (r.1.modGroup c (Group.pinEnd st r.2.1)).commitIf again c.core
          if st ≠ 0 ∧ which = 1 then s.raiseVector x.berth 7 else s
    else s
  | _, _ => s

/-- PIN (10 R241): the group's pin command 1. -/
def execPin (c : CoreAt) (s : State) : Host.Outcome State Fault Refusal := .next (s.pinRun c 1)

/-- UNPIN (10 R242): the group's pin command 2. -/
def execUnpin (c : CoreAt) (s : State) : Host.Outcome State Fault Refusal := .next (s.pinRun c 2)

/-- A store to a word of the cache control window (10 R242). -/
def State.pinStore (c : CoreAt) (off : Nat) (v : Word) (s : State) : State :=
  let go (f : Windows → Windows) (s : State) := s.modGroup c fun g => ({ g with win := f g.win }).advance
  match off with
  | 0x00 => go (fun w => { w with pinBase := v }) s
  | 0x08 => go (fun w => { w with pinLen := v }) s
  | 0x10 =>
    let held := (s.groupAt c).elim false fun g => g.win.pinRun.isSome
    (if held then s.modGroup c fun g => { g with hold := some (.pinCmd v) }
     else go (Windows.pinStart v) s).commitPoint c.core
  | _ => go id s

/-- A load of PIN_RESULT: held until the group's pin command ends (10 R242). -/
def State.pinResultLoad (c : CoreAt) (rd : Nat) (s : State) : State :=
  s.modGroup c fun g =>
    if g.win.pinRun.isSome then { g with hold := some (.pinResult rd) } else (g.setS rd g.win.pinResult).advance

end Sys2Proof.Machine
end

