-- ==== Sys2Proof/Machine/Reply.lean ====
section
/-! DEFINITION. Responses of the management mailbox (21 R465 to R467) and the places of steward memory (21 R453). -/

namespace Sys2Proof.Machine

/-- The first DPA above steward memory (21 R453). -/
def State.stewardTop (s : State) : Nat :=
  (if s.mft.running.isSome then bf (s.mrec 1) 4 4 else 8) * 1073741824

/-- Bytes from a DPA on lie in steward memory, 8-byte aligned (02 R61, R62; 19 R430); a place that is not aligned counts as
outside it.
(DESIGN CHOICE, log entry 73.) -/
def State.inSteward (s : State) (dpa n : Nat) : Bool := dpa % 8 == 0 && decide (dpa + n ≤ s.stewardTop)

/-- Steward firmware runs and issues commands: boot has started it, and the device is neither stopped, nor tripped, nor in
the failed state. -/
def State.fwActs (s : State) : Bool := !s.stopped && s.failed.isNone && !s.aon.tripped && s.rst.fwUp

/-- A response is posted: header and body, RESP_READY, and MSI-X vector 0 (21 R465, R466). -/
def State.respond (op tag status result : Nat) (body : List Byte) (s : State) : State :=
  let s : State := { s with mbx := { s.mbx with
    req := none, respReady := true,
    resp := bytesOf 2 op ++ bytesOf 1 status ++ bytesOf 1 result ++ bytesOf 4 body.length ++ bytesOf 4 tag ++ bytesOf 4 0 ++ body } }
  if s.mbx.linkUp then s.say (.msi 0 0) else s

/-- What a request waited for has ended with a subsystem's code: OK or REFUSED (21 R466, R467). -/
def State.answerWait (w : MbxWait) (result : Nat) (body : List Byte) (s : State) : State :=
  match s.mbx.req with
  | some (op, tag, v, _) => if v = w then s.respond op tag (if result = 0 then 0 else 3) result body else s
  | none => s

/-- What a request waited for has ended well, with a code that its row names. -/
def State.answerOk (w : MbxWait) (result : Nat) (s : State) : State :=
  match s.mbx.req with
  | some (op, tag, v, _) => if v = w then s.respond op tag 0 result [] else s
  | none => s

end Sys2Proof.Machine
end

