-- ==== Sys2Proof/Machine/Manifest.lean ====
section
/-! DEFINITION. Validation, storage and application of Manifests (02 R40 to R62, R489). -/

namespace Sys2Proof.Machine

open Sys2Proof

/-! ### What validation reads of the device -/

/-- The slots of a cluster that are good in the repair map (17 R360). -/
def State.goodSlots (s : State) (n : Nat) : List Nat := below 9 fun j => !s.nv.failedSlots.contains (n * 9 + j)

/-- The device as validation sees it (02 R49, R50). Set engines have no entry in the repair map. -/
def State.silicon (s : State) : Silicon :=
  { cluster := fun n => decide (8 ≤ (s.goodSlots n).length), engine := fun _ => true,
    slice := fun n => !s.nv.failedSlices.contains n,
    packages := fun x c => (s.trained.filter fun p => p.1 / 8 == x && p.2 == c).length,
    hbmGib := s.stackGib }

/-- Step 2: R45 against the lifecycle state and the owner keys. -/
def State.keyOk (s : State) (id : List Byte) : Bool :=
  match s.lifecycle with
  | 0 | 1 | 3 => id == zeros 16
  | 2 => id != zeros 16 && s.ownerKeys == some id
  | _ => false

/-- The versions of the images in the flash (02 R51). -/
def State.flashVersions (s : State) : List Nat :=
  ((List.range 2).filterMap fun i => tget none s.rst.firmwares i).map Image.version

/-- A berth is quiesced: it admits no order, none of its orders lacks a final answer, and it has no context (02 "Live
partial re-Manifest"; 03 R66). -/
def State.quiesced (s : State) (b : Nat) : Bool :=
  let y := s.berth b
  (y.state != 2 || y.admitHold) && (s.ordersOf b).isEmpty && (s.ctxsOf b).isEmpty &&
  !((s.prf.queue ++ s.prf.onWay).any fun h => h.berth == b && s.admits b h.arrival)

/-- The berths of a pool that are not FREE. -/
def State.poolBerths (s : State) (q : Nat) : List Nat := below 256 fun b => (s.berth b).state != 0 && s.poolOf b == q

/-- A sum over the berths of a pool. -/
def State.poolSum (s : State) (q : Nat) (f : Grant → Nat) : Nat :=
  (s.poolBerths q).foldl (fun n b => n + f (s.berth b).grant) 0

/-- The clusters of a POOL record. -/
def poolClusters (b : List Byte) : List Nat := below 96 (poolCluster b)
/-- The most ASSURED that a pool of `c` clusters takes (03 R63). -/
def assuredLimit (c : Nat) : Nat := c * 16 * 98 / 100

/-- The most ways that a pool's berths have pinned in one set (02 R58). -/
def State.poolPinned (s : State) (q : Nat) : Nat :=
  (tkeys s.lines).foldl (fun n ln => max n (s.pinnedWays ln fun b => s.poolOf b == q)) 0

/-- A changed pool holds its berths (02 R58). -/
def State.poolFits (s : State) (q : Nat) (b : List Byte) : Bool :=
  decide ((s.poolBerths q).length ≤ poolMaxBerths b) &&
  decide (s.poolSum q Grant.hbmMib ≤ poolHbmGib b * 1024) && decide (s.poolSum q Grant.lpxMib ≤ poolLpxGib b * 1024) &&
  decide (s.poolSum q Grant.sessions ≤ poolSessions b) && decide (s.poolSum q Grant.contexts ≤ poolContexts b) &&
  decide (s.poolSum q Grant.assured ≤ assuredLimit (poolClusters b).length) && decide (s.poolPinned q ≤ poolPinWays b)

/-- The clusters of a pool of the running Manifest. -/
def State.poolCls (s : State) (q : Nat) : List Nat := ((s.poolRec q).map poolClusters).getD []

/-- The working cores of a pool: bound slots that have not failed (04 R99). -/
def State.poolCores (s : State) (q : Nat) : List Nat :=
  (s.poolCls q).flatMap fun n => ((List.range 9).map (n * 9 + ·)).filter fun i => (s.core i).bound.isSome && (s.core i).slotState != 2

/-- The pool's ASSURED no longer fits its capacity, of two sixteenths per working core (04 R99). -/
def State.poolShort (s : State) (q : Nat) : Bool :=
  decide (2 * (s.poolCores q).length * 98 / 100 < s.poolSum q Grant.assured)

/-- A pool is recounted after a repair: while its ASSURED does not fit, vector 6 tells its berths (04 R99). -/
def State.recount (q : Nat) (s : State) : State :=
  if s.poolShort q then (s.poolBerths q).foldl (fun s b => s.raiseVector b 6) s else s

/-- The changed pools that break R57, and those that break R58. -/
def State.badScope (s : State) (old new : Manifest) : List Nat :=
  (changedPools old new).filter fun q => !((s.poolBerths q).all s.quiesced) || ((new.pool q).isNone && !(s.poolBerths q).isEmpty)
def State.badFit (s : State) (old new : Manifest) : List Nat :=
  (changedPools old new).filter fun q => !((new.pool q).elim true (s.poolFits q))

/-! ### Validation (02 R52) -/

/-- What a validation answers: its code, ERR_OFFSET and ERR_TYPE. -/
structure Verdict where
  code : Nat := 0
  off : Nat := 0
  ty : Nat := 0
  deriving DecidableEq, Repr

/-- A step with its code: it passes where it finds no failure. -/
def stepOf (code : Nat) (fails : List Place) (next : Verdict) : Verdict :=
  match firstPlace fails with
  | some p => { code := code, off := p.1, ty := p.2.2 }
  | none => next
/-- A check of steps 1 to 5, whose failures have no place. -/
def headStep (code : Nat) (ok : Bool) (next : Verdict) : Verdict := if ok then next else { code := code }

/-- Steps 1 to 6. -/
def State.judgeHead (s : State) (b : List Byte) (g : Sigs) (seqOk : Bool) (next : Verdict) : Verdict :=
  headStep 1 (headerOk b) <| headStep 2 (s.keyOk (readMft b).keyId) <| headStep 3 g.ecdsa <| headStep 4 g.lms <|
  headStep 5 seqOk <| stepOf 6 (formatFails b) next

/-- Steps 7 to 9. -/
def State.judgeBody (s : State) (b : List Byte) (versions : List Nat) (next : Verdict) : Verdict :=
  let m := readMft b
  stepOf 9 (if versions.any m.accepts then [] else lowest (recsOf m.recs 12)) <|
  stepOf 7 (structureFails s.silicon m.recs) <| stepOf 8 (resourceFails s.silicon m.recs) next

/-- Step 10 (02 R57, R58). -/
def State.judgeLive (s : State) (b : List Byte) : Verdict :=
  let m := readMft b
  match s.mft.running with
  | none => {}
  | some old =>
    stepOf 0x0A (scopeFails old m ++ (s.badScope old m).map (poolPlace m)) <|
    stepOf 0x0B ((s.badFit old m).map (poolPlace m)) {}

/-- A submission is live: its LIVE flag is 1 and a Manifest runs (02 R55). -/
def State.isLive (s : State) (b : List Byte) : Bool := s.mft.running.isSome && (readMft b).live

/-- R40's sequence rule for a delivered Manifest. -/
def State.seqOk (s : State) (b : List Byte) : Bool :=
  decide (s.mft.floor ≤ (readMft b).seq) && s.mft.running.elim true fun m => decide (m.seq < (readMft b).seq)

/-- The validation of a delivered Manifest (02 R52). -/
def State.judge (s : State) (b : List Byte) (g : Sigs) : Verdict :=
  s.judgeHead b g (s.seqOk b) <|
    s.judgeBody b (if s.isLive b then [s.sec.fwVersion] else s.flashVersions) (if s.isLive b then s.judgeLive b else {})

/-- The validation of a slot at boot (02 R53). -/
def State.judgeBoot (s : State) (x : MftSlot) : Verdict :=
  if x.bytes.isEmpty then { code := 0xFF }
  else s.judgeHead x.bytes x.sigs (decide (s.mft.floor ≤ (readMft x.bytes).seq)) (s.judgeBody x.bytes [s.sec.fwVersion] {})

/-! ### Application (02 R53, R60) -/

/-- The far dies of a die's gangways with their lane groups, in the order of 01 R37. -/
def farEnds (d : Nat) : List (Nat × Nat) :=
  gangways.filterMap fun g => if g.1 = d then some (g.2.1, g.2.2) else if g.2.1 = d then some (g.1, g.2.2) else none
/-- The first lane group of a die's gangway to another (01 R37). -/
def lgBase (d far : Nat) : Nat := ((farEnds d).takeWhile fun p => p.1 != far).foldl (fun n p => n + p.2) 0

/-- GWY_LG_BIND of a bound lane group (01 R37). -/
def bindWord (far near peer : Nat) : Word := BitVec.ofNat 64 (1 + far * 256 + near * 65536 + peer * 16777216)

/-- A gangway's lane groups are bound. -/
def State.bindGangway (a z : Nat) (es : List (Nat × Nat × Nat)) (s : State) : State :=
  es.foldl (fun s e =>
    (s.modDie a fun d => { d with binds := tset 0 d.binds (lgBase a z + e.1) (bindWord z e.2.1 e.2.2) }).modDie z fun d =>
      { d with binds := tset 0 d.binds (lgBase z a + e.1) (bindWord a e.2.2 e.2.1) }) s

/-- "Default bindings when unconfigured" (02 R54). -/
def defaultBinds (a z : Nat) : List (Nat × Nat × Nat) :=
  if a < 8 then
    if z < 0x20 then [(0, 0x80, 0), (1, 0x80, 0), (2, 0x81, 0x81), (3, 0x81, 0x81)]
    else (List.range 4).map fun g => (g, 0x80, 0x83)
  else if z < 0x20 then (List.range 64).map fun g => (g, g / 8, g / 8)
  else []

/-- Every lane group loses its binding. -/
def State.clearBinds (s : State) : State :=
  (List.range 8 ++ [0x10, 0x11, 0x12, 0x13, 0x20, 0x21]).foldl (fun s d => s.modDie d fun x => { x with binds := [] }) s

/-- The populated packages, alternating between the I/O dies (01 R33). -/
def State.pickPackages (s : State) (n c : Nat) : List Nat :=
  let of (x : Nat) := (below 16 fun p => p / 8 == x && s.trained.contains (p, c)).take (n / 2)
  (List.range n).map fun j => (of (j % 2)).getD (j / 2) 0

/-- A Manifest is applied whole (02 R53): bindings, weights, SLICE_MAP, service, port modes and power limits; pools,
debug policy and event routing are read from the running Manifest. -/
def State.applyWhole (m : Manifest) (s : State) : State :=
  let dev := m.body 1
  let ins := m.body 2
  let pow := m.body 9
  let modes := m.body 7
  let vc := m.body 5
  let s : State := { s with
    sliceMap := (m.body 3).map BitVec.toNat,
    lpxCount := bf dev 0 1, lpxGib := bf dev 1 1, packages := s.pickPackages (bf dev 0 1) (bf dev 1 1),
    pwr := { s.pwr with floor := bf pow 0 2, capMax := bf pow 2 2, cap := bf pow 4 2, estimator := bf pow 6 1 } }
  let s := (List.range 256).foldl (fun s i => s.modSlice i fun x => { x with inService := bitmapAt ins 16 i }) s
  let s := (List.range 32).foldl (fun s i =>
    { s with engines := tmod {} s.engines i fun x => { x with inService := bitmapAt ins 12 i } }) s
  let s := (List.range 64).foldl (fun s p => s.modPort p fun x => { x with mode := bf modes (2 * p) 1 }) s
  let s := (List.range 12).foldl (fun s j => s.modDie (bf vc (2 * j) 1) fun x =>
    { x with w2 := bf vc (2 * j + 1) 1 % 16, w3 := bf vc (2 * j + 1) 1 / 16 }) s
  (recsOf m.recs 4).foldl (fun s r => s.bindGangway (bf r.body 0 1) (bf r.body 1 1) (bindEntries r.body)) s.clearBinds

/-- A Manifest runs from now on, and a new KIND 0 report is made (02 R60, 19 R413). -/
def State.runManifest (m : Manifest) (s : State) : State :=
  ({ s with mft := { s.mft with state := 2, running := some m, digest := sha384 m.message } } : State).newReport

/-- The order in which boot considers the slots (02 R53). -/
def State.slotOrder (s : State) : List Nat :=
  let x0 := tget {} s.mft.slots 0
  let x1 := tget {} s.mft.slots 1
  let r (x : MftSlot) : Option Nat := if headerOk x.bytes then some (readMft x.bytes).seq else none
  match r x0, r x1 with
  | some a, some b => if a < b then [1, 0] else [0, 1]
  | none, some _ => [1, 0]
  | _, _ => [0, 1]

/-- The Manifest apply of boot: the first slot in order that passes, or the unconfigured state (02 R53, R54). Both slots are
judged against the floor as it stood; MFT_ERR_LOC goes with LAST_RESULT (R489), and RESULT_NEW stays as it is.
(DESIGN CHOICE, log entry 73.) -/
def State.bootManifest (s : State) : State :=
  let w (i : Nat) := s.judgeBoot (tget {} s.mft.slots i)
  let v (i : Nat) := (w i).code
  let s1 : State := { s with mft := { s.mft with slot0Result := v 0, slot1Result := v 1, errOffset := 0, errType := 0 } }
  match s.slotOrder.find? fun i => v i == 0 with
  | some i =>
    let m := readMft (tget {} s.mft.slots i).bytes
    ({ s1 with mft := { s1.mft with runSlot := i, lastResult := 0, floor := m.seq } } : State).applyWhole m |>.runManifest m
  | none =>
    gangways.foldl (fun s g => s.bindGangway g.1 g.2.1 (defaultBinds g.1 g.2.1))
      ({ s1 with mft := { s1.mft with
        state := 3, lastResult := v (s.slotOrder.headD 0), errOffset := (w (s.slotOrder.headD 0)).off,
        errType := (w (s.slotOrder.headD 0)).ty } } : State).clearBinds

/-! ### Delivery (02 R55 to R60) -/

/-- A write of SUBMIT: BUSY while a submission is in progress, else validation starts on the candidate (02 R55). -/
def State.mftSubmit (cand : List Byte) (s : State) : State :=
  if s.mft.phase ≠ .idle then { s with mft := { s.mft with lastResult := 0x0C, resultNew := true } }
  else { s with mft := { s.mft with phase := .validating, candidate := cand } }

/-- A result is posted (02 R61); a mailbox request that delivered the Manifest is answered. -/
def State.postMft (v : Verdict) (s : State) : State :=
  ({ s with mft := { s.mft with
      phase := .idle, candidate := [], lastResult := v.code, lastLive := (readMft s.mft.candidate).live, resultNew := true,
      errOffset := v.off, errType := v.ty } } : State).answerWait .manifest v.code []

/-- The slot that a delivered Manifest is written to (02 R55). -/
def State.storeSlot (s : State) : Nat :=
  if s.mft.running.isSome then 1 - s.mft.runSlot
  else
    let x (i : Nat) : MftSlot := tget {} s.mft.slots i
    let weak (i : Nat) := !headerOk (x i).bytes || !(x i).sigs.ecdsa || !(x i).sigs.lms
    if weak 0 then 0 else if weak 1 then 1
    else if (readMft (x 1).bytes).seq < (readMft (x 0).bytes).seq then 1 else 0

/-- The pools that a live submission in progress adds, removes or changes (02 R59). -/
def State.poolHeld (s : State) (q : Nat) : Bool :=
  let b := s.mft.candidate
  match s.mft.before.or s.mft.running with
  | some old => s.mft.phase != .idle && headerOk b && (readMft b).live && old.pool q != (readMft b).pool q
  | none => false

/-- MFT_CMD_SUBMIT (02 R55, R62): firmware writes SUBMIT; the candidate stands at MFT_SRC. -/
def execMftCmdSubmit (s : State) : Host.Outcome State Fault Refusal :=
  .next (if !s.fwActs then s
    else s.mftSubmit (if s.inSteward s.mft.src s.mft.len then s.peekN s.mft.src s.mft.len else []))

/-- MFT_VALIDATION_COMPLETE (02 R52, R55, R60): a failure is posted; a Manifest for the next boot is written to its slot;
a live one is applied to the changed pools, runs, and is written. -/
def execMftValidationComplete (sigs : Sigs) (s : State) : Host.Outcome State Fault Refusal :=
  .next (if s.mft.phase ≠ .validating ∨ !s.running then s
    else
      let b := s.mft.candidate
      let v := s.judge b sigs
      let s : State := { s with mft := { s.mft with sigs := sigs } }
      if v.code ≠ 0 then s.postMft v
      else if s.isLive b then
        let slot := s.storeSlot
        let s' := ({ s with mft := { s.mft with phase := .writing slot true, before := s.mft.running } } : State).runManifest (readMft b)
        (s.mft.running.elim [] fun old => changedPools old (readMft b)).foldl (fun s q => s.recount q) s'
      else { s with mft := { s.mft with phase := .writing s.storeSlot false } })

/-- MFT_FLASH_WRITE_COMPLETE (02 R56, R60): the slot holds the Manifest, or is left empty with result FLASH_WRITE; the
anti-rollback floor follows a live Manifest that is written. -/
def execMftFlashWriteComplete (ok : Bool) (s : State) : Host.Outcome State Fault Refusal :=
  .next (match s.mft.phase with
    | .writing slot raise =>
      if !s.running then s else
      let m := readMft s.mft.candidate
      let put : MftSlot := if ok then { bytes := s.mft.candidate, sigs := s.mft.sigs } else {}
      let f := s.mft
      let f : Mft := { f with
        slots := tset {} f.slots slot put, before := none,
        floor := (if ok && raise then m.seq else f.floor), runSlot := (if ok && raise then slot else f.runSlot),
        stored := f.stored || (ok && f.running.isNone) }
      ({ s with mft := f } : State).postMft { code := if ok then 0 else 0x0D }
    | _ => s)

end Sys2Proof.Machine
end

