-- ==== Sys2Proof/Machine/Sessions.lean ====
section
/-! DEFINITION. The session allocator (13 R280 to R297): sessions, tray stores, reservations, the running batch and the
session control window. -/

namespace Sys2Proof.Machine

open Sys2Proof

def State.sess (s : State) (n : Nat) : Sess := tget {} s.sessions n
def State.setSess (n : Nat) (x : Sess) (s : State) : State := { s with sessions := tset {} s.sessions n x }
def State.modSess (n : Nat) (f : Sess → Sess) (s : State) : State := s.setSess n (f (s.sess n))
def State.store (s : State) (b : Nat) : Store := tget {} s.stores b
def State.modStore (b : Nat) (f : Store → Store) (s : State) : State := { s with stores := tmod {} s.stores b f }

/-- The open sessions of a berth, ascending (13 R281). -/
def State.sessOf (s : State) (b : Nat) : List Nat :=
  (tkeys s.sessions).filter fun n => (s.sess n).state != 0 && (s.sess n).berth == b
/-- An open session of the berth (13 R294). -/
def State.ownSess (s : State) (b n : Nat) : Bool := decide (n < 4096) && (s.sess n).state != 0 && (s.sess n).berth == b

/-! ### Frames (13 R283, R285, R288) -/

/-- Frames of a store in one tier, used or not. -/
def Store.framesBy (t : Store) (p : Frame → Bool) : List Nat :=
  (tkeys t.frames).filter fun f => (tget none t.frames f).elim false p
def Store.unused (t : Store) (tier : Bool) : List Nat := t.framesBy fun f => f.tier == tier && !f.used
/-- RESV of a berth: frames reserved and not yet allocated (13 R285). -/
def State.resvOf (s : State) (b : Nat) : Nat := (s.sessOf b).foldl (fun n k => n + (s.sess k).resvLeft) 0
/-- The free stacked-memory count: FRAMES − USED − RESV (13 R285). -/
def State.freeFrames (s : State) (b : Nat) : Nat := ((s.store b).unused false).length - s.resvOf b

/-- Frames are taken for trays, or returned. -/
def Store.setUsed (u : Bool) (fs : List Nat) (t : Store) : Store :=
  { t with frames := fs.foldl (fun m f => tset none m f ((tget none m f).map fun x => { x with used := u })) t.frames }

/-- Trays of a session at a length (13 R280). -/
def Sess.traysAt (x : Sess) (len : Nat) : Nat := ceilDiv len x.tpt * x.streams

/-- A session is extended by `n` tokens: status and state (13 R286 to R288). -/
def State.extend (k n : Nat) (s : State) : State × Nat :=
  let x := s.sess k
  let t := s.store x.berth
  if x.maxTokens < x.len + n then (s, 0x05)
  else
    let need := x.traysAt (x.len + n) - x.rack.length
    let take (fs : List Nat) (resv : Nat) : State × Nat :=
      ((s.modStore x.berth (Store.setUsed true fs)).setSess k
        { x with len := x.len + n, rack := x.rack ++ fs, resvLeft := x.resvLeft - resv }, 0)
    if x.reserved then take ((t.unused false).take need) need
    else
      let hbm := min need (s.freeFrames x.berth)
      let tier := if t.spill then need - hbm else 0
      if hbm + tier < need ∨ (t.unused true).length < tier then (s, 0x02)
      else take ((t.unused false).take hbm ++ (t.unused true).take tier) 0

/-- A session is closed: its trays and its unused reservation return, and it leaves its batch (13 R287, R291). -/
def State.closeSess (k : Nat) (s : State) : State :=
  let x := s.sess k
  (s.modStore x.berth fun t => { (t.setUsed false x.rack) with deferred := t.deferred.filter fun d => d.2.1 != k }).setSess k {}

/-- Frames that reserving a session sets aside (13 R286). -/
def Sess.reserveNeed (x : Sess) : Nat := if x.reserved then 0 else x.traysAt x.maxTokens - x.rack.length

/-- The sessions that an assured order names are reserved in header order, all or none (13 R286). -/
def State.reserveAll (b : Nat) (ks : List Nat) (s : State) : Option State :=
  let total := ks.dedup.foldl (fun n k => n + (s.sess k).reserveNeed) 0
  if s.freeFrames b < total then none
  else some (ks.dedup.foldl (fun s k => s.modSess k fun x =>
    if x.reserved then x else { x with reserved := true, resvLeft := x.reserveNeed }) s)

/-! ### Commands (13 R294) -/

/-- The answer of a command: status, SES_RET, and the session it names. -/
structure SesAns where
  status : Nat := 0
  ret : Nat := 0
  sess : Option Nat := none
  deriving DecidableEq, Repr

/-- SES_RESULT: LEN and state of the session named, after the command (13 R293). A command that names no session of the
berth leaves the fields zero.
(DESIGN CHOICE, log entry 25.) -/
def State.sesWord (s : State) (b : Nat) (a : SesAns) : Word :=
  match a.sess with
  | some k =>
    let x := s.sess k
    if x.state = 0 ∨ x.berth ≠ b then BitVec.ofNat 64 a.status
    else BitVec.ofNat 64 (a.status + x.len * 2 ^ 32 + x.state * 2 ^ 55)
  | none => BitVec.ofNat 64 a.status

/-- The frames of STORE_ADD and STORE_REMOVE: first frame and count, or `none` for a field outside its values. -/
def storeRange (a0 a1 : Word) : Option (Nat × Nat) :=
  let n := fld 0 24 a1
  if a0.toNat % 65536 = 0 ∧ a0.toNat < 2 ^ 48 ∧ a1.toNat = n ∧ 1 ≤ n ∧ n ≤ 8388608 then some (a0.toNat / 65536, n) else none

/-- The tier of a frame that may enter a store, or `none` (13 R283). -/
def State.frameTier (s : State) (b f : Nat) : Option Bool :=
  if deviceRegion ≤ f * 65536 then none
  else match pageAt (s.berth b).map (f * 65536) with
    | some (p, dpa) =>
      if !p.w || s.retired.contains (dpa / 65536) then none
      else if dpa < s.stackTop then some false
      else if lpxBase ≤ dpa ∧ dpa < s.lpxTop then some true else none
    | none => none

/-- STORE_ADD (13 R283): all or none. -/
def State.storeAdd (b : Nat) (a0 a1 : Word) (s : State) : State × SesAns :=
  let count (s : State) := (s.store b).frames.length
  match storeRange a0 a1 with
  | none => (s, { status := 0x04, ret := count s })
  | some (f, n) =>
    let fs := (List.range n).map (f + ·)
    if fs.all fun f => (s.frameTier b f).isSome && (tget none (s.store b).frames f).isNone then
      let s' := s.modStore b fun t => { t with frames := fs.foldl (fun m f =>
        tset none m f ((s.frameTier b f).map fun tier => { tier := tier })) t.frames }
      (s', { ret := count s' })
    else (s, { status := 0x04, ret := count s })

/-- STORE_REMOVE (13 R283, R294): every frame is free, and what stays covers the reservations. -/
def State.storeRemove (b : Nat) (a0 a1 : Word) (s : State) : State × SesAns :=
  let count (s : State) := (s.store b).frames.length
  match storeRange a0 a1 with
  | none => (s, { status := 0x04, ret := count s })
  | some (f, n) =>
    let fs := (List.range n).map (f + ·)
    let t := s.store b
    if fs.any fun f => (tget none t.frames f).isNone then (s, { status := 0x04, ret := count s })
    else
      let hbm := (fs.filter fun f => tget none t.frames f == some { tier := false, used := false }).length
      if (fs.any fun f => (tget none t.frames f).elim false Frame.used) || decide (s.freeFrames b < hbm)
      then (s, { status := 0x09, ret := count s })
      else
        let s' := s.modStore b fun t => { t with frames := fs.foldl (fun m f => tset none m f none) t.frames }
        (s', { ret := count s' })

/-- POLICY (13 R288). -/
def State.setPolicy (b : Nat) (a0 : Word) (s : State) : State × SesAns :=
  if a0.toNat ≤ 1 then (s.modStore b fun t => { t with spill := a0 == 1 }, {}) else (s, { status := 0x04 })

/-- OPEN (13 R280, R281, R286). -/
def State.openSess (b : Nat) (a0 : Word) (s : State) : State × SesAns :=
  let max := fld 0 23 a0
  let tpt := fld 32 13 a0
  let streams := fld 48 8 a0
  let x : Sess := { state := 1, berth := b, maxTokens := max, tpt := tpt, streams := streams }
  if fld 23 9 a0 ≠ 0 ∨ fld 45 3 a0 ≠ 0 ∨ fld 56 7 a0 ≠ 0 ∨ max = 0 ∨ 4194304 < max ∨ tpt = 0 ∨ 4096 < tpt ∨
    streams = 0 ∨ 128 < streams ∨ 1048576 < x.traysAt max then (s, { status := 0x04 })
  else if (s.berth b).grant.sessions ≤ (s.sessOf b).length then (s, { status := 0x01 })
  else
    match firstBelow 4096 fun n => (s.sess n).state == 0 with
    | none => (s, { status := 0x01 })
    | some n =>
      if bitAt 63 a0 then
        if s.freeFrames b < x.traysAt max then (s, { status := 0x02 })
        else (s.setSess n { x with reserved := true, resvLeft := x.traysAt max }, { ret := n, sess := some n })
      else (s.setSess n x, { ret := n, sess := some n })

/-- A session argument: [11:0], its other bits zero (13 R294). -/
def sessArg (a : Word) : Option Nat := if a.toNat < 4096 then some a.toNat else none

/-- CLOSE (13 R287). -/
def State.closeCmd (b : Nat) (a0 : Word) (s : State) : State × SesAns :=
  match sessArg a0 with
  | none => (s, { status := 0x04 })
  | some k => if s.ownSess b k then (s.closeSess k, {}) else (s, { status := 0x03 })

/-- LOOKUP (13 R294): the BVA of a tray's frame. -/
def State.lookupTray (b : Nat) (a0 a1 : Word) (s : State) : State × SesAns :=
  match sessArg a0 with
  | none => (s, { status := 0x04 })
  | some k =>
    if !s.ownSess b k then (s, { status := 0x03 })
    else
      match (if a1.toNat < 2 ^ 32 then (s.sess k).rack[a1.toNat]? else none) with
      | none => (s, { status := 0x04, sess := some k })
      | some f =>
        let tier := (tget none (s.store b).frames f).elim false Frame.tier
        (s, { ret := f * 65536 + b2n tier * 2 ^ 48, sess := some k })

/-! ### STEP (13 R289 to R291) -/

/-- The members of a batch of a berth, ascending. -/
def State.members (s : State) (b batch : Nat) : List Nat :=
  (s.sessOf b).filter fun k => (s.sess k).state == 2 && (s.sess k).batch == batch

/-- A leave: the session leaves the batch and its deferred join is cancelled; without KEEP a session of the berth is
closed (13 R290, R291).
(DEDUCED, log entry 34.) -/
def State.stepLeave (b batch k : Nat) (keep : Bool) (s : State) : State :=
  if !s.ownSess b k then s
  else if !keep then s.closeSess k
  else
    let x := s.sess k
    if x.state = 3 ∨ (x.state = 2 ∧ x.batch = batch) then
      (s.modStore b fun t => { t with deferred := t.deferred.filter fun d => d.2.1 != k }).setSess k { x with state := 1, batch := 0 }
    else s

/-- What a step has counted: joins served, joins deferred, members stalled. -/
structure StepSum where
  served : Nat := 0
  deferred : Nat := 0
  stalled : Nat := 0
  deriving DecidableEq, Repr

/-- A join is deferred (13 R290). -/
def State.deferJoin (b batch k tokens : Nat) (s : State) : State :=
  let off := 0xB01000 + b * 0x40 + 0x20
  ((s.modStore b fun t => { t with deferred := t.deferred ++ [(batch, k, tokens)] }).modSess k fun x =>
    { x with state := 3, batch := batch }).bump 0x20 off (fun s => (s.store b).deferCount)
      (fun n s => s.modStore b fun t => { t with deferCount := n })

/-- try_join of a session that breaks no rule (13 R290): its status. -/
def State.tryJoin (b batch k tokens : Nat) (s : State) : State × Nat :=
  if (s.members b batch).length = 512 then (s.deferJoin b batch k tokens, 0x08)
  else
    let r := s.extend k tokens
    if r.2 = 0 then (r.1.modSess k fun x => { x with state := 2, batch := batch }, 0)
    else if r.2 = 0x05 then (s, 0x05)
    else ((s.deferJoin b batch k tokens).raiseVector b 5, 0x07)

/-- A join entry of a descriptor: the rules first (13 R290, R291).
(DEDUCED, log entry 34.) -/
def State.stepJoin (b batch : Nat) (e : Nat) (s : State) : State × Nat :=
  let k := e % 4096
  let tokens := e / 2 ^ 32
  if tokens = 0 ∨ 4194304 < tokens then (s, 0x04)
  else if !s.ownSess b k then (s, 0x03)
  else if (s.sess k).state ≠ 1 then (s, 0x06)
  else if (s.sess k).maxTokens < (s.sess k).len + tokens then (s, 0x05)
  else s.tryJoin b batch k tokens

def StepSum.note (r : StepSum) (status : Nat) : StepSum :=
  if status = 0 then { r with served := r.served + 1 }
  else if status = 0x07 ∨ status = 0x08 then { r with deferred := r.deferred + 1 } else r

/-- One step of a batch (13 R290): the statuses of its own joins.
(DESIGN CHOICE, log entry 70.) -/
def State.stepRun (b batch advance : Nat) (leaves joins : List Nat) (s : State) : State × StepSum × List Nat :=
  let s := leaves.foldl (fun s e => s.stepLeave b batch (e % 4096) (e / 2 ^ 31 % 2 == 1)) s
  let r := (if advance = 0 then [] else s.members b batch).foldl (fun (r : State × StepSum) k =>
    let x := r.1.extend k advance
    if x.2 = 0 then (x.1, r.2)
    else (r.1.bump 0x20 (0xB01000 + b * 0x40 + 0x20) (fun s => (s.store b).stallCount)
        (fun n s => s.modStore b fun t => { t with stallCount := n }), { r.2 with stalled := r.2.stalled + 1 })) (s, {})
  let held := (r.1.store b).deferred.filter fun d => d.1 == batch
  let s := r.1.modStore b fun t => { t with deferred := t.deferred.filter fun d => d.1 != batch }
  let r := held.foldl (fun (r : State × StepSum) d =>
    let x := (r.1.modSess d.2.1 fun x => { x with state := 1, batch := 0 }).tryJoin b batch d.2.1 d.2.2
    (x.1, r.2.note x.2)) (s, r.2)
  joins.foldl (fun (r : State × StepSum × List Nat) e =>
    let x := r.1.stepJoin b batch e
    (x.1, r.2.1.note x.2, r.2.2 ++ [x.2])) (r.1, r.2, [])

/-- Where STEP ends: an answer, a fault of the issuing context with its cause and the places it met, or units of partners'
memory that it still needs. -/
inductive StepEnd where
  | ans (a : SesAns)
  | fault (cause : Nat) (at_ : List Loc)
  | ask (units : List (Nat × Nat))
  deriving DecidableEq, Repr

/-- Bytes of a berth's memory as the allocator reads them, or why it cannot (13 R289). -/
def State.berthRead (s : State) (got : List (Nat × List Byte)) (b bva n : Nat) : Except StepEnd (List Byte) :=
  let ls := (List.range n).map fun i => s.bvaLoc b .load (bva + i)
  let us := unitsMissing { got := got } 1 ls
  if locsCause .load ls != 0 then .error (.fault (locsCause .load ls) ls)
  else if us.isEmpty then .ok (ls.flatMap fun l => s.readLoc 0 { got := got } l 1)
  else .error (.ask us)

/-- A byte of a berth's memory is written by the device; one of a partner is sent. -/
def State.berthWrite (b bva : Nat) (v : Byte) (s : State) : State :=
  match s.bvaLoc b .store bva with
  | .remote p off =>
    if s.linkUp p then s.sendReq p { ctx := noCtx, core := coreSlots, msg := wrMsg off [v], waiter := .none } else s
  | l => s.deviceWrite noCtx l [v]

/-- The cause of a write of the allocator: nothing there, or a partner without a link. -/
def State.berthCause (s : State) (b bva : Nat) : Nat :=
  match s.bvaLoc b .store bva with
  | .remote p _ => if s.linkUp p then 0 else 0x06
  | l => l.cause .store

/-- STEP (13 R289, R290): the descriptor is read, one step is performed and the join statuses are written. Reserved fields are
ignored (00 R4). -/
def State.stepCmd (b : Nat) (q : SesCmd) (cont : Bool) (s : State) : State × StepEnd :=
  let d := q.arg0.toNat
  let s := s.settleAll
  if d % 8 ≠ 0 then (s, .ans { status := 0x04 })
  else match s.berthRead q.got b d 8 with
    | .error e => (s, e)
    | .ok h =>
      let batch := bf h 0 1
      let l := bf h 2 2
      let j := bf h 4 2
      if 7 < batch ∨ 512 < l ∨ 512 < j then (s, .ans { status := 0x04 })
      else match s.berthRead q.got b (d + 8) (4 * l + 8 * j) with
        | .error e => (s, e)
        | .ok body =>
          let leaves := (List.range l).map fun i => bf body (4 * i) 4
          let joins := (List.range j).map fun i => bf body (4 * l + 8 * i) 8
          let r := s.stepRun b batch (bf h 1 1) leaves joins
          let at_ (i : Nat) := d + 8 + 4 * l + 8 * i + 2
          let s := (r.2.2.zipIdx).foldl (fun s p => s.berthWrite b (at_ p.2) (BitVec.ofNat 8 p.1)) r.1
          if (List.range j).any fun i => match s.bvaLoc b .store (at_ i) with
              | .remote _ _ => s.berthCause b (at_ i) != 0 && !cont
              | _ => s.berthCause b (at_ i) != 0
          then (s, .fault 0x06 [])
          else (s, .ans { ret := r.2.1.served + r.2.1.deferred % 1024 * 2 ^ 10 + r.2.1.stalled * 2 ^ 20 +
                          (s.members b batch).length * 2 ^ 30 })

/-! ### The allocator's intake and the session control window (13 R293, R295) -/

/-- A command reaches the allocator's intake, or ends at once where its code names none (R294: a field outside its
values). -/
def State.sesStart (c : CoreAt) (x : Ctx) (v : Word) (s : State) : State :=
  match s.groupAt c with
  | none => s
  | some g =>
    if 1 ≤ v.toNat ∧ v.toNat ≤ 7 then
      (s.modStore x.berth fun t =>
        { t with taken := t.taken + 1,
                 intake := t.intake ++ [{ who := s.idAt c, code := v.toNat, arg0 := g.win.arg0, arg1 := g.win.arg1, num := t.taken }] }).modGroup
        c fun g => { g with win := { g.win with sesRun := true } }
    else s.modGroup c fun g => { g with win := { g.win with sesResult := 0x04, sesRet := 0 } }

/-- A group's command has ended: its result words, and a load of them goes on. A held SES_CMD goes to the intake by
`again` (13 R293). -/
def Group.sesEnd (r ret : Word) (g : Group) : Group :=
  let g := { g with win := { g.win with sesRun := false, sesResult := r, sesRet := ret } }
  match g.hold with
  | some (.sesLoad isRet rd) => (g.setS rd (if isRet then ret else r)).goOn
  | _ => g

/-- The places of a context's groups on its cores. -/
def State.placesOf (s : State) (k : Nat) : List CoreAt :=
  ((tkeys s.cores).filter fun i => (s.core i).ctx == some k).flatMap fun i =>
    (List.range 32).map fun g => { core := i, grp := g }

/-- The place of a group that runs on a core, by who it is. -/
def State.placeOf (s : State) (id : GroupId) : Option CoreAt :=
  (s.placesOf id.ctx).find? fun c => (s.groupAt c).isSome && s.idAt c == id

/-- A SES_CMD held behind the group's previous command starts (13 R293). -/
def State.sesHeld (c : CoreAt) (s : State) : State :=
  match s.heldGroup c with
  | some (_, x, g, .sesCmd v) =>
    if g.win.sesRun then s
    else ((s.sesStart c x v).modGroup c Group.goOn).commitPoint c.core
  | _ => s

/-- The head of a berth's intake is changed. -/
def State.modHead (b : Nat) (f : SesCmd → SesCmd) (s : State) : State :=
  s.modStore b fun t => { t with intake := t.intake.modify 0 f }

/-- The issuing context of a command lets crossing faults pass (21 R462). -/
def State.stepContinues (s : State) (q : SesCmd) : Bool := (s.ctx q.who.ctx).elim false fun x => s.crossContinues x

/-- The command at the head of a berth's intake has left it without an answer: its context faults (13 R289, 01 R30). -/
def State.stepFault (q : SesCmd) (cause : Nat) (ls : List Loc) (s : State) : State :=
  let s := s.countLostReads ls
  match s.placeOf q.who with
  | some c => s.coreFault c cause
  | none => s.tearDown q.who.ctx 7 cause

/-- A STEP that needs units of partners' memory: they are asked for and the command stays at the head; without a link it is a
crossing fault, or zeros (15 R331, 21 R462). -/
def State.askStep (b : Nat) (q : SesCmd) (us : List (Nat × Nat)) (s : State) : State :=
  let down := us.filter fun u => !s.linkUp u.1
  match down.head? with
  | none =>
    us.foldl (fun s u => s.sendReq u.1 { ctx := noCtx, core := coreSlots, msg := { op := 0x01, addr := u.2 * 64, size := 0 }, waiter := .step b q.num })
      (s.modHead b fun q => { q with open_ := q.open_ + us.length })
  | some u =>
    if s.stepContinues q then (s.noteCrossFault q.who.ctx u.1).modHead b fun q => { q with got := q.got ++ zeroUnits down }
    else (s.modStore b fun t => { t with intake := t.intake.drop 1 }).stepFault q 0x06 []

/-- What a command does, with the head taken from the intake. -/
def State.sesServe (b : Nat) (q : SesCmd) (s : State) : State × StepEnd :=
  let ans (r : State × SesAns) : State × StepEnd := (r.1, .ans r.2)
  match q.code with
  | 1 => ans (s.storeAdd b q.arg0 q.arg1)
  | 2 => ans (s.storeRemove b q.arg0 q.arg1)
  | 3 => ans (s.setPolicy b q.arg0)
  | 4 => ans (s.openSess b q.arg0)
  | 5 => ans (s.closeCmd b q.arg0)
  | 6 => s.stepCmd b q (s.stepContinues q)
  | _ => ans (s.lookupTray b q.arg0 q.arg1)

/-- The head of a berth's intake is served if its code is `code` (13 R295). Its result is discarded where its context
is gone (R296). -/
def State.serveSes (b code : Nat) (s : State) : State :=
  match (s.store b).intake with
  | [] => s
  | q :: rest =>
    if !s.running || q.code ≠ code || 0 < q.open_ then s
    else
      let r := (s.modStore b fun t => { t with intake := rest }).sesServe b q
      match r.2 with
      | .ask us => s.askStep b q us
      | .fault cause ls => r.1.stepFault q cause ls
      | .ans a =>
        let s := r.1.modById q.who (Group.sesEnd (r.1.sesWord b a) (BitVec.ofNat 64 a.ret))
        match s.placeOf q.who with
        | some c => s.sesHeld c
        | none => s

/-- A unit of a partner's memory reaches a STEP that waits for it (13 R289). -/
def State.stepGot (b n p unit : Nat) (data : List Byte) (s : State) : State :=
  s.modHead b fun q => if q.num = n then { q with open_ := q.open_ - 1, got := q.got ++ [(p * apSize / 64 + unit, data)] } else q
/-- A STEP's read of a partner's memory has failed: its context faults, and the command ends (13 R289). -/
def State.stepLost (b n : Nat) (s : State) : State :=
  match (s.store b).intake with
  | [] => s
  | q :: rest => if q.num = n then (s.modStore b fun t => { t with intake := rest }).stepFault q 0x06 [] else s

/-- STORE_ADD (13 R283). -/
def execStoreAdd (berth : Nat) (s : State) : Host.Outcome State Fault Refusal := .next (s.serveSes berth 1)
/-- STORE_REMOVE (13 R283). -/
def execStoreRemove (berth : Nat) (s : State) : Host.Outcome State Fault Refusal := .next (s.serveSes berth 2)
/-- POLICY (13 R288). -/
def execPolicy (berth : Nat) (s : State) : Host.Outcome State Fault Refusal := .next (s.serveSes berth 3)
/-- OPEN (13 R281). -/
def execOpenSession (berth : Nat) (s : State) : Host.Outcome State Fault Refusal := .next (s.serveSes berth 4)
/-- CLOSE (13 R287). -/
def execCloseSession (berth : Nat) (s : State) : Host.Outcome State Fault Refusal := .next (s.serveSes berth 5)
/-- STEP (13 R290). -/
def execStepBatch (berth : Nat) (s : State) : Host.Outcome State Fault Refusal := .next (s.serveSes berth 6)
/-- LOOKUP (13 R294). -/
def execLookup (berth : Nat) (s : State) : Host.Outcome State Fault Refusal := .next (s.serveSes berth 7)

/-- A store to a word of the session control window (13 R293). -/
def State.sesStore (c : CoreAt) (x : Ctx) (off : Nat) (v : Word) (s : State) : State :=
  let go (f : Windows → Windows) := s.modGroup c fun g => ({ g with win := f g.win }).advance
  match off with
  | 0x00 => go fun w => { w with arg0 := v }
  | 0x08 => go fun w => { w with arg1 := v }
  | 0x10 =>
    (if (s.groupAt c).elim false fun g => g.win.sesRun then s.modGroup c fun g => { g with hold := some (.sesCmd v) }
     else (s.sesStart c x v).modGroup c Group.advance).commitPoint c.core
  | _ => go id

/-- A load of SES_RESULT or SES_RET: held until the group's command ends (13 R293). -/
def State.sesLoad (c : CoreAt) (ret : Bool) (rd : Nat) (s : State) : State :=
  s.modGroup c fun g =>
    if g.win.sesRun then { g with hold := some (.sesLoad ret rd) }
    else (g.setS rd (if ret then g.win.sesRet else g.win.sesResult)).advance

/-- A STEP that waits for partners has its bytes at once: what has not come is free (13 R297).
(DESIGN CHOICE, log entry 5.) -/
def State.hurryStep (b : Nat) (s : State) : State :=
  match (s.store b).intake with
  | [] => s
  | q :: _ =>
    match (s.stepCmd b q true).2 with
    | .ask us =>
      ({ s with free := s.free + 1 } : State).modHead b fun q =>
        { q with open_ := 0, got := q.got ++ us.map fun u =>
            (u.1 * apSize / 64 + u.2, (List.range 64).map fun i => Config.freeByte s.free ((u.1 * apSize / 64 + u.2) * 64 + i)) }
    | _ => s.modHead b fun q => { q with open_ := 0 }
/-- Commands in a berth's intake complete (13 R297): a STEP reads twice at most. -/
def State.sesDrainGo : Nat → Nat → State → State
  | 0, _, s => s
  | n + 1, b, s =>
    match (s.store b).intake with
    | [] => s
    | q :: _ => ((if q.code = 6 then (s.hurryStep b).hurryStep b else s).serveSes b q.code).sesDrainGo n b
/-- A berth reset (13 R297): commands in the intake complete first; then the sessions are held or released. -/
def State.sesReset (b : Nat) (s : State) : State :=
  let s := s.sesDrainGo (s.store b).intake.length b
  if (s.berth b).grant.policyRelease then (s.sessOf b).foldl (fun s k => s.closeSess k) s
  else
    let s := s.modStore b fun t => { t with deferred := [] }
    (s.sessOf b).foldl (fun s k => s.modSess k fun x => if x.state = 3 then { x with state := 1, batch := 0 } else x) s

/-- DESTROY closes every session, releases the reservations and empties the store (13 R297). -/
def State.sesDestroy (b : Nat) (s : State) : State :=
  let s := s.sesDrainGo (s.store b).intake.length b
  let s := (s.sessOf b).foldl (fun s k => s.closeSess k) s
  { s with stores := tset {} s.stores b {} }

end Sys2Proof.Machine
end

