-- ==== Sys2Proof/Machine/Berths.lean ====
section
/-! DEFINITION. Berth commands and transitions (03 R63 to R80; 10 R275 of the capacity tier; 13 R285, R297; 15 R336; 19
R410). -/

namespace Sys2Proof.Machine

open Sys2Proof

/-! ### The command block (03 R79, R80) -/

/-- A result is posted: RESULT, CMD_DONE, a message interrupt to firmware, and the answer to a mailbox request that the
command serves (03 R78, R79; 21 R467). -/
def State.postBerth (b result : Nat) (viaMbx : Bool) (s : State) : State :=
  let s := ({ s with bth := { s.bth with done := true, result := result, resultBerth := b } } : State).fwMsi
  if viaMbx then s.answerWait .berth result (bytesOf 1 b) else s

/-- The running command ends with a result. -/
def State.endBerth (b result : Nat) (s : State) : State :=
  let v := s.bth.viaMbx
  ({ s with bth := { s.bth with running := none, viaMbx := false } } : State).postBerth b result v

/-! ### CREATE (03 R63, R80; 12 R275) -/

/-- The grant that ARG0 to ARG5 spell (03 R80). -/
def grantOf (a : List Word) : Grant :=
  let w (i : Nat) := a.getD i 0
  { pool := fld 8 4 (w 0), policyRelease := bitAt 12 (w 0), assured := fld 0 12 (w 1), stdWeight := fld 12 8 (w 1),
    bulkWeight := fld 20 8 (w 1), pinWays := fld 28 4 (w 1), hbmMib := fld 0 24 (w 2), lpxMib := fld 24 24 (w 2),
    sessions := fld 0 13 (w 3), contexts := fld 16 11 (w 3), egressWeight := fld 32 8 (w 3), ports := w 4,
    timeout := fld 0 17 (w 5) }

/-- The grant fields of ARG0 to ARG5, as words (03 R80). -/
def Grant.word (g : Grant) : Nat → Nat
  | 0 => g.pool * 256 + b2n g.policyRelease * 4096
  | 1 => g.assured + g.stdWeight * 4096 + g.bulkWeight * 1048576 + g.pinWays * 268435456
  | 2 => g.hbmMib + g.lpxMib * 16777216
  | 3 => g.sessions + g.contexts * 65536 + g.egressWeight * 4294967296
  | 4 => g.ports.toNat
  | _ => g.timeout

/-- No bit outside the grant fields is set (03 R63). -/
def grantClean (a : List Word) : Bool := (List.range 6).all fun i => (a.getD i 0).toNat == (grantOf a).word i

/-- The grant lies within "Berth grant" but for the pool limits (03 R63). -/
def Grant.ranged (g : Grant) : Bool :=
  decide (g.assured ≤ 1536) && decide (1 ≤ g.stdWeight) && decide (1 ≤ g.bulkWeight) && g.hbmMib % 2 == 0 && g.lpxMib % 2 == 0 &&
  decide (g.pinWays ≤ 12) && decide (1 ≤ g.egressWeight) && decide (g.sessions ≤ 4096) && decide (1 ≤ g.contexts) &&
  decide (g.contexts ≤ 1024) && decide (10 ≤ g.timeout) && decide (g.timeout ≤ 100000)

/-- The grant keeps its pool's limits (03 R63) and the tier's (12 R275). -/
def State.grantFits (s : State) (g : Grant) (p : List Byte) : Bool :=
  let q := g.pool
  let lpxSum := (below 256 fun b => (s.berth b).state != 0 && decide (0 < (s.berth b).grant.lpxMib)).foldl
    (fun n b => n + (s.berth b).grant.assured) 0
  decide (s.poolSum q Grant.assured + g.assured ≤ assuredLimit (poolClusters p).length) &&
  decide (s.poolSum q Grant.hbmMib + g.hbmMib ≤ poolHbmGib p * 1024) &&
  decide (s.poolSum q Grant.lpxMib + g.lpxMib ≤ poolLpxGib p * 1024) && decide (g.pinWays ≤ poolPinWays p) &&
  decide (s.poolSum q Grant.sessions + g.sessions ≤ poolSessions p) &&
  decide (s.poolSum q Grant.contexts + g.contexts ≤ poolContexts p) &&
  (g.lpxMib == 0 || g.assured == 0 || decide (lpxSum + g.assured ≤ 96 * s.lpxCount))

/-- The next CREATE_COUNT (19 R410): values are reserved in blocks of 256 before use.
(DEDUCED, log entry 43.) -/
def State.takeCount (s : State) : Nat × State :=
  let n := s.sec.createNext + 1
  (n, { s with sec := { s.sec with createNext := n, createTop := if s.sec.createTop ≤ s.sec.createNext then s.sec.createTop + 256 else s.sec.createTop } })

/-- CREATE: the result and the berth taken, 0 where none is (03 R63; 20 R441).
(DESIGN CHOICE, log entry 74.)
(DEDUCED, log entry 43.) -/
def State.create (a : List Word) (s : State) : State × Nat × Nat :=
  let g := grantOf a
  match firstBelow 256 fun b => (s.berth b).state == 0 with
  | none => (s, 0, if s.engaged || s.lifecycle == 0 || s.mft.running.isNone then 0x03 else 0x01)
  | some b =>
    if s.engaged || s.lifecycle == 0 || s.mft.running.isNone then (s, 0, 0x03)
    else
      match s.poolRec g.pool with
      | none => (s, 0, 0x04)
      | some p =>
        if poolMaxBerths p ≤ (s.poolBerths g.pool).length then (s, 0, 0x01)
        else if !(grantClean a && g.ranged && s.grantFits g p) then (s, 0, 0x04)
        else
          let c := s.takeCount
          (((c.2.loadKey b).setBerth b { grant := g, createCount := c.1 }).berthState b 1, b, 0)

/-! ### Disabling (03 R66 to R70) -/

/-- A stopping cause meets every order and context of a berth: WITHDRAWN, and the contexts are torn down (03 R68).
(DESIGN CHOICE, log entry 44.) -/
def State.withdrawAll (b : Nat) (s : State) : State :=
  let s := (s.ctxsOf b).foldl (fun s k => s.tearDown k 6 0) s
  (s.ordersOf b).foldl (State.stopOrder 6) s

/-- ENABLE (03 R65): admission opens; the heartbeat clock runs from this tick (03 R71). -/
def State.enable (b : Nat) (s : State) : State × Nat :=
  let y := s.berth b
  if (y.state = 1 ∨ y.state = 6) ∧ s.mft.running.isSome then
    (((s.setBerth b { y with admitHold := false, disableRec := false, refTick := s.tick, horizon := 0, drainEnd := none }).berthState b 2).gate b, 0)
  else (s, 0x03)

/-- The contexts of a berth that have no bound order are released (04 R85). -/
def State.releaseIdle (b : Nat) (s : State) : State :=
  (s.ctxsOf b).foldl (fun s k => if (s.boundTo k).isEmpty && !s.stops k then s.releaseCtx k else s) s

/-- DISABLE_DRAIN (03 R65, R66).
(DEDUCED, log entry 41.)
(DEDUCED, log entry 49.) -/
def State.disableDrain (b limit : Nat) (s : State) : State × Nat :=
  let y := s.berth b
  if y.state = 2 then
    (((((s.setBerth b { y with drainEnd := if limit = 0 then none else some (s.tick + limit * 1000) }).berthState
      b 3).gate b).raiseVector b 2).releaseIdle b, 0)
  else (s, 0x03)

/-- DISABLE_WITHDRAW (03 R65, R68, R70).
(DEDUCED, log entry 41.)
(DEDUCED, log entry 49.) -/
def State.disableWithdraw (b : Nat) (s : State) : State × Nat :=
  let y := s.berth b
  match y.state with
  | 2 => ((((s.berthState b 4).gate b).raiseVector b 2).withdrawAll b, 0)
  | 3 => ((s.berthState b 4).withdrawAll b, 0)
  | 5 => (if y.disableRec then s else (s.setBerth b { y with disableRec := true }).raiseVector b 2, 0)
  | _ => (s, 0x03)

/-! ### DESTROY (03 R77; 15 R336; 19 R423) -/

/-- The transport sessions of a berth are closed, and messages that waited for one are gone (16 R355, R356). -/
def State.dropConns (b : Nat) (s : State) : State :=
  let s := (s.connsOf b).foldl (fun s n => (s.sendPlain n { ty := 0x03 }).setConn n none) s
  { s with outbox := tset [] s.outbox b [] }

/-- An export entry's value names a berth. -/
def exportNames (b : Nat) (w : Word) : Bool := bitAt 0 w && fld 8 8 w == b
/-- The export entries of a berth on every port are made invalid: one that a request uses as that request completes; writes that
wait and name the berth make their entries invalid (15 R336). -/
def State.dropExports (b : Nat) (s : State) : State :=
  (tkeys s.ports).foldl (fun s p => s.modPort p fun x =>
    let due := (x.exports.filter fun e => exportNames b e.2 && x.entryBusy e.1).map fun e => (e.1, (0 : Word))
    { x with exports := x.exports.filter fun e => !exportNames b e.2 || x.entryBusy e.1,
             exportWait := (x.exportWait.map fun w => if exportNames b w.2 then (w.1, 0) else w) ++ due }) s

/-- DESTROY begins (03 R65, R77); its result is posted when it completes.
(DEDUCED, log entry 40.) -/
def State.destroy (b : Nat) (s : State) : State × Nat :=
  let y := s.berth b
  if y.state = 1 ∨ y.state = 6 then (((s.berthState b 7).dropConns b).dropExports b, 0) else (s, 0x03)

/-! ### The map (03 R74, R75) -/

/-- Units of 64 KiB of a berth's pages that lie in a DPA range and are not retired (17 R361). -/
def State.mappedUnits (s : State) (b lo hi : Nat) : Nat :=
  (s.berth b).pages.foldl (fun n p =>
    if lo ≤ p.2.dpa ∧ p.2.dpa < hi then
      n + pageBytes p.2.big / 65536 - (s.retired.filter fun u => meets p.2.dpa (pageBytes p.2.big) (u * 65536) 65536).length
    else n) 0

/-- A DPA range may be mapped for a berth: stacked memory or populated tier with nothing retired, or apertures of its
crossing ports (03 R74). -/
def State.dpaMappable (s : State) (b d n : Nat) : Bool :=
  let ports := (s.berth b).grant.ports
  !(s.retired.any fun u => meets d n (u * 65536) 65536) &&
  (decide (d + n ≤ s.stackTop) || (decide (lpxBase ≤ d) && decide (d + n ≤ s.lpxTop)) ||
   (decide (apBase ≤ d) && decide (d + n ≤ apBase + 64 * apSize) &&
    (below 64 fun p => meets d n (apBase + p * apSize) apSize).all fun p => bitAt p ports && (s.port p).mode == 1))

/-- The allotments hold the pages to be mapped (03 R74). -/
def State.mapFits (s : State) (b d n : Nat) : Bool :=
  let g := (s.berth b).grant
  if d < stackEnd then decide (s.mappedUnits b 0 stackEnd * 65536 + n ≤ g.hbmMib * 1048576)
  else if d < apBase then decide (s.mappedUnits b lpxBase apBase * 65536 + n ≤ g.lpxMib * 1048576) else true

/-- A DPA range reads zero, in the caches and in memory; its lines are invalid (03 R75, 12 R277). -/
def State.zeroRange (d n : Nat) (s : State) : State :=
  let out (a : Nat) := !(decide (d ≤ a) && decide (a < d + n))
  let s := s.dropCopiesOf fun ln => !out (ln * 128)
  ({ s with mem := s.mem.filter fun p => out p.1, backing := s.backing.filter fun p => out p.1,
            lines := s.lines.filter fun p => out (p.1 * 128) } : State).shown noCtx (.mem d) n

/-- The values that MAP_WRITE and MAP_CLEAR both check (03 R74). -/
def mapArgsOk (a0 a2 : Word) (big : Bool) : Bool :=
  decide (a0.toNat < 2 ^ 48) && decide (1 ≤ a2.toNat) && decide (a2.toNat ≤ 65536) && a0.toNat % pageBytes big == 0 &&
  decide (a0.toNat + a2.toNat * pageBytes big ≤ 2 ^ 48)

/-- MAP_WRITE (03 R74, R75; 12 R277). Of MAP_CONFLICT and MAP_RANGE the former is answered where both apply.
(DESIGN CHOICE, log entry 74.) -/
def State.mapWrite (b : Nat) (a0 a1 a2 : Word) (s : State) : State × Nat :=
  let y := s.berth b
  let big := bitAt 0 a1
  let d := fld 16 32 a1 * 65536
  let n := a2.toNat * pageBytes big
  if y.state ≠ 1 ∧ y.state ≠ 2 ∧ y.state ≠ 6 then (s, 0x03)
  else if !(mapArgsOk a0 a2 big) || fld 4 12 a1 != 0 || fld 48 16 a1 != 0 || d % pageBytes big != 0 || decide (2 ^ 48 < d + n) then (s, 0x08)
  else if decide (d < s.stewardTop) || ((tkeys s.berths).any fun o => (s.berth o).pages.any fun p => meets d n p.2.dpa (pageBytes p.2.big)) ||
      (y.pages.any fun p => meets a0.toNat n (p.1 * 65536) (pageBytes p.2.big)) then (s, 0x06)
  else if !(s.dpaMappable b d n && s.mapFits b d n) then (s, 0x07)
  else
    let s := if lpxBase ≤ d ∧ d < apBase then s.zeroRange d n else s
    (s.modBerth b fun y => { y with map := (List.range a2.toNat).foldl (fun m i =>
      tset none m ((a0.toNat + i * pageBytes big) / 65536)
        (some { dpa := d + i * pageBytes big, big := big, w := bitAt 1 a1, x := bitAt 2 a1, inp := bitAt 3 a1 })) y.map }, 0)

/-- A page of stacked memory or of the tier is written to zero when it is cleared; aperture pages are only unmapped. -/
def State.clearPage (p : Page) (s : State) : State := if p.dpa < apBase then s.zeroRange p.dpa (pageBytes p.big) else s

/-- MAP_CLEAR (03 R75; 13 R285). -/
def State.mapClear (b : Nat) (a0 a1 a2 : Word) (s : State) : State × Nat :=
  let y := s.berth b
  let big := bitAt 0 a1
  let n := a2.toNat * pageBytes big
  let inside (u : Nat) := decide (a0.toNat ≤ u * 65536) && decide (u * 65536 < a0.toNat + n)
  if y.state = 0 ∨ y.state = 7 ∨ !(s.ctxsOf b).isEmpty then (s, 0x03)
  else if !(mapArgsOk a0 a2 big) || fld 1 63 a1 != 0 then (s, 0x08)
  else
    let ps := y.pages.filter fun p => inside p.1 && p.2.big == big
    if ps.length ≠ a2.toNat then (s, 0x08)
    else
      let fs := (s.store b).framesBy fun _ => true
      let gone := fs.filter inside
      let hbm := gone.filter fun f => tget none (s.store b).frames f == some { tier := false, used := false }
      if (gone.any fun f => (tget none (s.store b).frames f).elim false Frame.used) || decide (s.freeFrames b < hbm.length) then (s, 0x03)
      else
        let s := ps.foldl (fun s p => s.clearPage p.2) s
        let s := if gone.isEmpty then s else s.modStore b fun t => { t with frames := t.frames.filter fun f => !inside f.1 }
        (s.modBerth b fun y => { y with map := y.map.filter fun p => !inside p.1 }, 0)

/-! ### Running a command (03 R79) -/

/-- The pool whose berths a command creates or enables, if it does (02 R59). -/
def State.cmdPool (s : State) (c : BerthCmd) : Option Nat :=
  if c.op = 1 then some (grantOf c.args).pool else if c.op = 2 then some (s.poolOf c.berth) else none

/-- A command is carried out: the state, the berth it names and its result; none while DESTROY runs. -/
def State.doBerth (c : BerthCmd) (s : State) : State × Nat × Option Nat :=
  let one (r : State × Nat) : State × Nat × Option Nat := (r.1, c.berth, some r.2)
  let arg (i : Nat) := c.args.getD i 0
  match c.op with
  | 1 => let r := s.create c.args; (r.1, r.2.1, some r.2.2)
  | 2 => one (s.enable c.berth)
  | 3 => one (s.disableDrain c.berth (fld 0 32 (arg 0)))
  | 4 => one (s.disableWithdraw c.berth)
  | 5 => let r := s.destroy c.berth; (r.1, c.berth, if r.2 = 0 then none else some r.2)
  | 6 => one (s.mapWrite c.berth (arg 0) (arg 1) (arg 2))
  | 7 => one (s.mapClear c.berth (arg 0) (arg 1) (arg 2))
  | _ => (s, c.berth, some 0x02)

/-- A command that is running is carried out, and its result is posted. -/
def State.runBerth (c : BerthCmd) (s : State) : State :=
  let r := s.doBerth c
  match r.2.2 with
  | some code => r.1.endBerth r.2.1 code
  | none => r.1

/-- A command is written to BTH_CMD: BUSY while one runs; held while a live Manifest candidate changes its pool; else
carried out (03 R79, 02 R59). -/
def State.berthCmd (c : BerthCmd) (viaMbx : Bool) (s : State) : State :=
  if s.bth.running.isSome then s.postBerth c.berth 0x05 viaMbx
  else
    let s : State := { s with bth := { s.bth with running := some c, viaMbx := viaMbx } }
    if (s.cmdPool c).elim false s.poolHeld then s else s.runBerth c

/-- The first BTH_ARG registers are written. -/
def putArgs (args : List Word) (t : Tbl Word) : Tbl Word := args.zipIdx.foldl (fun t p => tset 0 t p.2 p.1) t

/-- Firmware writes the arguments that the command has, and BTH_CMD. -/
def State.fwBerth (op b : Nat) (args : List Word) (s : State) : State :=
  if s.fwActs ∧ b < 256 then
    let args := putArgs args s.bth.args
    ({ s with bth := { s.bth with args := args } } : State).berthCmd { op := op, berth := b, args := (List.range 6).map (tget 0 args) } false
  else s

/-- CREATE (03 R63, R65). -/
def execCreate (args : List Word) (s : State) : Host.Outcome State Fault Refusal := .next (s.fwBerth 1 0 args)
/-- ENABLE (03 R65). -/
def execEnable (berth : Nat) (s : State) : Host.Outcome State Fault Refusal := .next (s.fwBerth 2 berth [])
/-- DISABLE_DRAIN (03 R66, R67). -/
def execDisableDrain (berth : Nat) (limit : Word) (s : State) : Host.Outcome State Fault Refusal :=
  .next (s.fwBerth 3 berth [limit])
/-- DISABLE_WITHDRAW (03 R68, R70). -/
def execDisableWithdraw (berth : Nat) (s : State) : Host.Outcome State Fault Refusal := .next (s.fwBerth 4 berth [])
/-- DESTROY (03 R77). -/
def execDestroy (berth : Nat) (s : State) : Host.Outcome State Fault Refusal := .next (s.fwBerth 5 berth [])
/-- MAP_WRITE (03 R74). -/
def execMapWrite (berth : Nat) (arg0 arg1 arg2 : Word) (s : State) : Host.Outcome State Fault Refusal :=
  .next (s.fwBerth 6 berth [arg0, arg1, arg2])
/-- MAP_CLEAR (03 R75). -/
def execMapClear (berth : Nat) (arg0 arg1 arg2 : Word) (s : State) : Host.Outcome State Fault Refusal :=
  .next (s.fwBerth 7 berth [arg0, arg1, arg2])
/-- An OP of 0 or of 0x8 to 0xF fails with BAD_OP (03 R79). -/
def execBerthBadOp (op berth : Nat) (s : State) : Host.Outcome State Fault Refusal :=
  .next (if op = 0 ∨ (8 ≤ op ∧ op < 16) then s.fwBerth op berth [] else s)

/-- HELD_COMMAND_RELEASE (02 R59): once the live submission's result stands, the held command is carried out. -/
def execHeldCommandRelease (s : State) : Host.Outcome State Fault Refusal :=
  .next (match s.bth.running with
    | some c => if c.op ≠ 5 ∧ s.mft.phase = .idle ∧ s.fwActs then s.runBerth c else s
    | none => s)

/-! ### Transitions that no command makes (03 R65) -/

/-- Headers that arrived before admission closed are still to be decided (03 R66). -/
def State.headersDue (s : State) (b : Nat) : Bool :=
  (s.prf.queue ++ s.prf.onWay).any fun h => h.berth == b && s.admits b h.arrival

/-- Nothing of a berth is in flight: no order without a final answer, no context, no header to decide. -/
def State.settled (s : State) (b : Nat) : Bool := (s.ordersOf b).isEmpty && (s.ctxsOf b).isEmpty && !s.headersDue b

/-- The berth reaches DISABLED (03 R65, vector 3). -/
def State.reachDisabled (b : Nat) (s : State) : State :=
  ((s.modBerth b fun y => { y with drainEnd := none, disableRec := false, admitHold := false }).berthState b 6).raiseVector b 3

/-- DRAIN_COMPLETE (03 R65).
(DESIGN CHOICE, log entry 2.) -/
def execDrainComplete (berth : Nat) (s : State) : Host.Outcome State Fault Refusal :=
  .next (if s.running ∧ (s.berth berth).state = 3 ∧ s.settled berth then s.reachDisabled berth else s)

/-- DRAIN_LIMIT_EXPIRY (03 R67): the berth moves to WITHDRAWING, unless DRAIN_COMPLETE is due at this tick.
(DEDUCED, log entry 41.) -/
def execDrainLimitExpiry (berth : Nat) (s : State) : Host.Outcome State Fault Refusal :=
  .next (if s.running ∧ (s.berth berth).state = 3 ∧ (s.berth berth).drainEnd.elim false (fun e => decide (e ≤ s.tick)) ∧
      !s.settled berth then (s.berthState berth 4).withdrawAll berth else s)

/-- WITHDRAW_COMPLETE (03 R65, R69). -/
def execWithdrawComplete (berth : Nat) (s : State) : Host.Outcome State Fault Refusal :=
  .next (if s.running ∧ (s.berth berth).state = 4 ∧ s.settled berth then s.reachDisabled berth else s)

/-- The pending reductions of a berth's lines are performed (03 R71 step 4, 10 R240). -/
def State.settleReductions (b : Nat) (s : State) : State :=
  (tkeys s.lines).foldl (fun s ln =>
    if (s.berth b).pages.any fun p => meets (ln * 128) 128 p.2.dpa (pageBytes p.2.big) then s.performPend ln else s) s

/-- HEARTBEAT_TIMEOUT (03 R71): at t − L > TIMEOUT × 1,000 the berth is reset; the timeout and the change of state are one
message interrupt to firmware.
(DESIGN CHOICE, log entry 74.) -/
def execHeartbeatTimeout (berth : Nat) (s : State) : Host.Outcome State Fault Refusal :=
  let y := s.berth berth
  .next (if s.running ∧ (y.state = 2 ∨ y.state = 3 ∨ y.state = 4) ∧ y.grant.timeout * 1000 < s.tick - y.refTick then
      let s := s.setBerth berth { y with
        disableRec := decide (y.state ≠ 2), hbSinceReset := false }
      (((((s.berthState berth 5).gate berth).withdrawAll berth).settleReductions berth).sesReset berth).raiseVector berth 1
    else s)

/-- BERTH_RESET_COMPLETE (03 R65, R71, R72). -/
def execBerthResetComplete (berth : Nat) (s : State) : Host.Outcome State Fault Refusal :=
  .next (if s.running ∧ (s.berth berth).state = 5 ∧ s.settled berth then
      (if (s.berth berth).disableRec then s.reachDisabled berth
       else
        ((s.modBerth berth fun y => { y with
          admitHold := !y.hbSinceReset, refTick := max y.lastHb s.tick, drainEnd := none }).berthState berth 2).gate berth)
    else s)

/-- The pins of a berth are released (03 R77). -/
def State.dropPins (b : Nat) (s : State) : State :=
  (tkeys s.lines).foldl (fun s ln => s.modLine ln fun x => if x.pin = some b then { x with pin := none } else x) s

/-- DESTROY_COMPLETE (03 R77, 13 R297, 19 R423): sessions, pins and pages are released, the keys are zeroised, the berth is
FREE with its per-berth registers cleared (04 R106), and the result of DESTROY is posted.
(DEDUCED, log entry 40.) -/
def execDestroyComplete (berth : Nat) (s : State) : Host.Outcome State Fault Refusal :=
  .next (if s.running ∧ (s.berth berth).state = 7 then
      let s := (s.sesDestroy berth).dropPins berth
      let s := (s.berth berth).pages.foldl (fun s p => s.clearPage p.2) s
      let s := ((s.dropKey berth).setBerth berth {}).berthState berth 0
      match s.bth.running with
      | some c => if c.op = 5 ∧ c.berth = berth then s.endBerth berth 0 else s
      | none => s
    else s)

end Sys2Proof.Machine
end

