-- ==== Sys2Proof/Machine/Blocks.lean ====
section
/-! DEFINITION. Blocks of a context: placing, residency, barriers, and the end of groups, blocks and runs (05 R111 to
R120; 06 R158 to R160; 16 R352). -/

namespace Sys2Proof.Machine

/-- A program of a berth. -/
def State.program (s : State) (b p : Nat) : Option Program := tget none (s.berth b).programs p
/-- The program of a context. -/
def State.progOf (_ : State) (x : Ctx) : Option Program := x.prog

/-- A send of result bytes is handed to the I/O engine; OFFSET counts from the start of the order's stream (16 R351,
R352). -/
def State.handSend (o : Nat) (who : Option GroupId) (base len : Nat) (last : Bool) (s : State) : State :=
  match s.order o with
  | none => s
  | some x =>
    let d : Send := { num := s.nextDesc, order := o, who := who, base := base, len := len, off := x.offset, last := last }
    let s : State := { s with sends := s.sends ++ [d], nextDesc := s.nextDesc + 1 }
    s.modOrder o fun x => { x with offset := x.offset + len, lastMade := x.lastMade || last }

/-- The run of an order ends when every block of every launch entry has ended; without a last send by then, the device
makes an empty one (06 R160). -/
def State.checkRunEnd (k : Nat) (s : State) : State :=
  match s.ctx k with
  | none => s
  | some x =>
    match x.order, s.progOf x with
    | some o, some p =>
      if p.launches.length ≤ x.launched && x.left.isEmpty then
        let s := s.modOrder o fun y => { y with runEnded := true }
        let s := if (s.order o).elim true Order.lastMade then s else s.handSend o none 0 0 true
        s.dropIfDone o
      else s
    | _, _ => s

/-- One block of a launch entry has ended (06 R160). -/
def State.blockGone (k entry : Nat) (s : State) : State :=
  (s.modCtx k fun x => { x with left := tset 0 x.left entry (tget 0 x.left entry - 1) }).checkRunEnd k

/-- A group has ended, by its slot. -/
def CoreWork.isEnded (w : CoreWork) (g : Nat) : Bool := (w.group g).elim true Group.ended

/-- The groups of a block that are held, or not, at barrier `n` by a reason that `p` accepts. -/
def CoreWork.heldAt (w : CoreWork) (b : Block) (p : Hold → Bool) : List Nat :=
  b.groups.filter fun g => (w.group g).elim false fun x => x.heldBy p

/-- A phase of barrier `n` releases if every group of the block has arrived or ended; arrivals held over count in the
next phase, which may release as well (05 R118, R119). -/
def CoreWork.releaseGo : Nat → Nat → Nat → CoreWork → CoreWork
  | 0, _, _, w => w
  | fuel + 1, key, n, w =>
    match tget none w.blocks key with
    | none => w
    | some b =>
      let arr := tget [] b.arrived n
      if b.groups.all (fun g => w.isEnded g || arr.contains g) && !arr.isEmpty then
        let again := w.heldAt b fun h => h == .rearrive n true || h == .rearrive n false
        let w := b.groups.foldl (fun w g => w.modGroup g fun x =>
          match x.hold with
          | some (.barrier m) => if m = n then x.goOn else x
          | some (.rearrive m sync) =>
            if m = n then (if sync then { x with hold := some (.barrier n) } else x.goOn) else x
          | _ => x) w
        let w := { w with blocks := tset none w.blocks key (some { b with arrived := tset [] b.arrived n again }) }
        w.releaseGo fuel key n
      else w

/-- A group arrives at a barrier (05 R118, R119). -/
def CoreWork.arrive (w : CoreWork) (g : Nat) (n : Nat) (sync : Bool) : CoreWork :=
  match w.group g with
  | none => w
  | some x =>
    match tget none w.blocks x.block with
    | none => w
    | some b =>
      if (tget [] b.arrived n).contains g then
        w.modGroup g fun x => { x with hold := some (.rearrive n sync) }
      else
        let w := { w with blocks := tset none w.blocks x.block (some { b with arrived := tmod [] b.arrived n (· ++ [g]) }) }
        let w := w.modGroup g fun x => if sync then { x with hold := some (.barrier n) } else x.advance
        w.releaseGo 3 x.block n

/-- A block has ended: every group has, and their slots and lane-registers are free (05 R117). -/
def State.endBlock (i k key : Nat) (s : State) : State :=
  match tget none (s.core i).work.blocks key with
  | none => s
  | some b =>
    if b.groups.all (s.core i).work.isEnded then
      let s := s.modWork i fun w =>
        { (b.groups.foldl (fun w g => w.setGroup g none) w) with blocks := tset none w.blocks key none }
      s.blockGone k b.entry
    else s

/-- A group ends: it completes the count of every barrier of its block (05 R117, R118). What it accessed is taken as released
at device scope.
(DESIGN CHOICE, log entry 22.) -/
def State.endGroup (c : CoreAt) (k : Nat) (g : Group) (s : State) : State :=
  let s := s.modWork c.core fun w =>
    [0, 1, 2, 3].foldl (fun w n => w.releaseGo 3 g.block n) (w.setGroup c.grp (some { g with ended := true, hold := none }))
  (s.released (s.idAt c) 4).endBlock c.core k g.block

/-! ### Residency (05 R111, R113; 06 R158) -/

/-- Lane-registers of the resident groups of a core. -/
def CoreWork.laneRegs (w : CoreWork) : Nat :=
  (List.range 32).foldl (fun n g => n + (w.group g).elim 0 fun x => x.width * x.regs) 0
/-- The free group slots of a core. -/
def CoreWork.freeSlots (w : CoreWork) : List Nat := below 32 fun g => (w.group g).isNone

/-- A block of a kernel fits now: all of its groups at once (05 R113). -/
def CoreWork.fits (w : CoreWork) (k : Kernel) : Bool :=
  decide (k.groups ≤ w.freeSlots.length) && decide (w.laneRegs + k.groups * k.width * k.regs ≤ 65536)

/-- A block of a kernel could fit on an empty core (05 R113). -/
def Kernel.couldFit (k : Kernel) : Bool := decide (k.groups ≤ 32) && decide (k.groups * k.width * k.regs ≤ 65536)

/-- The order record's BVA for a context (06 R161). -/
def recordBva (p : Program) (x : Ctx) : Nat := p.orderArea + x.index * 1280

/-- A launched group (06 R158, 05 R114). -/
def launchGroup (k : Kernel) (record key block num : Nat) : Group :=
  { width := k.width, regs := k.regs, pc := BitVec.ofNat 64 k.entry, block := key, num := num,
    m := tset 0 [] 0 (widthMask k.width),
    s := tset 0 (tset 0 (tset 0 (tset 0 [] 0 (BitVec.ofNat 64 k.args)) 1 (BitVec.ofNat 64 block)) 2 (BitVec.ofNat 64 num))
      3 (BitVec.ofNat 64 record) }

/-- A block becomes resident in the lowest free group slots of its core (05 R113). -/
def CoreWork.seat (w : CoreWork) (k : Kernel) (record entry block : Nat) : CoreWork :=
  let slots := w.freeSlots.take k.groups
  let w := slots.zipIdx.foldl (fun w p =>
    w.setGroup p.1 (some (launchGroup k record w.nextBlock block p.2))) w
  { w with blocks := tset none w.blocks w.nextBlock (some { entry := entry, num := block, groups := slots }),
           nextBlock := w.nextBlock + 1 }

/-- A group of the context is held at a named barrier (04 R96, 05 R120). -/
def CoreWork.atBarrier (w : CoreWork) : Bool :=
  (List.range 32).any fun g => (w.group g).elim false fun x => x.heldBy fun h =>
    match h with
    | .barrier _ => true
    | .rearrive _ _ => true
    | _ => false

end Sys2Proof.Machine
end

