-- ==== Sys2Proof/Machine/Mem.lean ====
section
/-! DEFINITION. The vector memory instructions and the atomics (06 R142 to R145, 05 R124 to R129). -/

namespace Sys2Proof.Machine

open Sys2Proof

/-- Where the active lanes of an access lead, in ascending lane order. -/
def lanePlaces (c : CoreAt) (x : Ctx) (g : Group) (w : Word) (acc : Acc) (s : State) : List (Nat × Loc) :=
  g.lanes.map fun t => (t, s.engineLoc x (clusterOf c.core) acc (laneAddr g w t).toNat)

/-- A group waits for its own outstanding writes before a release (11 R254). -/
def State.holdFence (c : CoreAt) (w : Word) (s : State) : State :=
  s.modGroup c fun g => { g with hold := some (.fence w) }

/-- Is a release at this scope a commit point (17 R364)? -/
def scopeCommits (scope : Nat) : Bool := decide (2 ≤ scope)

/-- vld (06 R144): the value of each active lane into VD.
(DESIGN CHOICE, log entry 22.) -/
def loadForm (c : CoreAt) (w : Word) (s : State) : State :=
  issue c w (fun k x g s =>
    let as := g.lanes.map (laneAddr g w)
    if addrCause (accBytes w) as != 0 then s.coreFault c (addrCause (accBytes w) as)
    else
      let ls := lanePlaces c x g w .load s
      (s.settle (ls.map Prod.snd)).groupRead c w k x g (accBytes w) (ls.map Prod.snd) (fun g rd =>
        (g.setVals (fVD w) (sizeSpan w) fun t =>
          extend (accBytes w) 32 (fSX w) (ofBytes (((ls.find? fun p => p.1 == t).map fun p => rd p.2).getD []))).advance)) s

/-- vst (06 R144): the low bytes of VB from each active lane. A release form at crossing scope first waits until the
partners have acknowledged the group's earlier writes; within the device every earlier write is performed when it is made
(11 R251, R254).
(DESIGN CHOICE, log entry 22.) -/
def storeForm (c : CoreAt) (w : Word) (s : State) : State :=
  issue c w (fun k x g s =>
    if fOrd w == 2 && fScope w == 5 && s.groupRemote c then s.holdFence c w
    else
      let as := g.lanes.map (laneAddr g w)
      if addrCause (accBytes w) as != 0 then s.coreFault c (addrCause (accBytes w) as)
      else
        let ws := (lanePlaces c x g w .store s).map fun p =>
          (p.2, bytesOf (accBytes w) (laneVal g (fVB w) (sizeSpan w) p.1))
        let id := s.idAt c
        let s := (if fOrd w == 2 then s.released id (fScope w) else s).settle (ws.map Prod.fst)
        let ms := ws.filterMap fun p => s.markAt c.core id (accBytes w) 6 p.1
        let s := ((s.groupWrites c k x ws).afterAccess ms).modGroup c Group.advance
        if fOrd w == 2 && scopeCommits (fScope w) then s.commitPoint c.core else s) s

/-- An atomic (06 R144): lanes in ascending order, each on the value left by the lane before (05 R128); at die scope or wider
it is performed at the home slice, where no cluster keeps a copy (05 R125, 10 R231, R238).
(DESIGN CHOICE, log entry 23.)
(DESIGN CHOICE, log entry 22.) -/
def atomForm (c : CoreAt) (w : Word) (op : Rmw) (s : State) : State :=
  issue c w (fun k x g s =>
    let n := accBytes w
    let as := g.lanes.map (laneAddr g w)
    if addrCause n as != 0 then s.coreFault c (addrCause n as)
    else
      let ls := lanePlaces c x g w .store s
      let locs := ls.map Prod.snd
      let cause := if locsCause .store locs != 0 then locsCause .store locs else locsCause .load locs
      let span := sizeSpan w
      let args := ls.map fun p =>
        (p.1, p.2, laneVal g (fVB w) span p.1, laneVal g (fVB w + span) span p.1)
      if cause != 0 then
        let f := s.free
        let ok := (args.zipIdx).filterMap fun p =>
          if p.1.2.1.cause .load == 0 && Config.freeBit f p.2 then some p.1 else none
        ((({ ((s.settle locs).rmwLanes c k x n op (fRet w) ok).1 with free := f + 1 } : State)).countLostReads locs).coreFault c cause
      else
        let s := s.settle locs
        let s := if 3 ≤ fScope w then s.homeAll true locs else s
        let mark (l : Loc) : Option Mark := s.markAt c.core (s.idAt c) n (fScope w) l
        let r := s.rmwLanes c k x n op (fRet w) args
        let found := r.2.map fun p => (p.1, s.foundAt ((ls.find? fun q => q.1 == p.1).bind fun q => mark q.2) p.1 n p.2)
        let s := r.1.afterAccess (ls.filterMap fun q => (mark q.2).map fun m =>
          { m with ret := if fRet w then (found.find? fun p => p.1 == q.1).map fun p => (fVD w, span, q.1, p.2) else none })
        if fRet w then
          if found.length < args.length then
            s.modGroup c fun g => { g with hold := some (.remote w), rem := { g.rem with vals := found } }
          else (s.modGroup c fun g => (g.setFound w found).advance).commitPoint c.core
        else (s.modGroup c Group.advance).commitPoint c.core) s

def atomOp (w : Word) : Rmw :=
  match opc w with
  | 0x77 => .cas | 0x78 => .add | 0x79 => .fadd | 0x7A => .min (fSX w) | 0x7B => .max (fSX w)
  | 0x7C => .and | 0x7D => .or | 0x7E => .xor | _ => .exch

/-- vld (06 R144). -/
def execVld (c : CoreAt) (w : Rest) (s : State) : Host.Outcome State Fault Refusal :=
  .next (loadForm c (wordOf 0x70 w) s)

/-- vst (06 R144). -/
def execVst (c : CoreAt) (w : Rest) (s : State) : Host.Outcome State Fault Refusal :=
  .next (storeForm c (wordOf 0x71 w) s)

/-- atom.cas (06 R144). -/
def execAtomCas (c : CoreAt) (w : Rest) (s : State) : Host.Outcome State Fault Refusal :=
  .next (atomForm c (wordOf 0x77 w) .cas s)

/-- atom.add (06 R144). -/
def execAtomAdd (c : CoreAt) (w : Rest) (s : State) : Host.Outcome State Fault Refusal :=
  .next (atomForm c (wordOf 0x78 w) .add s)

/-- atom.fadd (05 R124). -/
def execAtomFadd (c : CoreAt) (w : Rest) (s : State) : Host.Outcome State Fault Refusal :=
  .next (atomForm c (wordOf 0x79 w) .fadd s)

/-- atom.min, signed when SX is 1 (06 R144). -/
def execAtomMin (c : CoreAt) (w : Rest) (s : State) : Host.Outcome State Fault Refusal :=
  .next (atomForm c (wordOf 0x7A w) (.min (fSX (wordOf 0x7A w))) s)

/-- atom.max, signed when SX is 1 (06 R144). -/
def execAtomMax (c : CoreAt) (w : Rest) (s : State) : Host.Outcome State Fault Refusal :=
  .next (atomForm c (wordOf 0x7B w) (.max (fSX (wordOf 0x7B w))) s)

/-- atom.and (06 R144). -/
def execAtomAnd (c : CoreAt) (w : Rest) (s : State) : Host.Outcome State Fault Refusal :=
  .next (atomForm c (wordOf 0x7C w) .and s)

/-- atom.or (06 R144). -/
def execAtomOr (c : CoreAt) (w : Rest) (s : State) : Host.Outcome State Fault Refusal :=
  .next (atomForm c (wordOf 0x7D w) .or s)

/-- atom.xor (06 R144). -/
def execAtomXor (c : CoreAt) (w : Rest) (s : State) : Host.Outcome State Fault Refusal :=
  .next (atomForm c (wordOf 0x7E w) .xor s)

/-- atom.exch (06 R144). -/
def execAtomExch (c : CoreAt) (w : Rest) (s : State) : Host.Outcome State Fault Refusal :=
  .next (atomForm c (wordOf 0x7F w) .exch s)

end Sys2Proof.Machine
end

