-- ==== Sys2Proof/Machine/System.lean ====
section
/-! DEFINITION. The system instructions (06 R151 to R153), exit and barriers (05 R117 to R120), fences (11 R254), range
commands (10 R244, R245), and the two fetch-side faults (06 R155, R156). -/

namespace Sys2Proof.Machine

open Sys2Proof

/-- nop (06 R151). -/
def execNop (c : CoreAt) (w : Rest) (s : State) : Host.Outcome State Fault Refusal :=
  .next (issueGroup c (wordOf 0xB0 w) id s)

/-- The group after its active lanes have ended (05 R117). -/
def Group.exitLanes (g : Group) : Group :=
  let d := g.m0
  let st := g.stack.map fun e => { e with outer := e.outer &&& ~~~d, rest := e.rest &&& ~~~d }
  { g.setM 0 0 with stack := st, pc := (st.head?).elim g.pc MaskEntry.reconv }

/-- A lane remains in the mask stack. -/
def Group.laneLeft (g : Group) : Bool := g.m0 != 0 || g.stack.any fun e => e.outer != 0 || e.rest != 0

/-- exit (05 R117). -/
def execExitLanes (c : CoreAt) (w : Rest) (s : State) : Host.Outcome State Fault Refusal :=
  .next (issue c (wordOf 0xB1 w) (fun k _ g s =>
    if g.exitLanes.laneLeft then s.setGroup c g.exitLanes else s.endGroup c k { g.exitLanes with pc := g.pc }) s)

/-- bar.sync and bar.arrive (05 R118, R119); without an active lane there is no arrival (06 R154). Afterwards the core
takes a commit point (17 R364). -/
def barForm (c : CoreAt) (w : Word) (sync : Bool) (s : State) : State :=
  issue c w (fun _ _ g s =>
    (if g.m0 = 0 then s.setGroup c g.advance
     else s.modWork c.core fun k => k.arrive c.grp (fld 0 2 w) sync).commitPoint c.core) s

/-- bar.sync n (05 R118). -/
def execBarSync (c : CoreAt) (w : Rest) (s : State) : Host.Outcome State Fault Refusal :=
  .next (barForm c (wordOf 0xB2 w) true s)

/-- bar.arrive n (05 R118). -/
def execBarArrive (c : CoreAt) (w : Rest) (s : State) : Host.Outcome State Fault Refusal :=
  .next (barForm c (wordOf 0xB3 w) false s)

/-- A fence (11 R254, R255): every earlier load of the group has returned when it issues; a release at crossing scope waits
for the partners' acknowledgements. A release at cluster scope or wider is a commit point (17 R364). -/
def fenceForm (c : CoreAt) (w : Word) (s : State) : State :=
  issue c w (fun _ _ g s =>
    let release := fld 3 2 w != 1
    let acquire := fld 3 2 w != 2
    if release && fld 0 3 w == 5 && s.groupRemote c then s.holdFence c w
    else
      let id := s.idAt c
      let s := if release then s.released id (fld 0 3 w) else s
      let s := (if acquire then s.acquired c.core id (fld 0 3 w) else s).setGroup c g.advance
      if release && scopeCommits (fld 0 3 w) then s.commitPoint c.core else s) s

/-- fence.acq_rel (11 R254). -/
def execFenceAcqRel (c : CoreAt) (w : Rest) (s : State) : Host.Outcome State Fault Refusal :=
  .next (fenceForm c (withField 3 2 0 (wordOf 0xB4 w)) s)

/-- fence.acquire (11 R254). -/
def execFenceAcquire (c : CoreAt) (w : Rest) (s : State) : Host.Outcome State Fault Refusal :=
  .next (fenceForm c (withField 3 2 1 (wordOf 0xB4 w)) s)

/-- fence.release (11 R254). -/
def execFenceRelease (c : CoreAt) (w : Rest) (s : State) : Host.Outcome State Fault Refusal :=
  .next (fenceForm c (withField 3 2 2 (wordOf 0xB4 w)) s)

/-- evt (06 R152). -/
def execEvt (c : CoreAt) (w : Rest) (s : State) : Host.Outcome State Fault Refusal :=
  let w := wordOf 0xB5 w
  .next (issue c w (fun _ x g s =>
    let n := if bitAt 6 w then (g.sreg (fXA w)).toNat else fld 0 6 w
    if g.m0 = 0 then (s.setGroup c g.advance).commitPoint c.core
    else if n < 8 ∨ 63 < n then s.coreFault c 0x01
    else ((s.setGroup c g.advance).raiseVector x.berth n).commitPoint c.core) s)

/-- The logical core ID of a slot (01 R15). -/
def State.logicalId (s : State) (i : Nat) : Nat := clusterOf i * 8 + (s.core i).bound.getD 0

/-- The values of srd (06 R153). -/
def srdValue (s : State) (c : CoreAt) (x : Ctx) (g : Group) (sel : Nat) : Nat :=
  match sel with
  | 0 => (s.core c.core).cycles
  | 1 => s.logicalId c.core
  | 2 => c.grp
  | 3 => (s.idAt c).block
  | 4 => g.num
  | 5 => g.width
  | 6 => (x.order.bind s.order).elim 0 fun o => o.copy (dieOf c.core)
  | 7 => x.rank (clusterOf c.core)
  | _ => x.clusters.length

/-- srd (06 R153). -/
def execSrd (c : CoreAt) (w : Rest) (s : State) : Host.Outcome State Fault Refusal :=
  let w := wordOf 0xB6 w
  .next (issue c w (fun _ x g s =>
    s.setGroup c (g.setS (fXD w) (BitVec.ofNat 64 (srdValue s c x g (fImm w)))).advance) s)

/-- The cause of a range command's operands (10 R244).
(DEDUCED, log entry 24.) -/
def rangeCause (a n : Nat) : Nat :=
  if a % 128 ≠ 0 ∨ n % 128 ≠ 0 then 0x05
  else if n < 128 ∨ 1073741824 < n then 0x01
  else if 2 ^ 48 < a + n then 0x06 else 0

/-- crange (10 R244, R245), then a commit point (17 R364); the group is held while a line of the range is BUSY. -/
def rangeForm (c : CoreAt) (w : Word) (op : Nat) (s : State) : State :=
  issue c w (fun _ x g s =>
    let a := (g.sreg (fXA w)).toNat
    let n := (g.sreg (fXB w)).toNat
    if rangeCause a n != 0 then s.coreFault c (rangeCause a n)
    else if s.anyBusy (s.rangeLines x.berth a n) then s
    else ((s.setGroup c g.advance).rangeOp op (s.rangeLines x.berth a n)).commitPoint c.core) s

/-- crange.prefetch (10 R245). -/
def execCrangePrefetch (c : CoreAt) (w : Rest) (s : State) : Host.Outcome State Fault Refusal :=
  .next (rangeForm c (withField 0 2 0 (wordOf 0xB7 w)) 0 s)

/-- crange.flush (10 R245). -/
def execCrangeFlush (c : CoreAt) (w : Rest) (s : State) : Host.Outcome State Fault Refusal :=
  .next (rangeForm c (withField 0 2 1 (wordOf 0xB7 w)) 1 s)

/-- crange.invalidate (10 R245). -/
def execCrangeInvalidate (c : CoreAt) (w : Rest) (s : State) : Host.Outcome State Fault Refusal :=
  .next (rangeForm c (withField 0 2 2 (wordOf 0xB7 w)) 2 s)

/-- ILLEGAL_ENCODING: a group reaches a word that chapter 6 does not list, or lists with other fields (06 R132, R155). A legal
word is another command's. -/
def execIllegalEncoding (c : CoreAt) (w : Word) (s : State) : Host.Outcome State Fault Refusal :=
  .next (match s.runGroup c with
    | some (_, _, g) => if legalWord g.width w then s else issue c w (fun _ _ _ s => s) s
    | none => s)

/-- INSTRUCTION_FETCH_FAULT: the PC lies in an unmapped page or a page without X (06 R156 step 1). -/
def execInstructionFetchFault (c : CoreAt) (s : State) : Host.Outcome State Fault Refusal :=
  .next (match s.runGroup c with
    | some (_, x, g) => if s.fetchOk x.berth g.pc then s else s.coreFault c 0x06
    | none => s)

end Sys2Proof.Machine
end

