-- ==== Sys2Proof/Machine/Frames.lean ====
section
/-! DEFINITION. Ethernet frames that carry no BTP packet: Neighbor Discovery, ARP and ICMPv6 echo (16 R339). A frame is
the bytes from its destination address to the byte before its FCS. -/

namespace Sys2Proof.Machine

open Sys2Proof

/-- The interface exists: half 0 of a port in mode 2, both halves of one in mode 3 (16 R339). -/
def State.hasIface (s : State) (i : Nat) : Bool :=
  decide (i < 128) && ((s.port (i / 2)).mode == 3 || ((s.port (i / 2)).mode == 2 && i % 2 == 0))

/-- The interface exists and its link is up, on a device that runs. -/
def State.ifaceUp (s : State) (i : Nat) : Bool := s.running && s.hasIface i && (s.iface i).up

/-- The interface accepts IPv4: PORT_FLAGS[0] of its port (16 R339, 02 R46). -/
def State.ip4On (s : State) (i : Nat) : Bool := bitmapAt (s.mrec 7) (2 * (i / 2) + 1) 0

/-- PRESUMED, log entry 53. -/
def macOf (i : Nat) : List Byte := (List.range 6).map (Config.macByte i)
def EthIf.ip6 (x : EthIf) : List Byte := bytesOf 8 x.ip6Hi.toNat ++ bytesOf 8 x.ip6Lo.toNat

/-- `n` bytes of a frame from an offset, in network order. -/
def nf (f : List Byte) (off n : Nat) : Nat := beNum ((f.drop off).take n)
def cut (f : List Byte) (off n : Nat) : List Byte := (f.drop off).take n

/-- The sum of 16-bit words in network order, and the Internet checksum of RFC 1071. -/
def sum16 : List Byte → Nat
  | [] => 0
  | [a] => a.toNat * 256
  | a :: b :: r => a.toNat * 256 + b.toNat + sum16 r
def cksum (l : List Byte) : Nat :=
  let t := sum16 l
  if t = 0 then 65535 else 65535 - (if t % 65535 = 0 then 65535 else t % 65535)

/-- The frame without its 802.1Q tag, if its tag is the interface's own (16 R339). -/
def untag (vlan : Nat) (f : List Byte) : Option (List Byte) :=
  if nf f 12 2 = 0x8100 then
    (if nf f 14 2 % 4096 = vlan ∧ vlan ≠ 0 then some (f.take 12 ++ f.drop 16) else none)
  else if vlan = 0 then some f else none

/-- A frame with the interface's tag put in. -/
def retag (vlan : Nat) (f : List Byte) : List Byte :=
  if vlan = 0 then f else f.take 12 ++ beBytes 2 0x8100 ++ beBytes 2 vlan ++ f.drop 12

/-- Kinds of frames (16 R339). -/
inductive FrameKind where
  | solicit | neighbor | echo | arp | btp | pause | other
  deriving DecidableEq, Repr

/-- The pseudo-header of ICMPv6 (RFC 4443). -/
def pseudo6 (src dst : List Byte) (n : Nat) : List Byte := src ++ dst ++ beBytes 4 n ++ beBytes 4 58

/-- An IPv6 packet without extension header whose payload has its declared length. -/
def isIp6 (f : List Byte) : Bool :=
  nf f 12 2 == 0x86DD && nf f 14 1 / 16 == 6 && decide (54 ≤ f.length) && decide (54 + nf f 18 2 ≤ f.length)
/-- The ICMPv6 message of a frame, where its checksum holds. -/
def icmpOf (f : List Byte) : Option (List Byte) :=
  let m := cut f 54 (nf f 18 2)
  if isIp6 f && nf f 20 1 == 58 && decide (8 ≤ m.length) && cksum (pseudo6 (cut f 22 16) (cut f 38 16) m.length ++ m) == 0
  then some m else none

/-- What a frame is to an interface (16 R339). -/
def State.frameKind (s : State) (i : Nat) (frame : List Byte) : FrameKind :=
  let x := s.iface i
  if nf frame 12 2 = 0x8808 then .pause
  else match untag x.vlan frame with
  | none => .other
  | some f =>
    match icmpOf f with
    | some m =>
      let ty := nf m 0 1
      if ty = 135 ∧ nf f 21 1 = 255 ∧ cut m 8 16 = x.ip6 ∧ 24 ≤ m.length then .solicit
      else if 133 ≤ ty ∧ ty ≤ 137 then .neighbor
      else if ty = 128 ∧ cut f 38 16 = x.ip6 then .echo
      else .other
    | none =>
      if nf f 12 2 = 0x0806 then
        (if s.ip4On i ∧ nf f 14 2 = 1 ∧ nf f 16 2 = 0x0800 ∧ nf f 20 2 = 1 ∧ cut f 38 4 = bytesOf 4 x.ip4 ∧ 42 ≤ f.length
         then .arp else .other)
      else if isIp6 f && nf f 20 1 == 17 && nf f 56 2 == 7088 then .btp
      else if s.ip4On i && nf f 12 2 == 0x0800 && nf f 14 1 == 0x45 && nf f 20 2 % 0x4000 == 0 && nf f 23 1 == 17 && nf f 36 2 == 7088 then .btp
      else .other

/-- An ICMPv6 message from the interface, with its checksum filled in at bytes 2 and 3. -/
def EthIf.icmp (x : EthIf) (i : Nat) (toMac toIp m : List Byte) (hop : Nat) : List Byte :=
  let c := cksum (pseudo6 x.ip6 toIp m.length ++ m)
  retag x.vlan (toMac ++ macOf i ++ beBytes 2 0x86DD ++ beBytes 4 0x60000000 ++ beBytes 2 m.length ++ beBytes 1 58 ++
    beBytes 1 hop ++ x.ip6 ++ toIp ++ (m.take 2 ++ beBytes 2 c ++ m.drop 4))

/-- The advertisement that answers a solicitation (RFC 4861): solicited and override, with the link-layer address. -/
def EthIf.advert (x : EthIf) (i : Nat) (f : List Byte) : List Byte :=
  let from_ := cut f 22 16
  let m (flags : Nat) := beBytes 4 (136 * 16777216) ++ beBytes 4 flags ++ x.ip6 ++ beBytes 2 0x0201 ++ macOf i
  if beNum from_ = 0 then x.icmp i (beBytes 6 0x333300000001) (beBytes 16 0xFF020000000000000000000000000001) (m 0x20000000) 255
  else x.icmp i (cut f 6 6) from_ (m 0x60000000) 255

/-- The reply to an echo request (RFC 4443). -/
def EthIf.echoReply (x : EthIf) (i : Nat) (f : List Byte) : List Byte :=
  let m := cut f 54 (nf f 18 2)
  x.icmp i (cut f 6 6) (cut f 22 16) (beBytes 4 (129 * 16777216) ++ m.drop 4) 64

/-- The reply to an ARP request (RFC 826). -/
def EthIf.arpReply (x : EthIf) (i : Nat) (f : List Byte) : List Byte :=
  retag x.vlan (cut f 6 6 ++ macOf i ++ beBytes 2 0x0806 ++ beBytes 6 0x000108000604 ++ beBytes 2 2 ++ macOf i ++
    bytesOf 4 x.ip4 ++ cut f 22 6 ++ cut f 28 4)

/-- A frame is answered where it is of the kind that its row names. -/
def State.frameRow (i : Nat) (frame : List Byte) (kind : FrameKind) (f : EthIf → List Byte → List Byte) (s : State) : State :=
  if s.ifaceUp i && s.frameKind i frame == kind then s.say (.frame i (f (s.iface i) ((untag (s.iface i).vlan frame).getD frame)))
  else s

/-- The address of ETH_I_DROP in the window of its I/O die (16 R357). -/
def ethDropOff (i : Nat) : Nat := 0x401000 + i % 64 * 0x40 + 0x28
/-- The I/O die of an interface. -/
def ioDie (i : Nat) : Nat := 0x20 + i / 64

/-- A frame or a packet is dropped and counted in ETH_I_DROP (16 R339, R340). -/
def State.dropFrame (i : Nat) (s : State) : State :=
  s.bump (ioDie i) (ethDropOff i) (fun s => (s.iface i).drop) (fun n s => s.modIface i fun x => { x with drop := n })

/-- NEIGHBOR_DISCOVERY (16 R339): a solicitation for the interface's address is answered. -/
def execNeighborDiscovery (iface : Nat) (frame : List Byte) (s : State) : Host.Outcome State Fault Refusal :=
  .next (s.frameRow iface frame .solicit fun x f => x.advert iface f)
/-- ARP (16 R339). -/
def execArp (iface : Nat) (frame : List Byte) (s : State) : Host.Outcome State Fault Refusal :=
  .next (s.frameRow iface frame .arp fun x f => x.arpReply iface f)
/-- An IPv6 packet of a frame is no longer than the interface's MTU (16 R339). -/
def State.fitsMtu (s : State) (i : Nat) (frame : List Byte) : Bool :=
  decide (40 + nf ((untag (s.iface i).vlan frame).getD frame) 18 2 ≤ (s.iface i).mtu)
/-- ICMPV6_ECHO (16 R339): a reply longer than the MTU is not sent. -/
def execIcmpv6Echo (iface : Nat) (frame : List Byte) (s : State) : Host.Outcome State Fault Refusal :=
  .next (if s.fitsMtu iface frame then s.frameRow iface frame .echo fun x f => x.echoReply iface f else s)
/-- OTHER_FRAME (16 R339): a frame of no supported kind, or one whose FCS fails, is dropped and counted. -/
def execOtherFrame (iface : Nat) (frame : RxFrame) (s : State) : Host.Outcome State Fault Refusal :=
  .next (if s.ifaceUp iface && (!frame.fcsOk || s.frameKind iface frame.bytes == .other) then s.dropFrame iface else s)

end Sys2Proof.Machine
end

