-- ==== Sys2Proof/Machine/CoreEv.lean ====
section
/-! DEFINITION. Launches, residency of blocks, and commit points by cycles (05 R113; 06 R160; 17 R364). -/

namespace Sys2Proof.Machine

open Sys2Proof

/-- A quantity of a cost sheet at a SIZE (04 R82). -/
def Quant.value (q : Quant) (size : Nat) : Nat := q.base + size * q.per

/-- COMMIT of the order that a context runs (04 R82).
(DEDUCED, log entry 17.) -/
def State.commitOf (s : State) (x : Ctx) : Nat :=
  match s.progOf x, x.order.bind s.order with
  | some p, some o => p.cost.commit.value o.hdr.size
  | _, _ => 0

/-- COMMIT_INTERVAL_EXPIRY (17 R364). A COMMIT of 0 gives no commit point by cycles (DEDUCED, log entry 17). -/
def execCommitIntervalExpiry (core : Nat) (s : State) : Host.Outcome State Fault Refusal :=
  .next (match s.liveCore core with
    | some (_, x) =>
      if 0 < s.commitOf x ∧ (s.core core).lastCommit + s.commitOf x ≤ (s.core core).cycles ∧ !(s.core core).commitDue
      then s.commitPoint core else s
    | none => s)

/-- A kernel descriptor within its values (06 R157). -/
def Kernel.legal (k : Kernel) : Bool :=
  decide (k.mode ≤ 1) && (k.width == 64 || (k.mode == 1 && (k.width == 16 || k.width == 32))) &&
  k.regs % 8 == 0 && decide (8 ≤ k.regs) && decide (k.regs ≤ 256) &&
  decide (1 ≤ k.groups) && decide (k.groups ≤ 16) && decide (1 ≤ k.blocks) && decide (k.blocks ≤ 65536) &&
  k.entry % 8 == 0 && decide (k.entry < 2 ^ 48) && decide (k.args < 2 ^ 48) && k.reserved == 0

/-- The kernel of a launch entry. -/
def Program.kernelOf (p : Program) (entry : Nat) : Option Kernel :=
  (p.launches[entry]?).bind fun l => p.kernels[l.kd]?

/-- The blocks of an entry are placed in ascending number, round-robin over the context's cores in ascending logical
core ID, from the first core for each entry (06 R160; DEDUCED, log entry 18). -/
def placeBlocks (cores : List Nat) (entry blocks : Nat) (s : State) : State :=
  cores.zipIdx.foldl (fun s p => s.modWork p.1 fun w =>
    { w with waiting := w.waiting ++ ((List.range blocks).filter fun b => b % cores.length == p.2).map fun b => (entry, b) }) s

/-- A fault that no group raises tears a context down; it is recorded at the context's first core.
(DEDUCED, log entry 24.) -/
def State.ctxFault (k cause : Nat) (s : State) : State :=
  match s.ctx k with
  | none => s
  | some x =>
    match x.cores.head? with
    | some i => (s.recordFault i 0 0 cause).tearDown k 7 cause
    | none => s.tearDown k 7 cause

/-- The order record of a context is not written yet (06 R161). -/
def State.recordOpen (s : State) (k : Nat) : Bool :=
  (tkeys s.ports).any fun p => ((s.port p).outbound ++ (s.port p).waitq).any fun r => r.ctx == k && r.waiter == .record

/-- LAUNCH_ENTRY (06 R160): the next entry of the order's launch list; an entry with WAIT waits until every block of
every earlier entry has ended. A descriptor outside its values or a block that cannot fit faults (06 R157, 05 R113). -/
def execLaunchEntry (ctx : Nat) (s : State) : Host.Outcome State Fault Refusal :=
  .next (match s.ctx ctx with
    | none => s
    | some x =>
      match x.order.bind s.order, s.progOf x with
      | some o, some p =>
        match p.launches[x.launched]?, p.kernelOf x.launched with
        | some l, some k =>
          if !s.running || !x.switchedIn || o.dispatched.isNone || o.runEnded || x.cores.isEmpty || s.recordOpen ctx || (l.wait && !x.left.isEmpty) then s
          else if !k.legal then s.ctxFault ctx 0x01
          else if !k.couldFit then s.ctxFault ctx 0x07
          else (placeBlocks x.cores x.launched k.blocks s).modCtx ctx fun x =>
            { x with launched := x.launched + 1, left := tset 0 x.left x.launched k.blocks }
        | _, _ => s
      | _, _ => s)

end Sys2Proof.Machine
end

