-- ==== Sys2Proof/Machine/Proofer.lean ====
section
/-! DEFINITION. The proofer: intake, decisions, promises, dispatch, budgets, completion and the interference index (04
R81 to R106; 00 R9 to R13; 06 R160 to R162). -/

namespace Sys2Proof.Machine

open Sys2Proof

/-! ### Intake (04 R86, R88) -/

/-- A header is answered REFUSED (04 R87, R89, R106). -/
def State.refuseHeader (h : Header) (reason earliest : Nat) (s : State) : State :=
  let s : State := { s with prf := { s.prf with decided := (s.prf.decided + 1) % 2 ^ 64 } }
  let s := s.bump 0x20 (0x101000 + h.berth * 0x40 + 0x28) (fun s => (s.berth h.berth).refused)
    (fun n s => s.modBerth h.berth fun y => { y with refused := n })
  s.post h.conn h.berth (answerMsg h.tag 2 reason h.arrival earliest 0)

/-- HEADER_ARRIVAL (04 R86, R88): the oldest header on its way from a port reaches the intake queue, or finds it full. The
arrival tick of a header forwarded from XD1 is its receipt less 20. -/
def execHeaderArrival (port : Nat) (s : State) : Host.Outcome State Fault Refusal :=
  .next (match (if s.running then s.prf.onWay.find? fun h => h.port == port else none) with
    | none => s
    | some h =>
      let s : State := { s with prf := { s.prf with onWay := s.prf.onWay.erase h } }
      let h := if port < 32 then h else { h with arrival := s.tick - 20 }
      if 64 ≤ s.prf.queue.length then
        (s.bump 0x20 0x100018 (fun s => s.prf.busyRefused) (fun n s => { s with prf := { s.prf with busyRefused := n } })).refuseHeader h 1 0
      else { s with prf := { s.prf with queue := s.prf.queue ++ [h] } })

/-- A header leaves the queue before another: earlier arrival tick, then lower port (04 R88). -/
def Header.before (a b : Header) : Bool :=
  decide (a.arrival < b.arrival) || (a.arrival == b.arrival && decide (a.port < b.port))

/-- The header that leaves the queue next; of equal ones the first received. -/
def nextHeader : List Header → Option Header
  | [] => none
  | h :: l => match nextHeader l with
    | none => some h
    | some k => some (if k.before h then k else h)

/-! ### Checks (04 R89) -/

/-- A range of addresses lies in pages of a berth (04 R89 step 4; 09 R210). -/
def State.inPages (s : State) (b bva n : Nat) : Bool :=
  n == 0 || (decide (bva + n ≤ deviceRegion) &&
    (List.range ((bva + n - 1) / 65536 - bva / 65536 + 1)).all fun i =>
      (pageAt (s.berth b).map ((bva / 65536 + i) * 65536)).elim false fun p => !s.retired.contains (p.2 / 65536))

/-- The quantities of a cost sheet that admission evaluates are numbers of 64 bits, and every WIDTH is 1 to 768 (06
R162). -/
def CostSheet.evaluates (c : CostSheet) (size : Nat) : Bool :=
  let ok (q : Quant) := decide (q.value size < 2 ^ 64)
  ok c.egress && ok c.ws && ok c.commit && ok c.maxCycles && c.phases.all fun p =>
    ok p.issue && ok p.hbm && ok p.lpx && ok p.dep && decide (1 ≤ p.width.value size) && decide (p.width.value size ≤ 768)

/-- Step 4 (04 R89, 06 R162, 16 R348). -/
def State.wellMade (s : State) (h : Header) : Bool :=
  h.named == h.berth && decide (h.cls ≤ 2) && decide (1 ≤ h.windows.length) && decide (h.windows.length ≤ 8) &&
  (h.windows.all fun w => s.inPages h.berth w.1 w.2) && (h.sessions.all fun k => s.ownSess h.berth k) &&
  decide (h.sessions.length ≤ 512) && (s.program h.berth h.program).elim true fun p => p.cost.evaluates h.size

/-- Where an order is bound: a context that exists, or a new one, with the context released for it (04 R84). -/
inductive Binding where
  | old (ctx : Nat)
  | fresh (release : Option Nat)
  deriving DecidableEq, Repr

/-- The smallest by a key; of equal ones the first. -/
def minBy (f : Nat → Nat) : List Nat → Option Nat
  | [] => none
  | a :: l => match minBy f l with
    | none => some a
    | some b => some (if f b < f a then b else a)

/-- The rules of 04 R84. -/
def State.bindTo (s : State) (h : Header) (limit : Nat) : Option Binding :=
  let mine := (s.ctxsOf h.berth).filter fun k => !s.stops k
  let own := mine.filter fun k => (s.ctx k).elim false fun x => x.program == h.program && x.prog == s.program h.berth h.program
  let idle (k : Nat) := (s.boundTo k).isEmpty
  let room := decide (((s.ctxsOf h.berth).filter fun k => (s.ctx k).elim false fun x => x.program == h.program).length < limit)
  match own.find? idle with
  | some k => some (.old k)
  | none =>
    if room && decide ((s.ctxsOf h.berth).length < (s.berth h.berth).grant.contexts) then some (.fresh none)
    else
      match (if room then mine.find? fun k => idle k && !own.contains k else none) with
      | some k => some (.fresh (some k))
      | none =>
        if h.cls = 0 then
          (minBy (fun k => (((s.boundTo k).getLast?.bind s.order).map Order.booked).getD 0)
            (own.filter fun k => (s.boundTo k).all fun o => (s.order o).elim false fun x => x.hdr.cls == 0)).map .old
        else (minBy (fun k => (s.boundTo k).length) own).map .old

/-! ### Figures (04 R90, R91, R99) -/

/-- Assured orders are refused with CAPACITY: REFCLK is lost or a PLL still runs on the oscillator, a margin is applied,
or the device is in EMERGENCY (18 R383, R384, R392, R399). -/
def State.assuredBlocked (s : State) : Bool := s.aon.osc || s.pwr.margin || s.pwr.state == 5

/-- Whether the half of a cluster is off (01 R14, R15). -/
def State.halfOff (s : State) (n : Nat) : Bool :=
  let d := (s.die (n / 12)).pwr
  (if n % 12 < 6 then d.west else d.east) == 0

/-- Start wake of a pool (04 R90). -/
def State.startWake (s : State) (q : Nat) : Nat :=
  let c := s.poolCls q
  if c.any s.halfOff then 150000 else if c.any fun n => (s.cluster n).asleep then 3000 else 0

/-- Port egress rate (04 R90), in bytes per ns. -/
def State.portRate (s : State) (p : Nat) : Nat := if (s.port p).mode = 3 then 48 else 96

/-- One phase of the span (04 R91). -/
def phaseTime (r size : Nat) (p : Phase) : Nat :=
  let m := min r (2 * p.width.value size)
  max (ceilDiv (p.issue.value size * 40) (17 * m))
    (max (ceilDiv (p.hbm.value size) (7 * r)) (ceilDiv (p.lpx.value size * 100) (49 * r))) + p.dep.value size * 9000

/-- The span of an assured order, in ticks (04 R91). -/
def spanOf (c : CostSheet) (size r w wSum rate wake : Nat) (switchedIn : Bool) : Nat :=
  let exec := c.phases.foldl (fun n p => n + phaseTime r size p) 0
  let egr := ceilDiv (c.egress.value size * wSum) (w * rate)
  let start := 20000 + wake + (if switchedIn then 0 else min (1000000 + 10000 * c.ws.value size) 4000000)
  ceilDiv (start + exec + egr + (20000 + c.commit.value size)) 100

/-- The span of an order on a berth (04 R91). -/
def State.spanFor (s : State) (h : Header) (p : Program) (b : Binding) : Nat :=
  let g := (s.berth h.berth).grant
  let wSum := (below 256 fun o => (s.berth o).state != 0 && bitAt h.port (s.berth o).grant.ports).foldl
    (fun n o => n + (s.berth o).grant.egressWeight) 0
  spanOf p.cost h.size g.assured g.egressWeight wSum (s.portRate h.port) (s.startWake g.pool)
    (match b with
     | .old k => (s.ctx k).elim false Ctx.switchedIn
     | .fresh _ => false)

/-! ### The decision (04 R89 to R94) -/

/-- What a decision is: a reason with its earliest time, or the promise and the booked end. -/
inductive Decision where
  | refuse (reason earliest : Nat)
  | accept (b : Binding) (time booked : Nat)
  deriving DecidableEq, Repr

/-- The most ticks between arrival and promise, and the fewest (04 R93). -/
def rangeTicks : Nat := 600000000

/-- The promise of an assured order (04 R93). -/
def choosePromise (a h span req : Nat) (b : Binding) : Decision :=
  let e := max a h + span
  let p := if req = 0 then max e (a + 1000) else a + req
  if rangeTicks < e - a then .refuse 0x0C 0
  else if e ≤ p ∧ 1000 ≤ p - a ∧ p - a ≤ rangeTicks then .accept b p e
  else .refuse 0x0B (max e (a + 1000))

/-- The checks of 04 R89 in their order. -/
def State.checkHeader (s : State) (h : Header) : Decision :=
  let g := (s.berth h.berth).grant
  if !s.admits h.berth h.arrival then .refuse 2 0
  else if 65536 ≤ s.inflight then .refuse 3 0
  else if !s.wellMade h then .refuse 4 0
  else
    match s.program h.berth h.program with
    | none => .refuse 5 0
    | some p =>
      match s.bindTo h p.ctxLimit with
      | none => .refuse 6 0
      | some b =>
        if h.cls = 1 then .accept b (h.arrival + (if h.reqSpan = 0 then rangeTicks else h.reqSpan)) 0
        else if h.cls = 2 then .accept b 0 0
        else if g.assured = 0 then .refuse 7 0
        else if p.cost.crossing then .refuse 8 0
        else if s.assuredBlocked || s.poolShort g.pool then .refuse 9 0
        else if (s.reserveAll h.berth h.sessions).isNone then .refuse 0x0A 0
        else choosePromise h.arrival (s.berth h.berth).horizon (s.spanFor h p b) h.reqSpan b

/-- The context of an admitted order: released and created as its binding says (04 R83 to R85). -/
def State.bindCtx (h : Header) (b : Binding) (s : State) : Nat × State :=
  match b with
  | .old k => (k, s)
  | .fresh r =>
    let s := r.elim s fun k => s.releaseCtx k
    let k := (firstBelow 1024 fun k => (s.ctx k).isNone).getD 0
    let used := (s.ctxsOf h.berth).filterMap fun j => (s.ctx j).bind fun x => if x.program = h.program then some x.index else none
    (k, s.setCtx k (some { berth := h.berth, program := h.program, prog := s.program h.berth h.program,
                           index := (firstBelow 16 fun i => !used.contains i).getD 0 }))

/-- An order is admitted: bound, recorded, booked where it is assured, and answered ACCEPTED (04 R84, R87, R92). -/
def State.takeOrder (h : Header) (b : Binding) (time booked : Nat) (s : State) : State :=
  let s := if h.cls = 0 then (s.reserveAll h.berth h.sessions).getD s else s
  let r := s.bindCtx h b
  let n := r.2.nextDesc
  let s := ({ r.2 with nextDesc := n + 1, prf := { r.2.prf with decided := (r.2.prf.decided + 1) % 2 ^ 64 } } : State).setOrder n
    (some { hdr := h, time := time, booked := booked, ctx := r.1 })
  let s := if h.cls = 0 then s.modBerth h.berth fun y => { y with horizon := booked } else s
  s.post h.conn h.berth (answerMsg h.tag 1 0 h.arrival time 0)

/-- HEADER_DECISION (04 R88, R89): the next header of the queue is decided, no earlier than 20 ticks after its arrival and
after every header with its arrival tick or an earlier one has reached the proofer. An order that arrived before its berth's admission closed and is accepted after the berth is stopped is withdrawn (03 R66,
R68). -/
def execHeaderDecision (s : State) : Host.Outcome State Fault Refusal :=
  .next (match (if s.running then nextHeader s.prf.queue else none) with
    | none => s
    | some h =>
      if s.tick < h.arrival + 20 || s.prf.onWay.any fun o => decide ((if o.port < 32 then o.arrival else s.tick - 20) ≤ h.arrival) then s
      else
        let s : State := { s with prf := { s.prf with queue := s.prf.queue.erase h } }
        match s.checkHeader h with
        | .refuse reason earliest => s.refuseHeader h reason earliest
        | .accept b time booked =>
          let s := s.takeOrder h b time booked
          if (s.berth h.berth).state = 4 ∨ (s.berth h.berth).state = 5 then s.withdrawAll h.berth else s)

/-! ### Revocation (04 R97, R98; 00 R10, R11) -/

/-- A value of the cost sheet of an order's program. -/
def State.costOf (s : State) (x : Order) (f : CostSheet → Quant) : Nat :=
  (s.program x.hdr.berth x.hdr.program).elim 0 fun p => (f p.cost).value x.hdr.size

/-- The budget of an order that is not revoked, at its dispatch tick (04 R95). -/
def State.fullBudget (s : State) (x : Order) (d : Nat) : Nat :=
  if x.hdr.cls = 0 ∧ !x.revoked then (x.time - 20 - d) * 100 else s.costOf x CostSheet.maxCycles

/-- A REVOKED notice (00 R10, 16 R350). -/
def State.sayRevoked (x : Order) (s : State) : State := s.post x.hdr.conn x.hdr.berth (answerMsg x.hdr.tag 5 0 x.hdr.arrival 0 0)

/-- An assured order that can be revoked. -/
def Order.revocable (x : Order) : Bool := x.hdr.cls == 0 && !x.revoked && !x.answered

/-- A promise is revoked: the booking is given back, the budget becomes MAX_CYCLES from the dispatch, and the notice is
sent; after the last RESULT has left its port the run is not changed (00 R11, 04 R92, R95, R98). -/
def State.revokeOne (o : Nat) (s : State) : State :=
  match s.order o with
  | none => s
  | some x =>
    if !x.revocable then s
    else if x.lastGone then s
    else
      let s := s.setOrder o (some { x with
        revoked := true, budget := if x.dispatched.isSome then s.costOf x CostSheet.maxCycles else x.budget })
      (s.modBerth x.hdr.berth fun y => { y with horizon := horizonAfter y.horizon x.booked s.tick }).sayRevoked x

/-- Promises are revoked, and the number is told (17 R379 code 0x09). -/
def State.revoke (os : List Nat) (b : Nat) (s : State) : State :=
  let n := (os.filter fun o => (s.order o).elim false fun x => x.revocable && !x.lastGone).length
  let s := os.foldl (fun s o => s.revokeOne o) s
  if n = 0 then s else s.raiseEvent { code := 0x09, category := 0, die := 0x20, berth := b, detail := n }

/-- Every assured order without a final answer is revoked (04 R97). -/
def State.revokeAll (s : State) : State := s.revoke (tkeys s.orders) 0xFF

/-! ### Dispatch and budgets (04 R95, R96; 06 R160, R161) -/

/-- The bytes of an order record (06 R161). -/
def orderRecord (h : Header) (time : Nat) : List Byte :=
  let win := h.windows.flatMap fun w => bytesOf 8 w.1 ++ bytesOf 4 w.2 ++ bytesOf 4 0
  let ses := h.sessions.flatMap fun k => bytesOf 2 k
  bytesOf 4 h.tag ++ bytesOf 1 h.cls ++ bytesOf 1 h.windows.length ++ bytesOf 2 h.sessions.length ++ bytesOf 4 h.size ++
  bytesOf 1 h.berth ++ bytesOf 3 0 ++ bytesOf 8 h.arrival ++ bytesOf 8 time ++
  win ++ List.replicate (128 - win.length) 0 ++ ses ++ List.replicate (1024 - ses.length) 0 ++ List.replicate 96 0

/-- The order record is written for a context, in a partner's memory by write requests; a place without a writable page
tears the context down (06 R161). -/
def State.writeRecord (k : Nat) (x : Ctx) (h : Header) (time : Nat) (s : State) : State :=
  match s.progOf x with
  | none => s
  | some p =>
    let bs := orderRecord h time
    let ls := (List.range bs.length).map fun i => s.bvaLoc x.berth .store (recordBva p x + i)
    if ls.any fun l => match l with | .nothing => true | _ => false then s.ctxFault k 0x06
    else
      let s := (ls.zip bs).foldl (fun s q => s.deviceWrite k q.1 [q.2]) s
      (List.range (bs.length / 64)).foldl (fun s i =>
        match ls.getD (64 * i) .nothing with
        | .remote p o =>
          let r : XReq := { ctx := k, core := coreSlots, msg := { op := 0x02, addr := o, size := 0, body := (bs.drop (64 * i)).take 64 }, waiter := .record }
          if s.linkUp p then s.sendReq p r
          else if s.crossContinues x then s.noteCrossFault k p
          else s.ctxFault k 0x06
        | _ => s) s

/-- An unrevoked assured order that runs on a context. -/
def State.runsAssured (s : State) (k : Nat) : Bool :=
  ((s.ctx k).bind fun x => x.order.bind s.order).elim false fun x => x.hdr.cls == 0 && !x.revoked && !x.answered

/-- Working cores of a pool that are free of other assured work than a context's (04 R97). -/
def State.freeOfAssured (s : State) (q k : Nat) : Nat :=
  ((s.poolCores q).filter fun i => (s.core i).ctx.elim true fun j => j == k || !s.runsAssured j).length

/-- An order may be dispatched: it is the first bound to its context whose run has not ended, and no unrevoked assured
order of its berth that was admitted before it still waits, if it is assured itself (04 R84, R92).
(DEDUCED, log entry 46.) -/
def State.mayDispatch (s : State) (o : Nat) (x : Order) : Bool :=
  s.running && x.dispatched.isNone && !x.answered && x.causes.isEmpty && ((s.ctx x.ctx).elim false fun c => c.order.isNone) &&
  (s.boundTo x.ctx).head? == some o &&
  !(x.hdr.cls == 0 && !x.revoked && (s.ordersOf x.hdr.berth).any fun p => decide (p < o) && (s.order p).elim false fun y => y.hdr.cls == 0 && !y.revoked)

/-- ORDER_DISPATCH (04 R95, R97; 06 R160, R161): the order's context takes it; the budget starts; an assured order with
too few cores free of other assured work is revoked; the order record is written. -/
def execOrderDispatch (order : Nat) (s : State) : Host.Outcome State Fault Refusal :=
  .next (match s.order order with
    | none => s
    | some x =>
      if !s.mayDispatch order x then s
      else
        let s := s.setOrder order (some { x with dispatched := some s.tick, budget := s.fullBudget x s.tick, spent := [] })
        let s := s.modCtx x.ctx fun c => { c with order := some order, launched := 0, left := [] }
        let g := (s.berth x.hdr.berth).grant
        let s := if x.hdr.cls = 0 ∧ !x.revoked ∧ s.freeOfAssured g.pool x.ctx < ceilDiv g.assured 2 then s.revoke [order] x.hdr.berth else s
        match s.ctx x.ctx with
        | some c => s.writeRecord x.ctx c x.hdr x.time
        | none => s)

/-- The dies that do work for an order: those of its context's cores, and the I/O die that sends its RESULTs (04 R95). -/
def State.budgetDies (s : State) (x : Order) : List Nat :=
  (if x.hdr.port < 32 then 0x20 else 0x21) :: ((s.ctx x.ctx).elim [] fun c => c.cores.map dieOf).dedup

/-- The budget has expired: the first copy has reached zero (04 R95). -/
def State.spentOut (s : State) (x : Order) : Bool := (s.budgetDies x).any fun d => x.copy d == 0

/-- A place of a context where a group is held at a named barrier. -/
def State.barrierPlace (s : State) (x : Ctx) : Option CoreAt :=
  x.cores.findSome? fun i => (List.range 32).findSome? fun g =>
    if ((s.core i).work.group g).elim false fun y => y.heldBy fun h => match h with | .barrier _ => true | .rearrive _ _ => true | _ => false
    then some { core := i, grp := g } else none

/-- BUDGET_EXPIRY (04 R96, 05 R120): the context is torn down; BARRIER_TIMEOUT where a block waited at a named
barrier. -/
def execBudgetExpiry (order : Nat) (s : State) : Host.Outcome State Fault Refusal :=
  .next (match s.order order with
    | none => s
    | some x =>
      if !s.running || x.dispatched.isNone || !s.spentOut x || x.lastGone || x.answered then s
      else
        match s.ctx x.ctx with
        | none => s
        | some c =>
          let held := c.cores.any (fun i => (s.core i).work.atBarrier) || c.saved.any CoreWork.atBarrier
          let s := match (s.barrierPlace c).or (c.cores.head?.map fun i => { core := i, grp := 0 }) with
            | some p => s.recordFault p.core p.grp ((s.groupAt p).elim 0 Group.pc) 0x08
            | none => s
          s.tearDown x.ctx (if held then 8 else 7) 0x08)

/-- COMPLETION_REPORT (04 R86; 00 R10 to R12): the report that the last RESULT has left its port decides COMPLETED or
LATE; LATE of an assured order follows a REVOKED notice. -/
def execCompletionReport (order : Nat) (s : State) : Host.Outcome State Fault Refusal :=
  .next (match s.order order with
    | none => s
    | some x =>
      if !s.running || !x.lastGone || x.answered then s
      else if x.hdr.cls = 2 ∨ s.tick ≤ x.time then s.finalAnswer order 3 s.tick
      else
        let s := if x.hdr.cls = 0 ∧ !x.revoked then s.sayRevoked x else s
        s.finalAnswer order 4 s.tick)

/-! ### Interference index (04 R104, R105) -/

/-- Stalls on the four shared resources in an interval of `a` cycles: values that the model leaves open, at most `a` in all
(DESIGN CHOICE, log entry 9).
(DESIGN CHOICE, log entry 5.) -/
def openStalls (n i a : Nat) : List Nat :=
  let f (j : Nat) := (Config.freeWord n (4 * i + j)).toNat
  let a0 := f 0 % (a + 1)
  let a1 := f 1 % (a - a0 + 1)
  let a2 := f 2 % (a - a0 - a1 + 1)
  [a0, a1, a2, f 3 % (a - a0 - a1 - a2 + 1)]

/-- The figures of an interval (04 R104). -/
def Ifx.close (x : Ifx) (n : Nat) (stalls : List Nat) : Ifx :=
  let a := tget 0 x.ended n
  let x := { x with ended := tset 0 x.ended n 0 }
  if a = 0 then { x with valid := false, index := 0, shares := [0, 0, 0, 0] }
  else
    let f (n : Nat) := min 256 (256 * n / a)
    { x with valid := true, index := f stalls.sum, shares := stalls.map f }

/-- Interval `n` of one berth ends; vector 4 is raised where the index crosses the threshold (04 R105). -/
def State.closeIfx (f n b : Nat) (s : State) : State :=
  let x := (s.berth b).ifx
  let y := x.close n (openStalls f b (tget 0 x.ended n))
  let s := s.modBerth b fun z => { z with ifx := y }
  if x.threshold ≠ 0 ∧ x.threshold < y.index ∧ (x.index ≤ x.threshold ∨ !x.valid) then s.raiseVector b 4 else s

/-- INTERFERENCE_INTERVAL_END (04 R104): the oldest interval that has ended and is not evaluated, each ending at a multiple
of 100,000 ticks. -/
def execInterferenceIntervalEnd (s : State) : Host.Outcome State Fault Refusal :=
  .next (if s.running ∧ s.prf.interval < s.tick / 100000 then
      let f := s.free
      (tkeys s.berths).foldl (fun s b => s.closeIfx f s.prf.interval b) { s with free := f + 1 } |> fun t =>
        { t with prf := { t.prf with interval := s.prf.interval + 1 } }
    else s)

end Sys2Proof.Machine
end

