-- ==== Sys2Proof/Machine/Install.lean ====
section
/-! DEFINITION. Bake images and INSTALL (06 R157, R159, R162, R163). -/

namespace Sys2Proof.Machine

open Sys2Proof

/-- Bytes of an image in a berth's pages; bytes of a partner's memory are what the spec leaves open. -/
def State.imageBytes (s : State) (b bva n : Nat) : List Byte :=
  (List.range n).map fun i =>
    match s.bvaLoc b .load (bva + i) with
    | .mem a => s.byte a
    | _ => Config.freeByte s.free (bva + i)

/-- Every byte of a range lies in a page of the berth that `p` accepts, below the device windows (06 R163). -/
def State.pagesHave (s : State) (b bva n : Nat) (p : Page → Bool) : Bool :=
  s.inPages b bva n && (List.range ((bva + n - 1) / 65536 - bva / 65536 + 1)).all fun i =>
    (pageAt (s.berth b).map ((bva / 65536 + i) * 65536)).elim false fun q => p q.1

/-- A kernel descriptor of 32 bytes (06 R157). -/
def readKernel (d : List Byte) : Kernel :=
  { mode := bf d 0 1, width := bf d 1 1, regs := 8 * bf d 2 1, groups := bf d 3 1, blocks := bf d 4 4, entry := bf d 8 8,
    args := bf d 16 8, reserved := bf d 24 8 }

/-- A launch entry of 8 bytes (06 R160). -/
def readLaunch (d : List Byte) : Launch := { kd := bf d 0 2, wait := bf d 2 1 % 2 == 1, phase := bf d 3 1 }

/-- A quantity of a cost sheet (06 R162). -/
def readQuant (c : List Byte) (off : Nat) : Quant := { base := bf c off 8, per := bf c (off + 8) 8 }

/-- A cost sheet of 720 bytes (06 R162). -/
def readCost (c : List Byte) : CostSheet :=
  { phases := (List.range (bf c 0 1)).map fun i =>
      { issue := readQuant c (80 + 80 * i), width := readQuant c (96 + 80 * i), hbm := readQuant c (112 + 80 * i),
        lpx := readQuant c (128 + 80 * i), dep := readQuant c (144 + 80 * i) },
    crossing := bf c 1 1 == 1, egress := readQuant c 16, ws := readQuant c 32, commit := readQuant c 48,
    maxCycles := readQuant c 64 }

/-- The header of an image within its values (06 R159). -/
def headerLegal (h : List Byte) (len : Nat) : Bool :=
  bf h 0 8 == 0x454B414238385654 && bf h 8 2 == 1 && decide (1 ≤ bf h 10 1) && decide (bf h 10 1 ≤ 31) &&
  decide (1 ≤ bf h 11 1) && decide (bf h 11 1 ≤ 31) && decide (bf h 10 1 + bf h 11 1 ≤ 32) && decide (bf h 12 1 ≤ 1) &&
  decide (1 ≤ bf h 13 1) && decide (bf h 13 1 ≤ 16) && decide (1 ≤ bf h 14 2) && decide (bf h 14 2 ≤ 256) &&
  decide (1 ≤ bf h 16 4) && decide (bf h 16 4 ≤ 4096) && bf h 20 4 == 0 && bf h 24 8 % 32 == 0 && bf h 32 8 % 8 == 0 &&
  bf h 40 8 % 8 == 0 && bf h 48 8 % 64 == 0 && decide (bf h 48 8 < 2 ^ 48) && bf h 56 8 == len && decide (128 ≤ len) &&
  decide (len ≤ 268435456) && bf h 64 64 == 0

/-- The tables lie in the image and overlap neither the header nor one another (06 R163). -/
def tablesApart (h : List Byte) (len : Nat) : Bool :=
  let r : List (Nat × Nat) := [(0, 128), (bf h 24 8, 32 * bf h 16 4), (bf h 32 8, 8 * bf h 14 2), (bf h 40 8, 720)]
  (r.all fun p => decide (p.1 + p.2 ≤ len)) &&
  (List.range 4).all fun i => (List.range i).all fun j =>
    !(meets (r.getD i (0, 0)).1 (r.getD i (0, 0)).2 (r.getD j (0, 0)).1 (r.getD j (0, 0)).2)

/-- The cost sheet in PHASES, CROSSING, its reserved bytes and its zero pairs (06 R163). -/
def costLegal (c : List Byte) : Bool :=
  decide (1 ≤ bf c 0 1) && decide (bf c 0 1 ≤ 8) && decide (bf c 1 1 ≤ 1) && bf c 2 14 == 0 &&
  bf c (80 + 80 * bf c 0 1) (640 - 80 * bf c 0 1) == 0

/-- A bake image that meets 06 R163 becomes a program. -/
def State.bake (s : State) (b bva len : Nat) : Option Program :=
  if bva % 64 ≠ 0 ∨ len < 128 ∨ !s.inPages b bva len then none
  else
    let h := s.imageBytes b bva 128
    if !(headerLegal h len && tablesApart h len) then none
    else
      let kds := (List.range (bf h 16 4)).map fun i => readKernel (s.imageBytes b (bva + bf h 24 8 + 32 * i) 32)
      let raw := (List.range (bf h 14 2)).map fun i => s.imageBytes b (bva + bf h 32 8 + 8 * i) 8
      let c := s.imageBytes b (bva + bf h 40 8) 720
      if costLegal c && (kds.all fun k => k.legal && k.couldFit && s.fetchOk b (BitVec.ofNat 64 k.entry)) &&
         (raw.all fun d => decide (bf d 0 2 < kds.length) && decide (bf d 2 1 ≤ 1) && decide (bf d 3 1 < bf c 0 1) && bf d 4 4 == 0) &&
         s.pagesHave b (bf h 48 8) (bf h 13 1 * 1280) Page.w && decide (bf h 13 1 ≤ (s.berth b).grant.contexts)
      then some { scrBanks := bf h 10 1, cacheBanks := bf h 11 1, crossContinue := bf h 12 1 == 1, ctxLimit := bf h 13 1,
                  kernels := kds, launches := raw.map readLaunch, cost := readCost c, orderArea := bf h 48 8 }
      else none

/-- INSTALL (16 R349, 06 R163): the state and the STATUS; the image is read after the pending reductions (11 R253). -/
def State.install (b p bva len : Nat) (s : State) : State × Nat :=
  let y := s.berth b
  let s := s.settleAll
  if (s.program b p).isSome || decide (256 ≤ (tkeys y.programs).length) then (s, 1)
  else
    match s.bake b bva len with
    | some x => (({ s with free := s.free + 1 } : State).modBerth b fun y => { y with programs := tset none y.programs p (some x) }, 0)
    | none => ({ s with free := s.free + 1 }, 2)

/-- REMOVE (16 R349, 04 R85): the program's idle contexts are released. -/
def State.remove (b p : Nat) (s : State) : State × Nat :=
  if (s.program b p).isNone then (s, 1)
  else if (s.ordersOf b).any fun o => (s.order o).elim false fun x => x.hdr.program == p then (s, 3)
  else
    let s := s.modBerth b fun y => { y with programs := tset none y.programs p none }
    ((s.ctxsOf b).foldl (fun s k =>
      if ((s.ctx k).elim false fun x => x.program == p) && (s.boundTo k).isEmpty && !s.stops k then s.releaseCtx k else s) s, 0)

end Sys2Proof.Machine
end

