-- ==== Sys2Proof/Machine/Transport.lean ====
section
/-! DEFINITION. The berth transport: opening, reliable delivery, tenant messages, events, heartbeats and loss (16 R339 to
R357). -/

namespace Sys2Proof.Machine

open Sys2Proof

/-! ### Reliable delivery (16 R345, R346) -/

/-- The highest SEQ received is below this. -/
def Conn.top (c : Conn) : Nat := c.rxGot.foldl (fun m q => max m (q + 1)) c.rxNext

/-- A SEQ has been received before. -/
def Conn.seen (c : Conn) (q : Nat) : Bool := decide (q < c.rxNext) || c.rxGot.contains q

/-- A SEQ may be accepted (16 R345). -/
def Conn.fresh (c : Conn) (q : Nat) : Bool := decide (c.top ≤ q + 1024) && !c.seen q

/-- The lowest SEQ not received, once those received above it are taken in. -/
def nextFrom : Nat → Nat → List Nat → Nat
  | 0, p, _ => p
  | f + 1, p, got => if got.contains p then nextFrom f (p + 1) got else p

/-- A SEQ is received. -/
def Conn.take (q : Nat) (c : Conn) : Conn :=
  let got := q :: c.rxGot
  let n := nextFrom got.length c.rxNext got
  { c with rxNext := n, rxGot := got.filter fun p => decide (n ≤ p) }

/-- A SEQ may be told in an ACK: it has been received, and it is no WINDOW_WRITE whose bytes a partner still holds (16 R345,
R347). -/
def Conn.told (c : Conn) (q : Nat) : Bool := c.seen q && !(c.windows.any fun w => w.1 == q)

/-- NEXT_SEQ of an ACK: the lowest SEQ that it does not tell. -/
def Conn.nextTold (c : Conn) : Nat := (c.windows.map Prod.fst).foldl min c.rxNext

/-- The most refusals that an ACK has room for (16 R339, R345). -/
def ackRoom (mtu : Nat) (ip6 : Bool) : Nat := (mtu - (if ip6 then 40 else 20) - 8 - 16 - 16 - 24) / 16

/-- The ACK of a session: what it tells, and the refusals among that, the latest that have room (16 R345).
(DESIGN CHOICE, log entry 78.) -/
def Conn.ackBody (c : Conn) (room : Nat) : List Byte :=
  let next := c.nextTold
  let bits := (List.range 64).foldl (fun n i => n + b2n (c.told (next + 1 + i)) * 2 ^ i) 0
  let rs := c.refusals.filter fun r => decide (r.1 < next) || (decide (r.1 ≤ next + 64) && c.told r.1)
  let rs := rs.drop (rs.length - room)
  bytesOf 8 next ++ bytesOf 8 bits ++ bytesOf 2 rs.length ++ bytesOf 6 0 ++
    rs.flatMap fun r => bytesOf 8 r.1 ++ bytesOf 1 r.2 ++ bytesOf 7 0

/-- An ACK is sent on a session (16 R345). -/
def State.sendAck (n : Nat) (s : State) : State :=
  match s.conn n with
  | some c => s.sendPlain n { ty := 0x04, body := c.ackBody (ackRoom (s.iface c.iface).mtu c.ip6) }
  | none => s

/-- A message is refused: its SEQ and REASON are told in its ACK (16 R345). -/
def State.refuseMsg (n q reason : Nat) (s : State) : State :=
  (s.modConn n fun c => { c with refusals := (c.refusals.filter fun r => decide (c.top ≤ r.1 + 1024)) ++ [(q, reason)] }).sendAck n

/-- Messages that wait for room among the unacknowledged are sent (16 R346). -/
def State.drainConn : Nat → Nat → State → State
  | 0, _, s => s
  | k + 1, n, s =>
    match s.conn n with
    | some c =>
      (match c.waiting with
       | m :: r => if c.unacked.length < 4096 then ((s.setConn n (some { c with waiting := r })).sendOn n m).drainConn k n else s
       | [] => s)
    | none => s

/-- A session is gone: what it had not delivered goes to the berth's next carrying session, or waits (16 R354). -/
def State.loseConn (n : Nat) (s : State) : State :=
  match s.conn n with
  | none => s
  | some c => (c.unacked.map Sent.msg ++ c.waiting).foldl (fun s m => s.post n c.berth m) (s.setConn n none)

/-- ETH_AUTH_FAIL counts a packet dropped under 16 R342 or R344. -/
def State.authDrop (i : Nat) (s : State) : State :=
  let d := ioDie i
  s.bump d 0x400008 (fun s => tget 0 s.authFail d) (fun n s => { s with authFail := tset 0 s.authFail d n })

/-- A berth may send and receive on an interface (16 R340). -/
def State.portAllowed (s : State) (b i : Nat) : Bool := bitAt (i / 2) (s.berth b).grant.ports

/-- A packet came by IPv6, or by IPv4 where its port takes that (16 R339). -/
def State.takesIp (s : State) (p : Packet) : Bool := p.ip6 || s.ip4On p.iface

/-- A packet of a live session arrives: VER, CONN and tag, then the port, then its SEQ; an accepted one is handled, and a
duplicate of a reliable message is acknowledged again (16 R340, R342, R345, R354, R355).
(DEDUCED, log entry 50.) -/
def State.receive (p : Packet) (reliable : Bool) (handle : Conn → State → State) (s : State) : State :=
  if !s.ifaceUp p.iface then s
  else if !s.takesIp p then s.dropFrame p.iface
  else
    match (if p.ver = 1 ∧ p.authentic then s.conn p.conn else none) with
    | none => s.authDrop p.iface
    | some c =>
      if !s.portAllowed c.berth p.iface then s.dropFrame p.iface
      else
        let s := s.modConn p.conn fun c => { c with iface := p.iface, peer := p.peer, ip6 := p.ip6, lastAuth := s.tick }
        if c.fresh p.seq then
          handle c ((s.modConn p.conn (Conn.take p.seq)).modIface p.iface fun x => { x with rx := (x.rx + 1) % 2 ^ 64 })
        else if reliable && c.seen p.seq && !(c.windows.any fun w => w.1 == p.seq) then s.sendAck p.conn
        else s

/-! ### Opening and closing (16 R343, R344, R355) -/

/-- The digest register of a berth, as 48 bytes. -/
def Berth.tkeyBytes (y : Berth) : List Byte := (List.range 6).flatMap fun j => bytesOf 8 (tget 0 y.tkey j).toNat

/-- OPEN_RSP without a session. -/
def openFail (status : Nat) : Msg := { ty := 0x02, body := bytesOf 1 status ++ zeros 242 }

/-- Messages that waited for a session of the berth are sent (16 R354). -/
def State.flushOutbox (b : Nat) (s : State) : State :=
  (tget [] s.outbox b).foldl (fun s m => s.post 0 b m) { s with outbox := tset [] s.outbox b [] }

/-- "TV88-B t2d" and "TV88-B d2t" (16 R344). -/
def infoT2d : List Byte := beBytes 10 0x545638382D4220743264
def infoD2t : List Byte := beBytes 10 0x545638382D4220643274

/-- A session is opened: the OK answer, signed by the berth's key over the digest of the whole OPEN_REQ and of the answer up to
the signature, with the berth key's compact chain; its keys are expanded from the shared secret; what waited goes out (16 R343,
R344; 19 R413). -/
def State.openConn (p : Packet) (b : Nat) (s : State) : State :=
  let n := s.nextConn
  let nonceT := cut p.body 8 32
  let r := s.report1 2 (some b) nonceT
  let chain := r.2.compactChain r.1
  let nd := r.2.freeBytes 32
  let e := nd.2.ephemeral
  let head := bytesOf 4 0 ++ bytesOf 4 n ++ bytesOf 8 s.sec.bootId.toNat ++ nd.1 ++ e.2.1
  let req := bytesOf 1 p.ver ++ bytesOf 1 1 ++ bytesOf 2 p.body.length ++ bytesOf 4 p.conn ++ bytesOf 8 p.seq ++ p.body
  let g := e.2.2.sign (s.berthInput b) (sha384 (req ++ btpHeader 2 (243 + chain.length) n 0 ++ head))
  let secret := ecdh e.1 (cut p.body 137 97)
  let c : Conn := { berth := b, iface := p.iface, peer := p.peer, ip6 := p.ip6, lastAuth := s.tick, lastHb := s.tick,
                    rxKey := hkdf (nonceT ++ nd.1) secret infoT2d 32, txKey := hkdf (nonceT ++ nd.1) secret infoD2t 32 }
  let body := head ++ g.1 ++ bytesOf 2 chain.length ++ chain
  (({ g.2 with nextConn := n + 1 } : State).setConn n (some c)).emit n c 0 { ty := 0x02, body := body } |>.flushOutbox b

/-- OPEN_REQ (16 R344): dropped silently where the tenant's key does not prove itself; refused; or answered OK.
(DEDUCED, log entry 50.) -/
def execOpenReq (pkt : Packet) (s : State) : Host.Outcome State Fault Refusal :=
  .next (if !s.ifaceUp pkt.iface then s
    else if !s.takesIp pkt then s.dropFrame pkt.iface
    else
      let b := bf pkt.body 0 1
      let y := s.berth b
      if pkt.ver ≠ 1 ∨ pkt.conn ≠ 0 ∨ pkt.body.length ≠ 330 ∨ sha384 (cut pkt.body 40 97) ≠ y.tkeyBytes ∨ y.tkey.isEmpty ∨
         !pkt.authentic then s.authDrop pkt.iface
      else
        let s := s.modIface pkt.iface fun x => { x with rx := (x.rx + 1) % 2 ^ 64 }
        let fail (st : Nat) := s.emit 0 { iface := pkt.iface, peer := pkt.peer, ip6 := pkt.ip6 } 0 (openFail st)
        if y.state = 0 ∨ y.state = 7 ∨ !s.portAllowed b pkt.iface then fail 1
        else if 16 ≤ (s.connsOf b).length ∨ 1024 ≤ (tkeys s.conns).length then fail 2
        else s.openConn pkt b)

/-- CLOSE from the tenant (16 R355). -/
def execBtpClose (pkt : Packet) (s : State) : Host.Outcome State Fault Refusal :=
  .next (s.receive pkt false fun _ s => s.loseConn pkt.conn)

/-- ACK (16 R345): the packets it tells are delivered; what waited for room is sent.
(DEDUCED, log entry 50.) -/
def execAck (pkt : Packet) (s : State) : Host.Outcome State Fault Refusal :=
  .next (s.receive pkt false fun c s =>
    let next := bf pkt.body 0 8
    let got (q : Nat) : Bool := decide (q < next) || (decide (next < q) && (bf pkt.body 8 8).testBit (q - next - 1))
    if pkt.body.length < 24 then s
    else (s.modConn pkt.conn fun c => { c with unacked := c.unacked.filter fun u => !got u.seq }).drainConn
      c.waiting.length pkt.conn)

/-- The arrival tick of what an interface has received, as the proofer takes it: on a port of XD1 the tick of the forwarded
receipt less 20 (04 R86, 16 R355). -/
def State.arrivalTick (s : State) (iface : Nat) : Nat := if iface / 2 < 32 then s.tick else s.tick - 20

/-- A heartbeat that arrived at a tick is recorded for a berth (03 R71, R72). -/
def State.recordHeartbeat (b t : Nat) (s : State) : State :=
  (s.modBerth b fun y => { y with lastHb := max y.lastHb t, refTick := max y.refTick t, hbSinceReset := true,
                                  admitHold := if y.state = 5 then y.admitHold else false }).gate b

/-- HEARTBEAT of a tenant (16 R355, 03 R71). -/
def execHeartbeat (pkt : Packet) (s : State) : Host.Outcome State Fault Refusal :=
  .next (s.receive pkt false fun c s => s.recordHeartbeat c.berth (s.arrivalTick pkt.iface))

/-! ### WINDOW_WRITE (16 R347) -/

/-- Runs of bytes that are present, with the address of each run's first byte. -/
def runsFrom (a : Nat) : List (Option Byte) → List (Nat × List Byte)
  | [] => []
  | none :: r => runsFrom (a + 1) r
  | some v :: r =>
    match runsFrom (a + 1) r with
    | (b, bs) :: t => if b = a + 1 then (a, v :: bs) :: t else (a, [v]) :: (b, bs) :: t
    | [] => [(a, [v])]

/-- The bytes of a write less those that a later write of the session has already written: writes of one session are
performed in SEQ order (16 R347). -/
def Conn.stillDue (c : Conn) (q bva : Nat) (bs : List Byte) : List (Option Byte) :=
  bs.zipIdx.map fun p =>
    if c.writes.any fun w => decide (q < w.1) && decide (w.2.1 ≤ bva + p.2) && decide (bva + p.2 < w.2.1 + w.2.2) then none
    else some p.1

/-- Pieces of a run that lie in one aligned unit of 64 bytes. -/
def unitPieces (r : Nat × List Byte) : List (Nat × List Byte) :=
  (List.range ((r.1 + r.2.length - 1) / 64 - r.1 / 64 + 1)).map fun i =>
    let lo := max r.1 ((r.1 / 64 + i) * 64)
    (lo, (r.2.drop (lo - r.1)).take ((r.1 / 64 + i + 1) * 64 - lo))

/-- The accepted write is performed: local bytes are written; aperture bytes are sent, and the ACK waits for their
answers (16 R347). -/
def State.windowWrite (n q b : Nat) (c : Conn) (bva : Nat) (bs : List Byte) (s : State) : State :=
  let ps := (runsFrom bva (c.stillDue q bva bs)).flatMap unitPieces |>.map fun p => (s.bvaLoc b .load p.1, p.2)
  let far := ps.filterMap fun p => match p.1 with | .remote o off => some (o, off, p.2) | _ => none
  let s := ps.foldl (fun s p => match p.1 with
    | .mem a => s.deviceWrite noCtx (.mem a) p.2
    | _ => s) s
  let s := s.modConn n fun c => { c with writes := (c.writes.filter fun w => decide (c.top ≤ w.1 + 1024)) ++ [(q, bva, bs.length)] }
  if far.isEmpty then s.sendAck n
  else if far.any fun p => !s.linkUp p.1 then s.refuseMsg n q 4
  else
    far.foldl (fun s p => s.sendReq p.1 { ctx := noCtx, core := coreSlots, msg := wrMsg p.2.1 p.2.2, waiter := .window n q })
      (s.modConn n fun c => { c with windows := c.windows ++ [(q, far.length, false)] })

/-- One request of a WINDOW_WRITE has been answered, or cannot be: once none is open the message is acknowledged, or
refused with CROSSING (16 R347). -/
def State.windowAnswer (n q : Nat) (failed : Bool) (s : State) : State :=
  match s.conn n with
  | none => s
  | some c =>
    match c.windows.find? fun w => w.1 == q with
    | none => s
    | some w =>
      let bad := w.2.2 || failed
      let rest := c.windows.filter fun v => v.1 != q
      if w.2.1 ≤ 1 then
        let s := s.setConn n (some { c with windows := rest })
        if bad then s.refuseMsg n q 4 else s.sendAck n
      else s.setConn n (some { c with windows := rest ++ [(q, w.2.1 - 1, bad)] })

/-- WINDOW_WRITE (16 R347). A body without a data byte is refused with BAD_MESSAGE.
(DEDUCED, log entry 50.) -/
def execWindowWrite (pkt : Packet) (s : State) : Host.Outcome State Fault Refusal :=
  .next (s.receive pkt true fun c s =>
    let bva := bf pkt.body 0 8
    let bs := pkt.body.drop 8
    if pkt.body.length < 9 then s.refuseMsg pkt.conn pkt.seq 3
    else if 2 ^ 48 < bva + bs.length then s.refuseMsg pkt.conn pkt.seq 2
    else if !s.pagesHave c.berth bva bs.length Page.inp then s.refuseMsg pkt.conn pkt.seq 1
    else s.windowWrite pkt.conn pkt.seq c.berth c bva bs)

/-! ### ORDER and CONTROL (16 R348, R349) -/

/-- The header that an ORDER body spells (16 R348). -/
def headerOf (b : List Byte) (berth port conn tick : Nat) : Header :=
  let nw := bf b 2 1
  { berth := berth, named := bf b 0 1, tag := bf b 4 4, cls := bf b 1 1, program := bf b 8 4, size := bf b 12 4,
    windows := (List.range nw).map fun w => (bf b (24 + 16 * w) 8, bf b (32 + 16 * w) 4),
    sessions := (List.range (bf b 20 2)).map fun i => bf b (24 + 16 * nw + 2 * i) 2 % 4096,
    reqSpan := bf b 16 4, arrival := tick, port := port, conn := conn }

/-- ORDER (16 R348): the header goes to the proofer; a body too short is refused with BAD_MESSAGE. -/
def execOrder (pkt : Packet) (s : State) : Host.Outcome State Fault Refusal :=
  .next (s.receive pkt true fun c s =>
    let b := pkt.body
    if b.length < 24 ∨ b.length < 24 + 16 * bf b 2 1 + 2 * bf b 20 2 then s.refuseMsg pkt.conn pkt.seq 3
    else
      ({ s with prf := { s.prf with onWay := s.prf.onWay ++ [headerOf b c.berth (pkt.iface / 2) pkt.conn s.tick] } } : State).sendAck
        pkt.conn)

/-- A CONTROL of a kind: its effect, its ACK and its answer of the same KIND (16 R349). A body that is not 24 bytes long is
refused with BAD_MESSAGE. -/
def controlRow (pkt : Packet) (kind : Nat) (f : Nat → State → State × Nat) (s : State) : State :=
  if bf pkt.body 0 1 ≠ kind then s
  else s.receive pkt true fun c s =>
    if pkt.body.length ≠ 24 then s.refuseMsg pkt.conn pkt.seq 3
    else
      let r := f c.berth s
      (r.1.sendAck pkt.conn).sendOn pkt.conn
        { ty := 0x12, body := bytesOf 1 kind ++ bytesOf 1 r.2 ++ bytesOf 2 0 ++ pkt.body.drop 4 }

/-- EVENT_MASK (16 R349). -/
def execEventMask (pkt : Packet) (s : State) : Host.Outcome State Fault Refusal :=
  .next (controlRow pkt 1 (fun b s => (s.modBerth b fun y => { y with evtMask := BitVec.ofNat 64 (bf pkt.body 8 8) }, 0)) s)
/-- IFX_THRESHOLD (16 R349, 04 R105). -/
def execIfxThreshold (pkt : Packet) (s : State) : Host.Outcome State Fault Refusal :=
  .next (controlRow pkt 2 (fun b s =>
    if 256 < bf pkt.body 8 8 then (s, 1)
    else (s.modBerth b fun y => { y with ifx := { y.ifx with threshold := bf pkt.body 8 8 } }, 0)) s)
/-- INSTALL (16 R349, 06 R163). -/
def execInstall (pkt : Packet) (s : State) : Host.Outcome State Fault Refusal :=
  .next (controlRow pkt 3 (fun b s => s.install b (bf pkt.body 4 4) (bf pkt.body 8 8) (bf pkt.body 16 8)) s)
/-- REMOVE (16 R349, 04 R85). -/
def execRemove (pkt : Packet) (s : State) : Host.Outcome State Fault Refusal :=
  .next (controlRow pkt 4 (fun b s => s.remove b (bf pkt.body 4 4)) s)

/-! ### Device messages and loss (03 R78; 16 R346, R353 to R356) -/

/-- EVENT (03 R78, 16 R353): every pending unmasked vector with its count, on the berth's most recently opened
session. -/
def execEvent (berth : Nat) (s : State) : Host.Outcome State Fault Refusal :=
  let y := s.berth berth
  let vs := below 64 fun v => bitAt v y.evtPend && !bitAt v y.evtMask
  .next (match (if s.running && !vs.isEmpty then (s.connsOf berth).getLast? else none) with
    | none => s
    | some n =>
      (s.setBerth berth { y with
        evtPend := y.evtPend &&& y.evtMask,
        evtCount := vs.foldl (fun t v => tset 0 t v 0) y.evtCount }).sendOn n (eventMsg (vs.map fun v => (v, tget 0 y.evtCount v))))

/-- DEVICE_HEARTBEAT (16 R355): on each live session 1 ms after the one before. -/
def execDeviceHeartbeat (s : State) : Host.Outcome State Fault Refusal :=
  .next (if !s.running then s else
    (tkeys s.conns).foldl (fun s n =>
      match s.conn n with
      | some c =>
        if c.lastHb + 10000 ≤ s.tick then
          (s.setConn n (some { c with lastHb := s.tick })).sendPlain n
            { ty := 0x05, body := bytesOf 8 s.tick ++ bytesOf 1 (s.berth c.berth).state }
        else s
      | none => s) s)

/-- BTP_RESEND (16 R346): 1 ms after its last transmission a packet is sent again byte for byte; after 16 resends the
session is lost. -/
def execBtpResend (conn seq : Nat) (s : State) : Host.Outcome State Fault Refusal :=
  .next (match (if s.running then s.conn conn else none) with
    | none => s
    | some c =>
      match c.unacked.find? fun u => u.seq == seq with
      | none => s
      | some u =>
        if u.since + 10000 ≤ s.tick ∧ (s.iface c.iface).up then
          (if 16 ≤ u.tries then s.loseConn conn
           else (s.modConn conn fun c => { c with unacked := c.unacked.map fun v =>
              if v.seq = seq then { v with since := s.tick, tries := v.tries + 1 } else v }).emit conn c seq u.msg)
        else s)

/-- SESSION_SILENCE_LOSS (16 R355): 10 s without an authenticated packet. -/
def execSessionSilenceLoss (conn : Nat) (s : State) : Host.Outcome State Fault Refusal :=
  .next (match (if s.running then s.conn conn else none) with
    | some c => if c.lastAuth + 100000000 ≤ s.tick then s.loseConn conn else s
    | none => s)

/-- INTERFACE_LINK_CHANGE (16 R356, 15 R320): UP follows the link, which needs the laser of its block; sessions survive. -/
def execInterfaceLinkChange (iface : Nat) (up : Bool) (s : State) : Host.Outcome State Fault Refusal :=
  .next (if s.running && s.hasIface iface && (!up || (s.rst.ready && !s.aon.moored && (s.port (iface / 2)).laserOk)) then
      s.modIface iface fun x => { x with up := up }
    else s)

end Sys2Proof.Machine
end

