-- ==== Sys2Proof/Machine/MatrixOps.lean ====
section
/-! DEFINITION. What the matrix unit computes: operand rows, the summation order, the epilogue, crumbs and tray
summaries (07 R164 to R189, 20 R436 to R438). -/

namespace Sys2Proof.Machine

/-! ### Tiles (07 R165, R167) -/

/-- mma, mout and mclr name a tile; mtsum names none. -/
def namesTile (w : Word) : Bool := opc w != 0xA3

/-- mma and mclr run on the array, mout and mtsum on the epilogue (07 R164). -/
def onArray (w : Word) : Bool := opc w == 0xA0 || opc w == 0xA2

/-- The slots of a tile. -/
def tileSlots (w : Word) : List Nat := if 2048 < fM w * fN w then [fAcc w, fAcc w + 1] else [fAcc w]

def tilesOverlap (a b : Word) : Bool := namesTile a && namesTile b && (tileSlots a).any (tileSlots b).contains

/-- The same base slot and the same shape. -/
def tilesIdentical (a b : Word) : Bool := namesTile a && namesTile b && fAcc a == fAcc b && fld 0 4 a == fld 0 4 b

/-- The entry of element (i, j) of a tile (07 R165). -/
def tileEntry (w : Word) (i j : Nat) : Nat := fAcc w * 2048 + i * fN w + j

/-! ### Operand registers (07 R168, R176, R182) -/

def baseOf (r : Word) : Nat := fld 0 48 r
/-- The distance between rows in bytes. -/
def pitchOf (r : Word) : Nat := fld 48 16 r * 64

/-- The width in bits of an element of a format. -/
def elemBits (code : Nat) : Nat := (fmtOf code).elim 0 Fmt.width

/-- The row length in bytes of an operand of `n` elements (07 R170). -/
def rowBytes (code n : Nat) : Nat := ceilDiv (n * elemBits code) 8 + (if fmtMx code then n / 32 else 0)

/-- A row of elements from a base: alignment and pitch (07 R168, R170). -/
def rowsFormed (r : Word) (len : Nat) : Bool :=
  baseOf r % 64 == 0 && decide (64 ≤ pitchOf r) && decide (len ≤ pitchOf r)

/-- The rows lie wholly in a scratch window of `size` bytes (07 R170, R187). -/
def rowsInside (r : Word) (rows len size : Nat) : Bool :=
  decide (scrBase ≤ baseOf r) && decide (baseOf r + (rows - 1) * pitchOf r + len ≤ scrBase + size)

def mmaK (sC : Word) : Nat := fld 0 15 sC
def topkOf (w : Word) : Bool := bitAt 15 w
def crumbOf (w : Word) : Bool := bitAt 23 w
def eopOf (w : Word) : Nat := fld 13 2 w
def kOf (w : Word) : Nat := fld 16 6 w + 1
/-- Values that mout writes in a row: N, or k (07 R180). -/
def outPerRow (w : Word) : Nat := if topkOf w then kOf w else fN w
/-- The element width of the output. -/
def outBits (w : Word) : Nat := if bitAt 6 w && fFmtB w == 0 then 32 else elemBits (fFmtB w)
/-- The value bytes of an output row. -/
def outValueBytes (w : Word) : Nat := ceilDiv (outPerRow w * outBits w) 8
/-- The row length of the output with top-k positions (07 R180). -/
def outRowBytes (w : Word) : Nat :=
  if topkOf w then ceilDiv (outValueBytes w) 4 * 4 + 4 * kOf w else outValueBytes w
def tsumD (w : Word) : Nat := if bitAt 0 w then 128 else 64
def tsumRows (sC : Word) : Nat := fld 0 13 sC

/-- The checks of the values that a command reads: cause 0x01 before cause 0x06; 0 where they pass (07 R187). `size` is
the scratch window of the core's context. -/
def matrixCause (size : Nat) (w sA sB sC : Word) : Nat :=
  match opc w with
  | 0xA0 =>
    let k := mmaK sC
    let lA := rowBytes (fFmtA w) k
    let lB := rowBytes (fFmtB w) k
    if !(fld 15 49 sC == 0 && k % 32 == 0 && decide (32 ≤ k) && decide (k ≤ 16384) &&
      rowsFormed sA lA && rowsFormed sB lB) then 0x01
    else if !(rowsInside sA (fM w) lA size && rowsInside sB (fN w) lB size) then 0x06 else 0
  | 0xA1 =>
    let lE := rowBytes (fFmtA w) (fN w)
    let reads := topkOf w || crumbOf w
    if !(rowsFormed sA (outRowBytes w) && (eopOf w == 0 || rowsFormed sB lE) &&
      (!reads || ((if crumbOf w then baseOf sC % 64 == 0 else baseOf sC == 0) &&
        (topkOf w || fld 48 16 sC == 0)))) then 0x01
    else if !(eopOf w == 0 || rowsInside sB (fM w) lE size) then 0x06 else 0
  | 0xA3 =>
    let len := rowBytes (fFmtA w) (tsumD w)
    let rows := tsumRows sC
    if !(rowsFormed sA len && baseOf sB % 256 == 0 && fld 48 16 sB == 0 &&
      decide (1 ≤ rows) && decide (rows ≤ 4096) && fld 13 51 sC == 0) then 0x01
    else if !rowsInside sA rows len size then 0x06 else 0
  | _ => 0

/-! ### Reading operand rows -/

/-- A scratch byte as a command reads it: the byte that stands there, or, where a store has changed it since the
command was accepted, the old or the new one for the whole 64-byte unit (07 R186).
(DESIGN CHOICE, log entry 5.)
(DEDUCED, log entry 20.) -/
def readUnit (f : Nat) (old now : Tbl Byte) (key : Nat) : Byte :=
  if tget 0 old key = tget 0 now key then tget 0 now key
  else if Config.freeBit f (key / 64) then tget 0 old key else tget 0 now key

/-- Row `i` of an operand as one number: its bytes, lowest first (08 R193). -/
def rowNumber (rd : Nat → Byte) (rank : Nat) (r : Word) (i len : Nat) : Nat :=
  ofBytes ((List.range len).map fun b => rd (scrKey rank (baseOf r - scrBase + i * pitchOf r + b)))

/-- Element `k` of a row of `n` elements (07 R170, R171). -/
def rowElem (code n row k : Nat) : Num :=
  match fmtOf code with
  | none => .nan
  | some f =>
    let v := f.decode (row / 2 ^ (f.width * k) % 2 ^ f.width)
    if fmtMx code then mxValue (row / 2 ^ (8 * (ceilDiv (n * f.width) 8 + k / 32)) % 256) v else v

/-- Element `k` of a row of an integer format. -/
def rowInt (code row k : Nat) : Int :=
  match fmtOf code with
  | some (.int n lo _ _) =>
    let c := row / 2 ^ (n * k) % 2 ^ n
    if lo < 0 then signed n c else (c : Int)
  | _ => 0

/-! ### mma (07 R172 to R174) -/

/-- One element of a float mma: groups of `G` in ascending K order, one rounding a group. -/
def mmaFloat (acc : Lane) (K G : Nat) (a b : Nat → Num) : Lane :=
  (List.range (K / G)).foldl (fun acc q =>
    f32enc ((List.range G).foldl (fun t k => t.add ((a (q * G + k)).mul (b (q * G + k)))) (f32dec acc))) acc

/-- round_acc of an integer pair (07 R174). -/
def roundInt (sat : Bool) (t : Int) : Lane :=
  BitVec.ofInt 32 (if sat then max (-2147483648) (min 2147483647 t) else t)

/-- One element of an integer mma. -/
def mmaInt (sat : Bool) (acc : Lane) (K G : Nat) (a b : Nat → Int) : Lane :=
  (List.range (K / G)).foldl (fun acc q =>
    roundInt sat ((List.range G).foldl (fun t k => t + a (q * G + k) * b (q * G + k)) acc.toInt)) acc

/-- The accumulator with every element of a tile set. -/
def setTile (w : Word) (f : Nat → Nat → Lane) (acc : Tbl Lane) : Tbl Lane :=
  (List.range (fM w)).foldl (fun t i => (List.range (fN w)).foldl (fun t j => tset 0 t (tileEntry w i j) (f i j)) t) acc

/-- The accumulator after an mma. -/
def mmaTile (rd : Nat → Byte) (rank : Nat) (cmd : MatrixCmd) (acc : Tbl Lane) : Tbl Lane :=
  let w := cmd.w
  let K := mmaK cmd.sC
  let G := 4 * 2 ^ fld 4 2 w
  let rows (code : Nat) (r : Word) (n : Nat) :=
    (List.range n).map fun i => rowNumber rd rank r i (rowBytes code K)
  let A := rows (fFmtA w) cmd.sA (fM w)
  let B := rows (fFmtB w) cmd.sB (fN w)
  setTile w (fun i j =>
    let old : Lane := if bitAt 7 w then 0 else tget 0 acc (tileEntry w i j)
    let a := A.getD i 0
    let b := B.getD j 0
    if isIntClass (fFmtA w) then
      mmaInt (bitAt 6 w) old K G (rowInt (fFmtA w) a) (rowInt (fFmtB w) b)
    else mmaFloat old K G (rowElem (fFmtA w) K a) (rowElem (fFmtB w) K b)) acc

/-! ### mout (07 R176 to R181) -/

/-- Is column `a` ranked before column `b` (07 R179)? -/
def ranksBefore (a b : Num × Nat) : Bool :=
  if a.1.isNan && b.1.isNan then decide (a.2 < b.2)
  else if b.1.isNan then true else if a.1.isNan then false
  else if b.1.lt a.1 then true else if a.1.lt b.1 then false else decide (a.2 < b.2)

/-- The number that a lane of the tile stands for: FP32, or INT32 as its exact integer. -/
def tileNum (int : Bool) (v : Lane) : Num :=
  if int then .fin (decide (v.toInt < 0)) v.toInt.natAbs 0 else f32dec v

/-- v′ of an element (07 R178). -/
def epiValue (eop : Nat) (v : Lane) (e : Num) : Lane :=
  if eop = 0 then v else f32enc (if eop = 1 then (f32dec v).add e else (f32dec v).mul e)

/-- The code that an element is written as (07 R178). -/
def outCode (w : Word) (v : Lane) : Nat :=
  if bitAt 6 w then
    (match fmtOf (fFmtB w) with
     | some (.int n lo hi _) => intCode n lo hi (bitAt 22 w) v.toInt
     | _ => v.toNat)
  else
    match fmtOf (fFmtB w) with
    | some f => f.encode .near (bitAt 22 w) (f32dec v)
    | none => 0

/-- Codes of `n` bits packed as a little-endian bit string (08 R193). -/
def packCodes (n : Nat) (cs : List Nat) : List Byte :=
  bytesOf (ceilDiv (cs.length * n) 8) (cs.foldr (fun c acc => c + 2 ^ n * acc) 0)

/-- Row `i` of the output: its v′ values with their columns, in the order written. -/
def outRow (rd : Nat → Byte) (rank : Nat) (cmd : MatrixCmd) (acc : Tbl Lane) (i : Nat) : List (Lane × Nat) :=
  let w := cmd.w
  let n := fN w
  let e := if eopOf w = 0 then 0 else rowNumber rd rank cmd.sB i (rowBytes (fFmtA w) n)
  let vs := (List.range n).map fun j =>
    (epiValue (eopOf w) (tget 0 acc (tileEntry w i j)) (rowElem (fFmtA w) n e j), j)
  if topkOf w then
    (vs.insertionSort fun a b => ranksBefore (tileNum (bitAt 6 w) a.1, a.2) (tileNum (bitAt 6 w) b.1, b.2)).take (kOf w)
  else vs

/-- The bytes of an output row (07 R180). -/
def outBytes (cmd : MatrixCmd) (row : List (Lane × Nat)) : List Byte :=
  let w := cmd.w
  let vals := packCodes (outBits w) (row.map fun p => outCode w p.1)
  if topkOf w then
    vals ++ List.replicate (ceilDiv vals.length 4 * 4 - vals.length) 0 ++
      row.flatMap fun p => bytesOf 4 (fld 48 16 cmd.sC * 64 + p.2)
  else vals

/-! ### Crumbs (20 R436, R437) -/

/-- CRC-64 of ECMA-182, most significant bit first, initial value 0 (20 R437). -/
def crcBits : Nat → BitVec 64 → BitVec 64
  | 0, c => c
  | n + 1, c => crcBits n (if c.msb then (c <<< 1) ^^^ 0x42F0E1EBA9EA3693 else c <<< 1)
def crc64 (bs : List Byte) : BitVec 64 :=
  bs.foldl (fun c b => crcBits 8 (c ^^^ ((b.setWidth 64 : BitVec 64) <<< 56))) 0

/-- The FP64 format of SUM. -/
def fp64 : FFmt := ⟨11, 52, 1023, .ieee, 0x7FF8000000000000, 0x7FEFFFFFFFFFFFFF, false⟩

/-- −0 below +0 among values that are no NaN (20 R437). -/
def crumbBelow (a b : Num) : Bool := a.lt b || (!b.lt a && a.isZero && a.neg? && !b.neg?)

/-- MIN or MAX of the non-NaN values as FP32 bits. -/
def crumbEdge (isMax : Bool) (vs : List Num) : Nat :=
  match vs.filter fun v => !v.isNan with
  | [] => 0x7FC00000
  | v :: r => (f32enc (r.foldl (fun m x => if (if isMax then crumbBelow m x else crumbBelow x m) then x else m) v)).toNat

/-- A crumb of a float output: its values decoded from the codes written. -/
def crumbFloat (vs : List Num) : Nat × Nat × Nat × Nat × Nat :=
  let sum := (vs.filter fun v => match v with | .fin _ _ _ => true | _ => false).foldl (fun t v => t.add v.dy) ({} : Dy)
  (fp64.encode .near false (sum.num false), crumbEdge false vs, crumbEdge true vs,
   (vs.filter Num.isNan).length, (vs.filter fun v => match v with | .inf _ => true | _ => false).length)

/-- The value of an integer output code. -/
def outInt (w : Word) (c : Nat) : Int :=
  match fmtOf (fFmtB w) with
  | some (.int n lo _ _) => if lo < 0 then signed n c else (c : Int)
  | _ => signed 32 c

/-- A crumb of an integer output. -/
def crumbInt (vs : List Int) : Nat × Nat × Nat :=
  (wrapTo 64 (vs.foldl (· + ·) 0), wrapTo 64 (vs.foldl min (vs.headD 0)), wrapTo 64 (vs.foldl max (vs.headD 0)))

/-- The 64 bytes of a crumb record (20 R436). -/
def crumbBytes (w : Word) (rows : List (List Nat)) : List Byte :=
  let cs := rows.flatten
  let crc := crc64 (rows.flatMap (packCodes (outBits w)))
  let five :=
    if bitAt 6 w then
      let c := crumbInt (cs.map (outInt w))
      (c.1, c.2.1, c.2.2, 0, 0)
    else
      crumbFloat (cs.map fun c => (fmtOf (fFmtB w)).elim .nan fun f => f.decode c)
  bytesOf 8 crc.toNat ++ bytesOf 8 five.1 ++ bytesOf 8 five.2.1 ++ bytesOf 8 five.2.2.1 ++
    bytesOf 4 cs.length ++ bytesOf 4 five.2.2.2.1 ++ bytesOf 4 five.2.2.2.2 ++
    bytesOf 1 (fFmtB w) ++ bytesOf 1 (b2n (bitAt 6 w) + 2 * b2n (topkOf w)) ++
    bytesOf 2 (fM w) ++ bytesOf 2 (outPerRow w) ++ List.replicate 14 0

/-! ### mtsum (07 R182, R183) -/

/-- The larger of two key values, +0 above −0. -/
def keyMax (a b : Num) : Num := if crumbBelow a b then b else a

/-- The BF16 maximum of a set (07 R183). -/
def tsumMax : List Num → Nat
  | [] => 0
  | v :: r => bf16.encode .up false (r.foldl keyMax v)

/-- The BF16 mean of a set (07 R183). -/
def tsumMean (vs : List Num) : Nat :=
  let t := vs.foldl Num.add (.fin true 0 0)
  match t with
  | .fin neg m e =>
    if m = 0 then bf16.signCode neg 0
    else bf16.encode .near false (.fin neg (stickyDiv (m * 2 ^ 40) vs.length) (e - 41))
  | v => bf16.encode .near false v

/-- The 256 bytes of a tray summary (07 R183). -/
def tsumBytes (rd : Nat → Byte) (rank : Nat) (cmd : MatrixCmd) : List Byte :=
  let w := cmd.w
  let d := tsumD w
  let rows := (List.range (tsumRows cmd.sC)).map fun i => rowNumber rd rank cmd.sA i (rowBytes (fFmtA w) d)
  let entry (c : Nat) : List Num :=
    rows.flatMap fun r => (List.range (d / 64)).map fun q => rowElem (fFmtA w) d r (c * (d / 64) + q)
  let sets := (List.range 64).map entry
  sets.flatMap (fun vs => bytesOf 2 (if vs.any Num.isNan then 0x7FC0 else tsumMax vs)) ++
    sets.flatMap (fun vs => bytesOf 2 (if vs.any Num.isNan then 0x7FC0 else tsumMean vs))

/-! ### Writing outputs -/

/-- Bytes cut at 64-byte boundaries, each with its BVA. -/
def unitsOf (bva : Nat) (bs : List Byte) : List (Nat × List Byte) :=
  (chunks 64 (bs.length + 1) bs).zipIdx.map fun p => (bva + p.2 * 64, p.1)

/-- What a command writes to memory, in order: BVA and bytes (07 R180, R181, R183; 20 R438). -/
def matrixWrites (rd : Nat → Byte) (rank : Nat) (cmd : MatrixCmd) (acc : Tbl Lane) : List (Nat × List Byte) :=
  match opc cmd.w with
  | 0xA1 =>
    let rows := (List.range (fM cmd.w)).map (outRow rd rank cmd acc)
    (rows.zipIdx.flatMap fun p => unitsOf (baseOf cmd.sA + p.2 * pitchOf cmd.sA) (outBytes cmd p.1)) ++
      (if crumbOf cmd.w then
        [(baseOf cmd.sC, crumbBytes cmd.w (rows.map fun r => r.map fun p => outCode cmd.w p.1))] else [])
  | 0xA3 => unitsOf (baseOf cmd.sB) (tsumBytes rd rank cmd)
  | _ => []

/-- The name under which the outputs of a group's command are marked until the group has passed the mwait on its token
(07 R186; 11 R254).
(DESIGN CHOICE, log entry 22.) -/
def GroupId.ofToken (id : GroupId) (tok : Nat) : GroupId := { id with block := id.block + 2 ^ 32 * (tok + 1) }

/-- The writes of a command one after another, each as a store of its core; a write whose translation fails, or whose place is
a crossing aperture, ends them, and the bytes before it remain (07 R187). -/
def State.matrixStore (k : Nat) (x : Ctx) (core : Nat) (who : GroupId) : List (Nat × List Byte) → State → State × Bool
  | [], s => (s, true)
  | (bva, bs) :: r, s =>
    match s.engineLoc x (clusterOf core) .store bva with
    | .remote _ _ => (s, false)
    | l =>
      if l.cause .store != 0 then (s, false)
      else
        let s := s.settle [l]
        let m := s.markAt core who bs.length 6 l
        (((s.writeLoc k l bs).dirtyCopy (clusterOf core) l bs.length).afterAccess m.toList).matrixStore k x core who r

end Sys2Proof.Machine
end

