-- ==== Sys2Proof/Machine/SetOps.lean ====
section
/-! DEFINITION. What the set engines compute (14 R302 to R314): the checks of a descriptor, key order, and the ten
operations. -/

namespace Sys2Proof.Machine

/-! ### Descriptor fields (14 R302, R303) -/

def dOp (b : List Byte) : Nat := bf b 0 1
def dFlag (b : List Byte) (i : Nat) : Bool := (bf b 1 1).testBit i
def dKT (b : List Byte) : Nat := bf b 1 1 % 8
def dDesc (b : List Byte) : Bool := dFlag b 3
def dSplit (b : List Byte) : Bool := dFlag b 4
def dVfp (b : List Byte) : Bool := dFlag b 5
def dVsigned (b : List Byte) : Bool := dFlag b 6
def dPay (b : List Byte) : Nat := bf b 2 1
def dRed (b : List Byte) : Nat := bf b 3 1
def dK (b : List Byte) : Nat := bf b 4 4
def dA (b : List Byte) : Nat := bf b 8 8
def dB (b : List Byte) : Nat := bf b 16 8
def dDst (b : List Byte) : Nat := bf b 24 8
def dAN (b : List Byte) : Nat := bf b 32 4
def dBN (b : List Byte) : Nat := bf b 36 4
def dCap (b : List Byte) : Nat := bf b 40 4
def dRow (b : List Byte) : Nat := bf b 44 4
def dAux (b : List Byte) : Nat := bf b 48 8

/-- The key size of a key type; 0 for the illegal codes (14 R303). -/
def keySize : Nat → Nat
  | 0 => 4 | 1 => 4 | 2 => 4 | 3 => 8 | 4 => 8 | 5 => 2 | _ => 0

/-- An element's size (14 R303). -/
def dElem (b : List Byte) : Nat := keySize (dKT b) + dPay b

/-- Ranges of `n` bytes share a byte. -/
def rangesMeet (a n b m : Nat) : Bool := decide (a < b + m) && decide (b < a + n) && decide (0 < n) && decide (0 < m)

/-- Two ranked inputs: MERGE, INTERSECT, UNION. -/
def isMergeOp (op : Nat) : Bool := decide (2 ≤ op) && decide (op ≤ 4)

/-- The runs of a TOPK with SPLIT: first key index and number of keys (14 R309). -/
def splitRuns (b : List Byte) : List (Nat × Nat) :=
  if dRow b = 0 then [(0, dAN b)]
  else (List.range (ceilDiv (dAN b) (dRow b))).map fun r => (r, min (dRow b) (dAN b - r * dRow b))

/-- The DST range in bytes, where the fields fix it.
(DESIGN CHOICE, log entry 35.) -/
def dstBytes (b : List Byte) : Nat :=
  let k := keySize (dKT b)
  match dOp b with
  | 5 => dAN b * dRow b
  | 6 => 0
  | 9 => if dSplit b then (if dPay b = 0 then dK b * k else ceilDiv (dK b * k) (dPay b) * dPay b + dK b * dPay b)
         else dCap b * dElem b
  | 10 => dAN b * dPay b
  | _ => dCap b * dElem b

/-- The input ranges that the fields fix: base and bytes.
(DESIGN CHOICE, log entry 35.) -/
def inRanges (b : List Byte) : List (Nat × Nat) :=
  let k := keySize (dKT b)
  match dOp b with
  | 5 => [(dB b, dAN b * k)]
  | 6 => []
  | 7 => [(dA b, dAN b * k), (dAux b, (dBN b + 1) * k)]
  | 9 => if dSplit b then (splitRuns b).flatMap fun r => [(dA b + r.1 * dAux b, r.2 * k), (dB b + r.1 * dAux b, r.2 * dPay b)]
         else [(dA b, dAN b * dElem b)]
  | 10 => [(dA b, dAN b * k), (dAux b, 2 ^ dK b * (k + dPay b))]
  | 1 => if dDst b = dA b then [] else [(dA b, dAN b * dElem b)]
  | _ => [(dA b, dAN b * dElem b), (dB b, if isMergeOp (dOp b) then dBN b * dElem b else 0)]

/-- Every field within its values (14 R302 to R310, R313). A field that an operation does not use is zero; the reserved bit
FLAGS[7] is ignored (00 R4).
(DESIGN CHOICE, log entry 35.) -/
def descLegal (b : List Byte) : Bool :=
  let op := dOp b
  let k := keySize (dKT b)
  let p := dPay b
  let z (used : Bool) (v : Nat) : Bool := used || v == 0
  let mul := if k = 8 ∨ p = 8 then 8 else 4
  let topSplit := op == 9 && dSplit b
  let redOp := op == 6 || op == 8
  decide (1 ≤ op) && decide (op ≤ 10) && decide (0 < k) &&
  (if op = 5 ∨ op = 6 ∨ op = 7 ∨ op = 10 then dKT b == 0 || dKT b == 3 else dKT b != 5 || topSplit) &&
  (!dDesc b || decide (op ≤ 4) || op == 9) && (!dSplit b || op == 9) &&
  (p == 0 || p == 4 || p == 8) &&
  (match op with
   | 5 => p == 0
   | 6 => if dRed b = 0 then p == 0 else p != 0
   | 7 => p == 0 || p == k
   | 8 => p != 0
   | 10 => p != 0
   | _ => true) &&
  (match op with
   | 6 => decide (dRed b ≤ 3)
   | 8 => decide (1 ≤ dRed b) && decide (dRed b ≤ 3)
   | _ => dRed b == 0) &&
  (!dVfp b || (redOp && dRed b == 1 && p == 4)) && (!dVsigned b || (redOp && decide (2 ≤ dRed b))) &&
  (match op with
   | 9 => decide (1 ≤ dK b) && decide (dK b ≤ 65536)
   | 10 => decide (1 ≤ dK b) && decide (dK b ≤ 30)
   | _ => dK b == 0) &&
  z (isMergeOp op || op == 5 || op == 6 || op == 7 || topSplit) (dB b) &&
  z (isMergeOp op || op == 7) (dBN b) &&
  (if op = 1 then decide (dAN b ≤ dCap b) else if op = 9 then decide (dK b ≤ dCap b)
   else z (isMergeOp op || op == 7 || op == 8) (dCap b)) &&
  (if op = 5 ∨ op = 6 then dRow b % 4 == 0 && decide (4 ≤ dRow b) && decide (dRow b ≤ 65536) && dAux b % 4 == 0
   else z topSplit (dRow b)) &&
  z (op == 1 || op == 5 || op == 6 || op == 7 || topSplit || op == 10) (dAux b) &&
  dA b % mul == 0 && dB b % mul == 0 && dDst b % mul == 0 && (op == 5 || op == 6 || dAux b % mul == 0) &&
  ((inRanges b).all fun r => !rangesMeet (dDst b) (dstBytes b) r.1 r.2) &&
  (op != 1 || !rangesMeet (dDst b) (dstBytes b) (dAux b) (dAN b * dElem b))

/-! ### Key order (14 R304) -/

/-- The key of an element, at the front of its bytes. -/
def keyNum (kt : Nat) (e : List Byte) : Num :=
  let v := ofBytes (e.take (keySize kt))
  let int (i : Int) : Num := .fin (i < 0) i.natAbs 0
  match kt with
  | 1 => int (signed 32 v)
  | 2 => fp32.decode v
  | 4 => int (signed 64 v)
  | 5 => bf16.decode v
  | _ => int v

/-- Key `a` comes strictly before key `b`; NaN follows every number in both orders. -/
def keyBefore (desc : Bool) (a b : Num) : Bool :=
  if a.isNan then false else if b.isNan then true else if desc then b.lt a else a.lt b

/-- Is element `x` ranked strictly before `y`? -/
def elemBefore (kt : Nat) (desc : Bool) (x y : List Byte) : Bool := keyBefore desc (keyNum kt x) (keyNum kt y)

/-- A stable ranking (14 R304). -/
def rankSort (kt : Nat) (desc : Bool) (xs : List (List Byte)) : List (List Byte) :=
  xs.insertionSort fun a b => !elemBefore kt desc b a

/-! ### Two ranked inputs (14 R305, R311, R312) -/

/-- Consuming the head of an input compares it with the next element: out of order stops the operation.
(DEDUCED, log entry 68.) -/
def outOfOrder (before : List Byte → List Byte → Bool) (x : List Byte) (rest : List (List Byte)) : Bool :=
  match rest with
  | [] => false
  | y :: _ => before y x

/-- MERGE, INTERSECT and UNION by two pointers: the elements output, and whether an input was found out of order
(14 R312).
(DEDUCED, log entry 68.) -/
def zipRanked (op : Nat) (before : List Byte → List Byte → Bool) :
    Nat → List (List Byte) → List (List Byte) → List (List Byte) → List (List Byte) × Bool
  | 0, _, _, acc => (acc.reverse, true)
  | n + 1, as, bs, acc =>
    match as, bs with
    | [], [] => (acc.reverse, true)
    | a :: ar, [] =>
      if op = 3 then (acc.reverse, true)
      else if outOfOrder before a ar then ((a :: acc).reverse, false)
      else zipRanked op before n ar [] (a :: acc)
    | [], b :: br =>
      if op = 3 then (acc.reverse, true)
      else if outOfOrder before b br then ((b :: acc).reverse, false)
      else zipRanked op before n [] br (b :: acc)
    | a :: ar, b :: br =>
      if before b a then
        let acc := if op = 3 then acc else b :: acc
        if outOfOrder before b br then (acc.reverse, false) else zipRanked op before n (a :: ar) br acc
      else if before a b then
        let acc := if op = 3 then acc else a :: acc
        if outOfOrder before a ar then (acc.reverse, false) else zipRanked op before n ar (b :: br) acc
      else if op = 2 then
        if outOfOrder before a ar then ((a :: acc).reverse, false) else zipRanked op before n ar (b :: br) (a :: acc)
      else
        let acc := a :: acc
        if outOfOrder before a ar || outOfOrder before b br then (acc.reverse, false)
        else zipRanked op before n ar br acc

/-! ### Reductions (14 R306, R307) -/

/-- The operation of RED on values of `p` bytes. -/
def redOp (b : List Byte) : Rmw :=
  match dRed b with
  | 2 => .min (dVsigned b)
  | 3 => .max (dVsigned b)
  | _ => if dVfp b then .fadd else .add

/-- SEGRED: runs of consecutive equal keys, each its key and its payloads reduced in order (14 R305, R307). -/
def segRed (b : List Byte) : List (List Byte) → List (List Byte)
  | xs => (xs.foldl (fun (acc : List (List Byte × Nat)) e =>
      let k := keySize (dKT b)
      let v := ofBytes (e.drop k)
      match acc with
      | (key, t) :: r =>
        if !elemBefore (dKT b) false key e && !elemBefore (dKT b) false e key
        then (key, rmwVal (dPay b) (redOp b) t v 0) :: r else (e.take k, v) :: (key, t) :: r
      | [] => [(e.take k, v)]) []).reverse.map fun p => p.1 ++ bytesOf (dPay b) p.2

/-! ### Reading -/

/-- Why an operation does not go on: an access that cannot be made, or a unit of a partner that has not come. -/
inductive SetStop where
  | fault (cause : Nat) (at_ : Loc)
  | need (port unit : Nat)
  deriving DecidableEq, Repr

/-- Where a descriptor's address leads: the scratch of its group's cluster, or the map (14 R314). -/
def State.setLoc (s : State) (x : Ctx) (rank : Nat) (acc : Acc) (bva : Nat) : Loc :=
  if 2 ^ 48 ≤ bva then .nothing
  else if scrBase ≤ bva then
    (if bva - scrBase < s.scrBytes x then .scratch (scrKey rank (bva - scrBase)) else .nothing)
  else s.bvaLoc x.berth acc bva

/-- `n` bytes at an address as an engine reads them. -/
def State.setBytes (s : State) (k : Nat) (x : Ctx) (d : Desc) (bva n : Nat) : Except SetStop (List Byte) :=
  let ls := (List.range n).map fun i => s.setLoc x d.rank .load (bva + i)
  match ls.find? fun l => l.cause .load != 0 with
  | some l => .error (.fault (l.cause .load) l)
  | none =>
    match (unitsMissing { got := d.got } 1 ls).head? with
    | some u => .error (.need u.1 u.2)
    | none => .ok (ls.flatMap fun l => s.readLoc k { got := d.got } l 1)

/-- `n` elements of `size` bytes from a base. -/
def State.setElems (s : State) (k : Nat) (x : Ctx) (d : Desc) (base n size : Nat) : Except SetStop (List (List Byte)) :=
  (s.setBytes k x d base (n * size)).map fun bs => (List.range n).map fun i => (bs.drop (i * size)).take size

/-- What an operation does: its writes in order, its row reductions (address, bytes, operand), the count, the status and
the work units. -/
structure SetOut where
  writes : List (Nat × List Byte) := []
  reds : List (Nat × Nat) := []
  count : Nat := 0
  status : Nat := 0
  work : Nat := 0
  deriving DecidableEq, Repr

/-- Elements written one after another, up to DST_CAP (14 R311). -/
def capped (b : List Byte) (out : List (List Byte)) (work : Nat) : SetOut :=
  { writes := [(dDst b, (out.take (dCap b)).flatten)], count := out.length, status := if dCap b < out.length then 0x01 else 0,
    work := work }

/-- The index is all ones in its width (14 R306). -/
def allOnes (k x : Nat) : Bool := x == 2 ^ (8 * k) - 1

/-- NWALK over the frontier: neighbours in order, or BAD_INDEX (14 R308): output elements, and whether it ended early. -/
def State.nwalk (s : State) (k : Nat) (x : Ctx) (d : Desc) (b : List Byte) :
    List Nat → List (List Byte) → Except SetStop (List (List Byte) × Bool)
  | [], acc => .ok (acc, true)
  | v :: vs, acc =>
    let n := keySize (dKT b)
    if dBN b ≤ v then .ok (acc, false)
    else
      match s.setElems k x d (dAux b + v * n) 2 n with
      | .error e => .error e
      | .ok os =>
        let lo := ofBytes (os.getD 0 [])
        let hi := ofBytes (os.getD 1 [])
        if hi < lo then .ok (acc, false)
        else
          match s.setElems k x d (dB b + lo * n) (hi - lo) n with
          | .error e => .error e
          | .ok cs => s.nwalk k x d b vs (acc ++ cs.map fun c => if dPay b = 0 then c else c ++ bytesOf n v)

/-- The hash of a probe key (14 R310). -/
def probeHash (n K x : Nat) : Nat :=
  if n = 4 then x * 0x9E3779B9 % 2 ^ 32 / 2 ^ (32 - K) else x * 0x9E3779B97F4A7C15 % 2 ^ 64 / 2 ^ (64 - K)

/-- A probe from slot `h + j` on: its payload where it hits, and the slots examined (14 R310). -/
def State.probe (s : State) (k : Nat) (x : Ctx) (d : Desc) (b : List Byte) (key h : Nat) :
    Nat → Nat → Except SetStop (Option (List Byte) × Nat)
  | 0, j => .ok (none, j)
  | f + 1, j =>
    let n := keySize (dKT b)
    match s.setBytes k x d (dAux b + (h + j) % 2 ^ dK b * (n + dPay b)) (n + dPay b) with
    | .error e => .error e
    | .ok slot =>
      let q := ofBytes (slot.take n)
      if q = key then .ok (some (slot.drop n), j + 1)
      else if allOnes n q then .ok (none, j + 1)
      else s.probe k x d b key h f (j + 1)

/-- HASH over the probe keys (14 R310). -/
def State.hashGo (s : State) (k : Nat) (x : Ctx) (d : Desc) (b : List Byte) :
    List Nat → SetOut → Except SetStop SetOut
  | [], o => .ok o
  | key :: ks, o =>
    let n := keySize (dKT b)
    let put (v : List Byte) (hit slots : Nat) : SetOut :=
      { o with writes := o.writes ++ [(dDst b + o.writes.length * dPay b, v)], count := o.count + hit, work := o.work + slots }
    let miss := List.replicate (dPay b) (0xFF : Byte)
    if allOnes n key then s.hashGo k x d b ks (put miss 0 0)
    else
      match s.probe k x d b key (probeHash n (dK b) key) (2 ^ dK b) 0 with
      | .error e => .error e
      | .ok (some v, j) => s.hashGo k x d b ks (put v 1 j)
      | .ok (none, j) => s.hashGo k x d b ks (put miss 0 j)

/-- GATHER over the indices (14 R306). -/
def State.gatherGo (s : State) (k : Nat) (x : Ctx) (d : Desc) (b : List Byte) :
    List Nat → Nat → List (Nat × List Byte) → Except SetStop (List (Nat × List Byte))
  | [], _, acc => .ok acc
  | v :: vs, i, acc =>
    let dst := dDst b + i * dRow b
    if allOnes (keySize (dKT b)) v then s.gatherGo k x d b vs (i + 1) (acc ++ [(dst, List.replicate (dRow b) 0)])
    else
      match s.setBytes k x d (addr64' (dA b) v (dAux b)) (dRow b) with
      | .error e => .error e
      | .ok row => s.gatherGo k x d b vs (i + 1) (acc ++ [(dst, row)])
where
  /-- base + index × stride modulo 2^64 -/
  addr64' (base v stride : Nat) : Nat := (base + v * stride) % 2 ^ 64

/-- A SCATTER with these indices writes the 64-byte unit of an address. -/
def scatterHits (b : List Byte) (idx : List Nat) (a : Nat) : Bool :=
  idx.any fun v => !allOnes (keySize (dKT b)) v &&
    rangesMeet ((dDst b + v * dAux b) % 2 ^ 64) (dRow b) (a / 64 * 64) 64

/-- Bytes that a SCATTER reads from an address on: free in the units that it writes (14 R315).
(DESIGN CHOICE, log entry 5.) -/
def scatterRead (f : Nat) (b : List Byte) (idx : List Nat) (a : Nat) (bs : List Byte) : List Byte :=
  bs.zipIdx.map fun p => if scatterHits b idx (a + p.2) then Config.freeByte f (a + p.2) else p.1

/-- The rows of a SCATTER in ascending i: destination and bytes; one whose index is all ones is not accessed (14 R306). `idx`
are the indices as they stand. -/
def State.scatterRows (s : State) (k : Nat) (x : Ctx) (d : Desc) (b : List Byte) (idx : List Nat) :
    Except SetStop (List (Nat × List Byte)) :=
  let n := keySize (dKT b)
  idx.zipIdx.foldlM (fun acc p =>
    let v := ofBytes (scatterRead s.free b idx (dB b + p.2 * n) (bytesOf n p.1))
    if allOnes n v then .ok acc
    else
      let ra := dA b + p.2 * dRow b
      (s.setBytes k x d ra (dRow b)).map fun row =>
        acc ++ [((dDst b + v * dAux b) % 2 ^ 64, scatterRead s.free b idx ra row)]) []

/-- The keys and payloads of a TOPK, run by run with SPLIT (14 R309). -/
def State.topElems (s : State) (k : Nat) (x : Ctx) (d : Desc) (b : List Byte) : Except SetStop (List (List Byte)) :=
  if !dSplit b then s.setElems k x d (dA b) (dAN b) (dElem b)
  else (splitRuns b).foldlM (fun acc r => do
    let ks ← s.setElems k x d (dA b + r.1 * dAux b) r.2 (keySize (dKT b))
    let ps ← s.setElems k x d (dB b + r.1 * dAux b) r.2 (dPay b)
    pure (acc ++ (ks.zip ps).map fun p => p.1 ++ p.2)) []

/-- The layout of a TOPK's output (14 R309). -/
def topWrites (b : List Byte) (xs : List (List Byte)) : List (Nat × List Byte) :=
  if !dSplit b then [(dDst b, xs.flatten)]
  else
    let n := keySize (dKT b)
    let keys := xs.flatMap fun e => e.take n
    let pad := if dPay b = 0 then 0 else ceilDiv keys.length (dPay b) * dPay b - keys.length
    [(dDst b, keys ++ List.replicate pad 0 ++ xs.flatMap fun e => e.drop n)]

/-- What a legal descriptor's operation does (14 R305 to R311). -/
def State.setCompute (s : State) (k : Nat) (x : Ctx) (d : Desc) (b : List Byte) : Except SetStop SetOut :=
  let kt := dKT b
  let n := keySize kt
  let an := dAN b
  if an = 0 then .ok { work := if isMergeOp (dOp b) then dBN b else if dOp b = 9 then dK b else 0 }
  else match dOp b with
  | 1 => (s.setElems k x d (dA b) an (dElem b)).map fun xs =>
      { writes := [(dDst b, (rankSort kt (dDesc b) xs).flatten)], count := an, work := an * (n + 1) }
  | 5 => (s.setElems k x d (dB b) an n) >>= fun ix =>
      (s.gatherGo k x d b (ix.map ofBytes) 0 []).map fun ws => { writes := ws, count := an, work := an * ceilDiv (dRow b) 64 }
  | 6 => (s.setElems k x d (dB b) an n) >>= fun ix =>
      (s.scatterRows k x d b (ix.map ofBytes)).map fun ws =>
        if dRed b = 0 then { writes := ws, count := ws.length, work := an * ceilDiv (dRow b) 64 }
        else
          { reds := ws.flatMap fun w => (List.range (dRow b / dPay b)).map fun j =>
              (w.1 + j * dPay b, ofBytes ((w.2.drop (j * dPay b)).take (dPay b))),
            count := ws.length, work := an * ceilDiv (dRow b) 64 }
  | 7 => (s.setElems k x d (dA b) an n) >>= fun fs =>
      (s.nwalk k x d b (fs.map ofBytes) []).map fun r =>
        let o := capped b r.1 (an + r.1.length)
        if r.2 then o else { o with status := 0x03, count := min r.1.length (dCap b) }
  | 8 => (s.setElems k x d (dA b) an (dElem b)).map fun xs => capped b (segRed b xs) an
  | 9 => (s.topElems k x d b).map fun xs =>
      let top := (rankSort kt (dDesc b) xs).take (dK b)
      { writes := topWrites b top, count := top.length, work := an + dK b }
  | 10 => (s.setElems k x d (dA b) an n) >>= fun ks => s.hashGo k x d b (ks.map ofBytes) { work := an }
  | op => (s.setElems k x d (dA b) an (dElem b)) >>= fun as =>
      (s.setElems k x d (dB b) (dBN b) (dElem b)).map fun bs =>
        let r := zipRanked op (elemBefore kt (dDesc b)) (an + dBN b + 1) as bs []
        let o := capped b r.1 (an + dBN b)
        if r.2 then o else { o with status := 0x02, count := min r.1.length (dCap b) }

end Sys2Proof.Machine
end

