-- ==== Sys2Proof/Machine/SetEngines.lean ====
section
/-! DEFINITION. Submitting, running and completing set-engine descriptors (14 R299 to R301, R311 to R317). -/

namespace Sys2Proof.Machine

open Sys2Proof

def State.engine (s : State) (e : Nat) : SetEng := tget {} s.engines e
def State.modEngine (e : Nat) (f : SetEng → SetEng) (s : State) : State := { s with engines := tmod {} s.engines e f }
def State.desc (s : State) (n : Nat) : Option Desc := s.descs.find? fun d => d.num == n
def State.modDesc (n : Nat) (f : Desc → Desc) (s : State) : State :=
  { s with descs := s.descs.map fun d => if d.num = n then f d else d }
def State.dropDesc (n : Nat) (s : State) : State := { s with descs := s.descs.filter fun d => d.num != n }

/-! ### Writing -/

/-- Bytes cut at multiples of 64 of their address. -/
def splitAt64 (bva : Nat) (bs : List Byte) : List (Nat × List Byte) :=
  let first := 64 - bva % 64
  if bs.length ≤ first then [(bva, bs)]
  else (bva, bs.take first) :: (unitsOf (bva + first) (bs.drop first))

/-- The name under which a descriptor's own accesses are marked: its context, and a number that no group has.
(DESIGN CHOICE, log entry 22.) -/
def Desc.who' (d : Desc) : GroupId := { ctx := d.who.ctx, entry := 65536 + d.num }

/-- An engine writes a piece at a local place, at its home slice (14 R314, 10 R230). -/
def State.setPut (k : Nat) (d : Desc) (l : Loc) (bs : List Byte) (s : State) : State :=
  let s := (s.settle [l]).homeAll true [l]
  let m := s.markAt coreSlots d.who' bs.length 6 l
  (s.writeLoc k l bs).afterAccess m.toList

/-- Bytes written by an engine, unit by unit; the first place that cannot be written ends the writing with its cause.
Bytes of a partner are sent as crossing writes (14 R313, R314). -/
def State.setStore (k : Nat) (x : Ctx) (d : Desc) : List (Nat × List Byte) → State → State × Nat
  | [], s => (s, 0)
  | (bva, bs) :: r, s =>
    if bs.isEmpty then s.setStore k x d r
    else
      match s.setLoc x d.rank .store bva with
      | .remote p off =>
        if s.linkUp p then
          ((s.modDesc d.num fun d => { d with open_ := d.open_ + 1 }).sendReq p
            { ctx := k, core := x.cores.getD d.pos 0, msg := wrMsg off bs, waiter := .engine d.num }).setStore k x d r
        else if s.crossContinues x then (s.noteCrossFault k p).setStore k x d r
        else (s, 0x06)
      | l => if l.cause .store != 0 then (s, l.cause .store) else (s.setPut k d l bs).setStore k x d r

/-- Reductions of a SCATTER, in order of arrival (14 R306, 10 R238). -/
def State.setReds (k : Nat) (x : Ctx) (d : Desc) (n : Nat) (op : Rmw) : List (Nat × Nat) → State → State × Nat
  | [], s => (s, 0)
  | (bva, v) :: r, s =>
    match s.setLoc x d.rank .store bva with
    | .remote p off =>
      if s.linkUp p then
        ((s.modDesc d.num fun d => { d with open_ := d.open_ + 1 }).sendReq p
          { ctx := k, core := x.cores.getD d.pos 0, msg := atmMsg off n op false v 0, waiter := .engine d.num }).setReds k x d n op r
      else if s.crossContinues x then (s.noteCrossFault k p).setReds k x d n op r
      else (s, 0x06)
    | l =>
      if l.cause .store != 0 then (s, l.cause .store)
      else
        let s := (s.settle [l]).homeAll true [l]
        let m := s.markAt coreSlots d.who' n 4 l
        ((s.rmwLoc k n op l v 0).1.afterAccess m.toList).setReds k x d n op r

/-! ### Submitting (14 R299 to R301) -/

/-- The memory-side die that a cluster's half faces, or the next in ascending order that has an engine in service
(14 R301). -/
def State.descDie (s : State) (core : Nat) : Option Nat :=
  let k := dieOf core
  let first := if clusterOf core % 12 < 6 then k % 4 else (k + 1) % 4
  ((List.range 4).map fun i => (first + i) % 4).find? fun m => (List.range 8).any fun e => (s.engine (m * 8 + e)).inService

/-- Descriptors waiting in a die's queue: those of a context that is switched out are saved with it (14 R317, R318). -/
def State.queueDepth (s : State) (md : Nat) : Nat :=
  (s.descs.filter fun d => d.md == md && d.engine.isNone && (s.ctx d.who.ctx).elim false Ctx.switchedIn).length

/-- STATUS, zero bytes and OUT_COUNT are written into a descriptor (14 R302). -/
def statusBytes (status count : Nat) : List Byte := bytesOf 1 status ++ bytesOf 3 0 ++ bytesOf 4 count

/-- A group's SE_DONE rises by one, and a load of SE_WAIT returns once it equals SE_SUBMITTED (14 R299). -/
def Group.descDone (g : Group) : Group :=
  let g := { g with win := { g.win with done := g.win.done + 1 } }
  match g.hold with
  | some (.seWait rd) => if g.win.done = g.win.submitted then (g.setS rd (BitVec.ofNat 64 g.win.done)).goOn else g
  | _ => g

/-- A descriptor is submitted if the group has fewer than 16 outstanding and the queue of its die has room; `none` where
the group must wait (14 R300, R301). With no engine in service it completes at once with NO_ENGINE. -/
def State.submit (c : CoreAt) (k : Nat) (x : Ctx) (v : Word) (s : State) : Option State :=
  match s.groupAt c with
  | none => none
  | some g =>
    if 16 ≤ g.win.submitted - g.win.done then none
    else
      let d : Desc := { num := s.nextDesc, who := s.idAt c, pos := x.cores.findIdx (· == c.core),
                        rank := x.rank (clusterOf c.core), bva := v.toNat }
      let count (s : State) : State := s.modGroup c fun g => { g with win := { g.win with submitted := g.win.submitted + 1 } }
      match s.descDie c.core with
      | some m =>
        if 512 ≤ s.queueDepth m then none
        else
          let s : State := { s with descs := s.descs ++ [{ d with md := m }], nextDesc := s.nextDesc + 1 }
          some (count s)
      | none =>
        let r := s.setStore k x d (splitAt64 (v.toNat + 56) (statusBytes 0x04 0))
        if r.2 != 0 then some (r.1.coreFault c r.2)
        else some ((count r.1).modGroup c Group.descDone)

/-- SE_SUBMIT is written: a release at device scope, then the submission, or the group is held (14 R300, R315). -/
def State.seStore (c : CoreAt) (k : Nat) (x : Ctx) (v : Word) (s : State) : State :=
  match s.submit c k x v with
  | some t => ((t.released (s.idAt c) 4).modGroup c Group.advance).commitPoint c.core
  | none => s.modGroup c fun g => { g with hold := some (.seSubmit v) }

/-- A group held at SE_SUBMIT submits if there is room; its write is a release then (14 R301, R315). -/
def State.submitHeld (c : CoreAt) (s : State) : State :=
  match s.heldGroup c with
  | some (k, x, _, .seSubmit v) =>
    (match s.submit c k x v with
     | some t => ((t.released (s.idAt c) 4).modGroup c Group.goOn).commitPoint c.core
     | none => s)
  | _ => s

/-- Groups held at SE_SUBMIT look again. -/
def State.wakeSubmit (s : State) : State :=
  (tkeys s.cores).foldl (fun s i => (List.range 32).foldl (fun s j => s.submitHeld { core := i, grp := j }) s) s

/-- A load of SE_DONE or SE_WAIT has returned: an acquire of what the completed descriptors wrote (14 R315). -/
def State.seAcquire (c : CoreAt) (s : State) : State := s.acquired c.core (s.idAt c) 4

/-- SE_WAIT is loaded (14 R299). -/
def State.seWaitLoad (c : CoreAt) (rd : Nat) (s : State) : State :=
  s.seAcquire c |>.modGroup c fun g =>
    if g.win.done = g.win.submitted then (g.setS rd (BitVec.ofNat 64 g.win.done)).advance
    else { g with hold := some (.seWait rd) }

/-! ### Starting (14 R300, R313, R317) -/

/-- A fault of a descriptor: recorded at the core of the submitting group; the context is torn down (14 R313). -/
def State.descFault (e : Nat) (d : Desc) (x : Ctx) (cause : Nat) (s : State) : State :=
  let s := s.bump (mdCode (e / 8)) (0x400000 + e % 8 * 65536 + 0x28) (fun s => (s.engine e).faults)
    (fun v s => s.modEngine e fun y => { y with faults := v })
  let i := x.cores.getD d.pos 0
  match s.placeOf d.who with
  | some c => (s.recordFault c.core c.grp ((s.groupAt c).elim 0 Group.pc) cause).tearDownFrom (mdCode (e / 8)) d.who.ctx 7 cause
  | none => (s.recordFault i 0 0 cause).tearDownFrom (mdCode (e / 8)) d.who.ctx 7 cause

/-- The bytes that SORT leaves in its work area are open (DESIGN CHOICE, log entry 5). -/
def workBytes (f n : Nat) : List Byte := (List.range n).map fun i => Config.freeByte f i

/-- Of `n` things, those of a slice that begins with `work` units left: an equal share of what is left; the last slice takes all
(14 R316, R317).
(DESIGN CHOICE, log entry 35.) -/
def sliceShare (work n : Nat) : Nat := ceilDiv n (max 1 (ceilDiv work 256))

/-- A slice of a descriptor's output is written; a place that cannot be written faults (14 R313, R317).
(DESIGN CHOICE, log entry 35.) -/
def State.writeSlice (e : Nat) (d : Desc) (x : Ctx) (s : State) : State :=
  let k := d.who.ctx
  let m := sliceShare d.work d.writes.length
  let n := sliceShare d.work d.reds.length
  let s := s.modDesc d.num fun d => { d with writes := d.writes.drop m, reds := d.reds.drop n }
  let r := s.setStore k x d (d.writes.take m)
  let r := if r.2 = 0 then r.1.setReds k x d d.redBytes d.redOp (d.reds.take n) else r
  if r.2 != 0 then r.1.descFault e d x r.2 else r.1

/-- The pieces that an operation writes, a SORT's work area before its output (14 R305). -/
def outPieces (f : Nat) (b : List Byte) (o : SetOut) : List (Nat × List Byte) :=
  (if dOp b = 1 then splitAt64 (dAux b) (workBytes f (dAN b * dElem b)) else []) ++ o.writes.flatMap fun w => splitAt64 w.1 w.2

/-- A descriptor starts: its inputs are read, and its first slice is written. It waits where bytes of a partner have not come
(14 R314).
(DESIGN CHOICE, log entry 35.) -/
def State.performDesc (e : Nat) (d : Desc) (s : State) : State :=
  let k := d.who.ctx
  match s.ctx k with
  | none => s
  | some x =>
    let ask (p u : Nat) (s : State) : State :=
      if s.linkUp p then
        (s.modDesc d.num fun d => { d with open_ := d.open_ + 1 }).sendReq p
          { ctx := k, core := x.cores.getD d.pos 0, msg := { op := 0x01, addr := u * 64, size := 0 }, waiter := .engine d.num }
      else if s.crossContinues x then
        (s.noteCrossFault k p).modDesc d.num fun d => { d with got := d.got ++ zeroUnits [(p, u)] }
      else s.descFault e d x 0x06
    let stop (v : SetStop) (s : State) : State :=
      match v with
      | .fault c l => (s.countLostReads [l]).descFault e d x c
      | .need p u => ask p u s
    if d.bva % 64 ≠ 0 ∨ 2 ^ 48 ≤ d.bva then s.descFault e d x 0x01
    else
      match s.setBytes k x d d.bva 64 with
      | .error v => stop v s
      | .ok b =>
        if !descLegal b then s.descFault e d x 0x01
        else
          match s.setCompute k x d b with
          | .error v => stop v s
          | .ok o =>
            let d := { d with performed := true, work := o.work, status := o.status, count := o.count,
                              writes := outPieces s.free b o, reds := o.reds, redOp := redOp b, redBytes := dPay b }
            (({ s with free := s.free + 1 } : State).modDesc d.num fun _ => d).writeSlice e d x

/-- The class of a descriptor's context: 0 assured, 1 standard, 2 bulk (14 R316). A revoked order runs as standard work
(04 R98). -/
def State.descClass (s : State) (d : Desc) : Nat :=
  match ((s.ctx d.who.ctx).bind fun x => x.order).bind s.order with
  | some o => if o.hdr.cls = 0 ∧ o.revoked then 1 else o.hdr.cls
  | none => 2

/-- A descriptor may be chosen: no engine runs it, no partner owes it bytes, its context is switched in, and every descriptor that its group
submitted before it has completed (14 R300, R317). -/
def State.mayRun (s : State) (d : Desc) : Bool :=
  d.engine.isNone && (d.performed || d.open_ == 0) && (s.ctx d.who.ctx).elim false Ctx.switchedIn &&
  !(s.descs.any fun q => q.who == d.who && decide (q.num < d.num))

/-- The operation code of a waiting descriptor, where its bytes can be read. -/
def State.opOf (s : State) (d : Desc) : Option Nat :=
  match s.ctx d.who.ctx with
  | none => none
  | some x =>
    match s.setBytes d.who.ctx x d d.bva 64 with
    | .ok b => some (dOp b)
    | .error _ => none

/-- An engine starts, or goes on with, the first waiting descriptor of the highest class on its die whose operation is
`op`; one whose operation cannot be read faults or asks its partner whatever engine meets it (14 R300, R316).
(DESIGN CHOICE, log entry 35.) -/
def State.startDesc (e op : Nat) (s : State) : State :=
  if !s.running || !(s.engine e).inService || (s.descs.any fun d => d.engine == some e) then s
  else
    let c := s.descs.filter fun d => d.md == e / 8 && s.mayRun d && (d.performed || (s.opOf d).elim true fun o => o == op || (o == 0 || decide (10 < o)))
    let best := [0, 1, 2].findSome? fun k => c.find? fun d => s.descClass d == k
    match best with
    | none => s
    | some d =>
      let d := { d with engine := some e, last := e }
      let s := s.modDesc d.num fun _ => d
      (if d.performed then (s.ctx d.who.ctx).elim s fun x => s.writeSlice e d x else s.settleAll.performDesc e d).wakeSubmit

/-- SORT (14 R305). -/
def execSort (engine : Nat) (s : State) : Host.Outcome State Fault Refusal := .next (s.startDesc engine 1)
/-- MERGE (14 R305). -/
def execMerge (engine : Nat) (s : State) : Host.Outcome State Fault Refusal := .next (s.startDesc engine 2)
/-- INTERSECT (14 R305). -/
def execIntersect (engine : Nat) (s : State) : Host.Outcome State Fault Refusal := .next (s.startDesc engine 3)
/-- UNION (14 R305). -/
def execUnion (engine : Nat) (s : State) : Host.Outcome State Fault Refusal := .next (s.startDesc engine 4)
/-- GATHER (14 R306). -/
def execGather (engine : Nat) (s : State) : Host.Outcome State Fault Refusal := .next (s.startDesc engine 5)
/-- SCATTER (14 R306). -/
def execScatter (engine : Nat) (s : State) : Host.Outcome State Fault Refusal := .next (s.startDesc engine 6)
/-- NWALK (14 R308). -/
def execNwalk (engine : Nat) (s : State) : Host.Outcome State Fault Refusal := .next (s.startDesc engine 7)
/-- SEGRED (14 R307). -/
def execSegred (engine : Nat) (s : State) : Host.Outcome State Fault Refusal := .next (s.startDesc engine 8)
/-- TOPK (14 R309). -/
def execTopk (engine : Nat) (s : State) : Host.Outcome State Fault Refusal := .next (s.startDesc engine 9)
/-- HASH (14 R310). -/
def execHash (engine : Nat) (s : State) : Host.Outcome State Fault Refusal := .next (s.startDesc engine 10)

/-! ### Ending (14 R311, R316) -/

/-- DESCRIPTOR_SLICE_END (14 R316): 256 units of the running descriptor are done and the engine chooses anew; the
descriptor goes on when an engine chooses it again. -/
def execDescriptorSliceEnd (engine : Nat) (s : State) : Host.Outcome State Fault Refusal :=
  .next (match s.descs.find? fun d => d.engine == some engine with
    | some d =>
      if s.running && d.performed && decide (256 < d.work) then
        (s.modDesc d.num fun d => { d with work := d.work - 256, engine := none }).modEngine engine fun e =>
          { e with units := (e.units + 256) % 2 ^ 64 }
      else s
    | none => s)

/-- DESCRIPTOR_COMPLETE (14 R311): the last slice has ended and every write is performed; STATUS and OUT_COUNT are
written and SE_DONE rises. -/
def execDescriptorComplete (engine : Nat) (s : State) : Host.Outcome State Fault Refusal :=
  .next (match s.descs.find? fun d => d.engine == some engine with
    | some d =>
      if s.running && d.performed && decide (d.work ≤ 256) && d.open_ == 0 then
        match s.ctx d.who.ctx with
        | none => s.dropDesc d.num
        | some x =>
          let r := s.setStore d.who.ctx x d (splitAt64 (d.bva + 56) (statusBytes d.status d.count))
          if r.2 != 0 then r.1.descFault engine d x r.2
          else
            let s := (r.1.dropDesc d.num).modEngine engine fun e =>
              { e with units := (e.units + d.work) % 2 ^ 64, done := (e.done + 1) % 2 ^ 64 }
            let s := if d.status = 0 then s else
              s.bump (mdCode (engine / 8)) (0x400000 + engine % 8 * 65536 + 0x20) (fun s => (s.engine engine).statusErr)
                (fun v s => s.modEngine engine fun y => { y with statusErr := v })
            let s := (s.released d.who' 4).modById d.who Group.descDone
            ((s.placeOf d.who).elim s fun c => s.seAcquire c).wakeSubmit
      else s
    | none => s)

end Sys2Proof.Machine
end

