-- ==== Sys2Proof/Machine/Results.lean ====
section
/-! DEFINITION. Results: the result control window and the RESULT packets (16 R351, R352, R354). -/

namespace Sys2Proof.Machine

open Sys2Proof

def State.modSend (n : Nat) (f : Send → Send) (s : State) : State :=
  { s with sends := s.sends.map fun d => if d.num = n then f d else d }

/-- RES_CMD within its values, with the words that it uses (16 R351). -/
def resLegal (g : Group) (v : Word) : Bool :=
  (v == 1 || v == 2) && decide (g.win.resLen.toNat ≤ 67108864) && decide (g.win.resBase.toNat < 2 ^ 48)

/-- A send is handed to the I/O engine; an empty range is read at once, and an empty send that is not the last makes no
packet (16 R351, R352).
(DESIGN CHOICE, log entry 39.) -/
def State.resStart (c : CoreAt) (x : Ctx) (g : Group) (v : Word) (s : State) : State :=
  let len := g.win.resLen.toNat
  let s := match x.order with
    | some o => if len = 0 ∧ v = 1 then s else s.handSend o (some (s.idAt c)) g.win.resBase.toNat len (v == 2)
    | none => s
  s.modGroup c fun g => { g with win := { g.win with resLast := len, resUnread := decide (0 < len) } }

/-- A write of RES_CMD by a group that the previous send does not hold: a fault, or the send (16 R351, R352). -/
def State.resCommand (c : CoreAt) (x : Ctx) (v : Word) (s : State) : Option State :=
  match s.groupAt c with
  | none => none
  | some g =>
    if !resLegal g v || ((x.order.bind s.order).elim false Order.lastMade) then none
    else some (s.resStart c x g v)

/-- A store to a word of the result control window (16 R351); RES_CMD acts as a release at device scope and is followed
by a commit point (17 R364). -/
def State.resStore (c : CoreAt) (x : Ctx) (off : Nat) (v : Word) (s : State) : State :=
  let go (f : Windows → Windows) := s.modGroup c fun g => ({ g with win := f g.win }).advance
  match off with
  | 0x00 => go fun w => { w with resBase := v }
  | 0x08 => go fun w => { w with resLen := v }
  | 0x10 =>
    if (s.groupAt c).elim false fun g => resLegal g v && g.win.resUnread && !((x.order.bind s.order).elim false Order.lastMade) then
      (s.modGroup c fun g => { g with hold := some (.resCmd v) }).commitPoint c.core
    else
      match s.resCommand c x v with
      | none => s.coreFault c 0x01
      | some t => ((t.released (s.idAt c) 4).modGroup c Group.advance).commitPoint c.core
  | _ => go id

/-- A load of RES_WAIT (16 R351). -/
def State.resWaitLoad (c : CoreAt) (rd : Nat) (s : State) : State :=
  s.modGroup c fun g =>
    if g.win.resUnread then { g with hold := some (.resWait rd) }
    else (g.setS rd (BitVec.ofNat 64 g.win.resLast)).advance

/-- A RES_CMD held behind the previous send is carried out once that send has been read; it is a release then
(16 R351). -/
def State.resHeld (c : CoreAt) (s : State) : State :=
  match s.heldGroup c with
  | some (_, x, g, .resCmd v) =>
    if g.win.resUnread then s
    else
      match s.resCommand c x v with
      | none => s.coreFault c 0x01
      | some t => ((t.released (s.idAt c) 4).modGroup c Group.goOn).commitPoint c.core
  | _ => s

/-- The range of a group's send has been read: RES_WAIT returns and a held RES_CMD goes on (16 R351). -/
def Group.resRead (g : Group) : Group :=
  let g := { g with win := { g.win with resUnread := false } }
  match g.hold with
  | some (.resWait rd) => (g.setS rd (BitVec.ofNat 64 g.win.resLast)).goOn
  | _ => g

/-- The most data bytes of one RESULT packet: the interface's MTU less the IP and UDP headers, the BTP header and tag, and
the fields before the data (16 R339, R341, R352; log entry 21). -/
def resultRoom (mtu : Nat) (ip6 : Bool) : Nat := mtu - (if ip6 then 40 else 20) - 8 - 16 - 16 - 16

/-- The send whose next packet a berth transmits: the first of its sends with a live carrying session that has room
and whose interface is up (16 R346, R352, R354). -/
def State.nextSend (s : State) (b : Nat) : Option (Send × Order × Nat × Conn) :=
  s.sends.findSome? fun d =>
    match s.order d.order with
    | none => none
    | some o =>
      if o.hdr.berth = b ∧ 0 < o.copy (if o.hdr.port < 32 then 0x20 else 0x21) then
        match s.carrier o.hdr.conn b with
        | some n =>
          match s.conn n with
          | some c => if c.unacked.length < 4096 ∧ (s.iface c.iface).up then some (d, o, n, c) else none
          | none => none
        | none => none
      else none

/-- A fault of the I/O engine that reads a result range (16 R352, 17 R371). -/
def State.resultFault (d : Send) (o : Order) (cause : Nat) (s : State) : State :=
  match d.who.bind s.placeOf with
  | some c => s.coreFault c cause
  | none => s.ctxFault o.ctx cause

/-- RESULT (16 R352): the next packet of a berth's results leaves; its bytes are read here, and the bytes of a partner
are asked for first.
(DESIGN CHOICE, log entry 21.) -/
def execResult (berth : Nat) (s : State) : Host.Outcome State Fault Refusal :=
  .next (if !s.running then s else
    match s.nextSend berth with
    | none => s
    | some (d, o, n, c) =>
      let s := s.settleAll
      let m := min (d.len - d.gone) (resultRoom (s.iface c.iface).mtu c.ip6)
      let ls := (List.range m).map fun i =>
        let a := d.base + d.gone + i
        if 2 ^ 48 ≤ a then .nothing else s.bvaLoc berth .load a
      let cause := locsCause .load ls
      let miss := unitsMissing { got := d.got } 1 ls
      if cause != 0 then (s.countLostReads ls).resultFault d o cause
      else if !miss.isEmpty then
        if 0 < d.open_ then s
        else
          match s.ctx o.ctx with
          | none => s
          | some x =>
            match miss.find? fun u => !s.linkUp u.1 with
            | some u =>
              if s.crossContinues x then
                (s.noteCrossFault o.ctx u.1).modSend d.num fun d => { d with got := d.got ++ zeroUnits (miss.filter fun v => !s.linkUp v.1) }
              else s.resultFault d o 0x06
            | none =>
              miss.foldl (fun s u => s.sendReq u.1 { ctx := o.ctx, core := coreSlots, msg := { op := 0x01, addr := u.2 * 64, size := 0 }, waiter := .result d.num })
                (s.modSend d.num fun d => { d with open_ := miss.length })
      else
        let data := ls.flatMap fun l => s.readLoc o.ctx { got := d.got } l 1
        let done := decide (d.len ≤ d.gone + m)
        let last := done && d.last
        let s := (s.homeAll false ls).sendOn n (resultMsg o.hdr.tag (d.off + d.gone) last data)
        let s := if last then s.modOrder d.order fun o => { o with lastGone := true } else s
        if done then
          let s : State := { s with sends := s.sends.filter fun e => e.num != d.num }
          match d.who with
          | none => s
          | some id =>
            let s := s.modById id Group.resRead
            match s.placeOf id with
            | some c => s.resHeld c
            | none => s
        else s.modSend d.num fun d => { d with gone := d.gone + m, got := [] })

end Sys2Proof.Machine
end

