-- ==== Sys2Proof/Machine/Streams.lean ====
section
/-! DEFINITION. The run-ahead fetcher (09 R209 to R222): descriptors, entries, credits and multicast. -/

namespace Sys2Proof.Machine

open Sys2Proof

/-! ### Descriptor fields (09 R211) -/

/-- `n` bytes of a descriptor of words from an offset. -/
def descField (d : Tbl Word) (off n : Nat) : Nat := fld (off % 8 * 8) (n * 8) (tget 0 d (off / 8))
def Stream.f (t : Stream) (off n : Nat) : Nat := descField t.latched off n
def Stream.ty (t : Stream) : Nat := t.f 0 1
def Stream.mc (t : Stream) : Bool := t.f 1 1 % 2 == 1
def Stream.mask (t : Stream) : Nat := t.f 2 2
def Stream.units (t : Stream) : Nat := t.f 4 2
def Stream.ring (t : Stream) : Nat := t.f 6 2
def Stream.dist (t : Stream) : Nat := t.f 8 2
def Stream.ringBase (t : Stream) : Nat := t.f 12 4
def Stream.count (t : Stream) : Nat := t.f 16 4
def Stream.src (t : Stream) : Nat := t.f 24 8

/-- Every field within its values, on a core that is cluster `n` of its die, with `size` bytes of scratch; reserved fields are
ignored (09 R211, 00 R4).
(DEDUCED, log entry 36.) -/
def streamLegal (n size : Nat) (t : Stream) : Bool :=
  let ty := t.ty
  let z (off len : Nat) : Bool := t.f off len == 0
  decide (ty ≤ 4) &&
  (if t.mc then decide (t.mask < 4096) && t.mask.testBit n else t.mask == 0) &&
  decide (1 ≤ t.units) && decide (t.units ≤ 1024) && decide (1 ≤ t.ring) && decide (t.ring ≤ 4096) &&
  decide (1 ≤ t.dist) && decide (t.dist ≤ t.ring) && t.ringBase % 64 == 0 && decide (1 ≤ t.count) &&
  decide (t.ringBase + t.ring * t.units * 64 ≤ size) &&
  (if ty = 3 ∨ ty = 4 then t.src == 0 else t.src % 64 == 0 && decide (t.src < 2 ^ 48)) &&
  (match ty with
   | 0 => t.f 32 8 % 64 == 0
   | 1 => t.f 32 8 % 64 == 0 && t.f 40 8 % 64 == 0 && t.f 48 8 % 64 == 0 && decide (1 ≤ t.f 56 4) &&
       decide (1 ≤ t.f 60 2) && decide (t.f 60 2 ≤ 1024) && t.units % t.f 60 2 == 0
   | 2 => decide (t.f 40 1 ≤ 1) && t.f 32 8 % (if t.f 40 1 = 0 then 4 else 8) == 0 && t.f 48 8 % 64 == 0
   | 3 => decide (t.f 32 2 < 4096) && t.f 36 4 % 64 == 0 && decide (t.f 36 4 + t.units * 64 ≤ 65536) && t.f 40 8 % 4 == 0
   | _ => z 32 8 && z 40 8 && z 48 8 && z 56 8) &&
  (!t.mc || decide (ty ≤ 3))

def CoreWork.stream (w : CoreWork) (n : Nat) : Stream := tget {} w.streams n
def CoreWork.setStream (n : Nat) (t : Stream) (w : CoreWork) : CoreWork := { w with streams := tset {} w.streams n t }
def State.stream (s : State) (i n : Nat) : Stream := (s.core i).work.stream n
def State.setStream (i n : Nat) (t : Stream) (s : State) : State := s.modWork i (CoreWork.setStream n t)
def State.modStream (i n : Nat) (f : Stream → Stream) (s : State) : State := s.setStream i n (f (s.stream i n))

/-- A load of WAIT can return (09 R216). -/
def Stream.waitOver (t : Stream) : Bool := decide (t.returned < t.produced) || t.state != 1

/-- The groups of a core that a slot's WAIT holds go on once it can return. -/
def CoreWork.wakeStream (n : Nat) (w : CoreWork) : CoreWork :=
  let t := w.stream n
  if t.waitOver then
    w.modAll fun g => match g.hold with
      | some (.stream m rd) => if m = n then (g.setS rd (BitVec.ofNat 64 t.produced)).goOn else g
      | _ => g
  else w

/-- A fault of a unit of a core that no instruction raises: recorded with PC 0, and the context is torn down (09 R211,
R218).
(DEDUCED, log entry 24.) -/
def State.unitFault (i cause : Nat) (s : State) : State :=
  match (s.core i).ctx with
  | some k => (s.recordFault i 0 0 cause).tearDownFrom (dieOf i) k 7 cause
  | none => s

/-- The core slots that a multicast reaches besides the leader's: in each target cluster the core with the leader's
index; none where the cluster has no such core (09 R220). -/
def State.mcTargets (s : State) (i : Nat) (mask : Nat) : List (Option Nat) :=
  ((List.range 12).filter fun n => mask.testBit n && n != clusterOf i % 12).map fun n =>
    let base := dieOf i * 108 + n * 9
    ((List.range 9).map (base + ·)).find? fun j => (s.core j).bound == (s.core i).bound

/-- START: the descriptor is latched; the slot runs, waits for followers, or is armed as one (09 R217, R220). -/
def Stream.started (t : Stream) : Stream :=
  { desc := t.desc, latched := t.desc,
    state := if descField t.desc 0 1 = 4 then 5 else if descField t.desc 1 1 % 2 = 1 then 4 else 1 }

/-- STOP of one slot: no further entries, and those in flight are discarded (09 R217).
(DEDUCED, log entry 36.) -/
def Stream.stopped (t : Stream) : Stream := { t with state := 3, flight := [], complete := [], leader := none, members := [] }

/-- The followers of a leader: those that run with it, or, while it waits, the slots armed in its target clusters
(09 R220, R222). -/
def State.followers (s : State) (i n : Nat) : List Nat :=
  let t := s.stream i n
  if t.state = 4 then
    ((s.mcTargets i t.mask).filterMap id).filter fun j => (s.stream j n).state == 5 && (s.core j).ctx == (s.core i).ctx
  else t.members

/-- The leader of a slot: its own, the one that runs it, or the one that waits for it (09 R220, R222). -/
def State.leaderOf (s : State) (i n : Nat) : Nat :=
  let t := s.stream i n
  match t.leader with
  | some j => j
  | none =>
    if t.state = 5 then
      ((List.range 108).map (dieOf i * 108 + ·)).find? (fun j => (s.stream j n).state == 4 && (s.followers j n).contains i) |>.getD i
    else i

/-- The requests of a slot's entries in flight are for nobody any more; those not sent are not sent (09 R217). -/
def State.dropEntries (i n : Nat) (s : State) : State :=
  match (s.core i).ctx.bind fun k => (s.ctx k).map fun x => (k, x.cores.findIdx (· == i)) with
  | none => s
  | some (k, pos) =>
    let mine (r : XReq) : Bool := match r.waiter with
      | .stream k' p m _ _ => k' == k && p == pos && m == n
      | _ => false
    (tkeys s.ports).foldl (fun s p => s.modPort p fun y =>
      { y with waitq := y.waitq.filter fun r => !mine r,
               outbound := y.outbound.map fun r => if mine r then { r with waiter := .none } else r }) s

/-- A STOP written to any member of a multicast stops its leader and every follower (09 R222). -/
def State.stopStream (i n : Nat) (s : State) : State :=
  let lead := s.leaderOf i n
  let all := (i :: lead :: s.followers lead n).dedup
  all.foldl (fun s j => ((s.dropEntries j n).modStream j n Stream.stopped).modWork j (CoreWork.wakeStream n)) s

/-- START is written (09 R211, R217): an error, or the slot starts. -/
def State.startStream (c : CoreAt) (n : Nat) (x : Ctx) (s : State) : State :=
  let t := s.stream c.core n
  if t.state = 1 ∨ t.state = 4 ∨ t.state = 5 ∨ !streamLegal (clusterOf c.core % 12) (s.scrBytes x) t.started
  then s.coreFault c 0x01
  else s.setStream c.core n t.started

/-- The smallest RETURNED of a multicast's members (09 R221). -/
def State.leastReturned (s : State) (i n : Nat) : Nat :=
  (s.stream i n).members.foldl (fun r j => min r (s.stream j n).returned) (s.stream i n).returned

/-- A place in the leader's own scratch or through the map, for an index or a list element (09 R212). -/
def State.indexLoc (s : State) (x : Ctx) (i bva : Nat) : Loc :=
  if 2 ^ 48 ≤ bva then .nothing else s.engineLoc x (clusterOf i) .load bva

/-- A place that an entry is read from: never the device window region (09 R210, R212). -/
def State.sourceLoc (s : State) (b bva : Nat) : Loc := if 2 ^ 48 ≤ bva then .nothing else s.bvaLoc b .load bva

/-- Addresses are summed modulo 2^64 (09 R212). -/
def addr64 (a b : Nat) : Nat := (a + b) % 2 ^ 64

/-- The pieces of entry `e`: BVA and length, with `x` the index or the tray's frame (09 R212). -/
def Stream.pieces (t : Stream) (e x : Nat) : List (Nat × Nat) :=
  let len := t.units * 64
  match t.ty with
  | 0 => [(addr64 t.src (e * t.f 32 8), len)]
  | 1 =>
    let tx := e % t.f 56 4
    let ty := e / t.f 56 4
    let rows := t.f 60 2
    (List.range rows).map fun r =>
      (addr64 t.src (tx * t.f 40 8 + ty * t.f 48 8 + r * t.f 32 8), len / rows)
  | 2 => [(addr64 t.src (x * t.f 48 8), len)]
  | _ => [(x * 65536 + t.f 36 4, len)]

/-- The 64-byte units of an entry in order, by BVA. -/
def Stream.unitsOf (t : Stream) (e x : Nat) : List Nat :=
  (t.pieces e x).flatMap fun p => (List.range (p.2 / 64)).map fun u => addr64 p.1 (u * 64)

/-- Where the index of entry `e` stands and its width, for gathers and tray walks (09 R212). -/
def Stream.indexAt (t : Stream) (e : Nat) : Option (Nat × Nat) :=
  match t.ty with
  | 2 => let n := if t.f 40 1 = 0 then 4 else 8
         some (addr64 (t.f 32 8) (e * n), n)
  | 3 => some (addr64 (t.f 40 8) (e * 4), 4)
  | _ => none

/-- Requests for the units of a partner that an entry needs. -/
def State.streamAsk (k i pos n e : Nat) (us : List (Loc × Nat)) (s : State) : State :=
  us.foldl (fun s u => match u.1 with
    | .remote p off => s.sendReq p { ctx := k, core := i, msg := { op := 0x01, addr := off / 64 * 64, size := 0 }, waiter := .stream k pos n e u.2 }
    | _ => s) s

/-- The crossing fault of an engine: the context is torn down, or the fault is noted and the bytes are zero (21 R462). -/
def State.crossFaultCore (i k : Nat) (x : Ctx) (p : Nat) (s : State) : State :=
  if s.crossContinues x then s.noteCrossFault k p else s.unitFault i 0x06

/-- The source of an entry is read: zero bytes, or its units (09 R212, R213, R218). `x0` is the index read, `rack` the rack of a
tray walk's session as the entry began (13 R292).
(DEDUCED, log entry 36.) -/
def State.streamRead (i n e x0 : Nat) (rack : List Nat) (s : State) : State :=
  match s.liveCore i with
  | none => s
  | some (k, x) =>
    let t := s.stream i n
    let len := t.units * 64
    let land (d : List Byte) (wait : Nat) (s : State) : State :=
      s.modStream i n fun t => { t with flight := (t.flight.filter fun f => f.entry != e) ++ [{ entry := e, data := d, wait := wait }] }
    let zero := land (List.replicate len 0) 0
    if t.ty = 2 ∧ x0 = 2 ^ (if t.f 40 1 = 0 then 32 else 64) - 1 then zero s
    else if t.ty = 3 ∧ x0 = 2 ^ 32 - 1 then zero s
    else if t.ty = 3 ∧ rack.length ≤ x0 then
      let s := s.bump (dieOf i) (0x100000 + clusterOf i % 12 * 65536 + 0x50)
        (fun s => (s.cluster (clusterOf i)).trayMiss) (fun v s => s.modCluster (clusterOf i) fun c => { c with trayMiss := v })
      zero s
    else
      let ix := if t.ty = 3 then rack.getD x0 0 else x0
      let us := (t.unitsOf e ix).zipIdx.map fun u => (s.sourceLoc x.berth u.1, u.2 * 64)
      let cause := locsCause .load (us.map Prod.fst)
      let s := (s.settle (us.map Prod.fst)).homeAll false (us.map Prod.fst)
      if cause != 0 then (s.countLostReads (us.map Prod.fst)).unitFault i cause
      else
        let down := us.find? fun u => match u.1 with | .remote p _ => !s.linkUp p | _ => false
        let bytes := us.flatMap fun u => s.readLoc k {} u.1 64
        let asks := us.filter fun u => match u.1 with | .remote p _ => s.linkUp p | _ => false
        let go (s : State) := (land bytes asks.length s).streamAsk k i (x.cores.findIdx (· == i)) n e asks
        match down with
        | some (.remote p _, _) => if s.crossContinues x then go (s.noteCrossFault k p) else s.unitFault i 0x06
        | _ => go s

/-- STREAM_ENTRY_BEGIN (09 R214, R221): the next entry in order, once every member has room for it. A tray walk of a
session that is not the berth's is a source fault (R213). -/
def execStreamEntryBegin (core slot : Nat) (s : State) : Host.Outcome State Fault Refusal :=
  .next (match s.liveCore core with
    | none => s
    | some (k, x) =>
      let t := s.stream core slot
      if slot < 16 ∧ t.state = 1 ∧ t.leader.isNone ∧ t.begun < t.count ∧ t.begun < s.leastReturned core slot + t.dist then
        let e := t.begun
        let sess := tget {} s.sessions (t.f 32 2)
        let s := s.settleAll.modStream core slot fun t => { t with begun := e + 1 }
        if t.ty = 3 ∧ (sess.state = 0 ∨ sess.berth ≠ x.berth) then s.unitFault core 0x06
        else
          match t.indexAt e with
          | none => s.streamRead core slot e 0 sess.rack
          | some (a, n) =>
            let l := s.indexLoc x core a
            if l.cause .load != 0 then (s.countLostReads [l]).unitFault core (l.cause .load)
            else
              match l with
              | .remote p off =>
                if s.linkUp p then
                  (s.modStream core slot fun t => { t with flight := t.flight ++ [{ entry := e, wait := 1, index := true, rack := sess.rack }] }).streamAsk
                    k core (x.cores.findIdx (· == core)) slot e [(.remote p off, off % 64)]
                else if s.crossContinues x then (s.noteCrossFault k p).streamRead core slot e 0 sess.rack
                else s.unitFault core 0x06
              | l => s.streamRead core slot e (ofBytes (s.readLoc k {} l n)) sess.rack
      else s)

/-- PRODUCED: every entry below it is fully written (09 R214). -/
def producedFrom : Nat → Nat → List Nat → Nat
  | 0, p, _ => p
  | f + 1, p, done => if done.contains p then producedFrom f (p + 1) done else p

/-- A member counts an entry that has been written to its ring; a stream that is done leaves its multicast (09 R214, R217, R220,
R222). -/
def Stream.counted (t : Stream) (e total : Nat) : Stream :=
  let done := t.complete ++ [e]
  let p := producedFrom (done.length + 1) t.produced done
  { t with produced := p, complete := done.filter fun q => decide (p ≤ q),
           state := if t.state = 1 ∧ total ≤ p then 2 else t.state,
           leader := if total ≤ p then none else t.leader, members := if total ≤ p then [] else t.members }

/-- FOLLOWERS_ARMED (09 R220): once every follower is armed, the leader checks them and the multicast runs. -/
def execFollowersArmed (core slot : Nat) (s : State) : Host.Outcome State Fault Refusal :=
  .next (match s.liveCore core with
    | none => s
    | some (k, _) =>
      let t := s.stream core slot
      if slot < 16 ∧ t.state = 4 then
        let ts := s.mcTargets core t.mask
        if ts.any fun j => j.elim true fun j => (s.core j).ctx != some k then s.unitFault core 0x01
        else
          let js := ts.filterMap id
          if js.all fun j => (s.stream j slot).state == 5 then
            if js.all fun j =>
              let u := s.stream j slot
              u.units == t.units && u.ring == t.ring && u.ringBase == t.ringBase
            then
              js.foldl (fun s j => s.modStream j slot fun u => { u with state := 1, leader := some core })
                (s.modStream core slot fun t => { t with state := 1, members := js })
            else s.unitFault core 0x01
          else s
      else s)

/-! ### The stream control window (09 R209) -/

/-- What a load of a word of a slot returns; WAIT is read elsewhere; `none` where no word stands. -/
def Stream.word (t : Stream) (off : Nat) : Option Word :=
  if off % 8 ≠ 0 then none
  else if off < 0x40 then some (tget 0 t.desc (off / 8))
  else match off with
    | 0x40 => some 0
    | 0x48 => some (BitVec.ofNat 64 t.produced)
    | 0x50 => some 0
    | 0x58 => some (BitVec.ofNat 64 t.produced)
    | 0x60 => some (BitVec.ofNat 64 (t.state + t.err * 256))
    | _ => none

/-- A store to a word of slot `n`; the group has not gone on yet (09 R209, R215, R217). -/
def State.streamStore (c : CoreAt) (x : Ctx) (n off : Nat) (v : Word) (s : State) : State :=
  let go (s : State) := s.modGroup c Group.advance
  if off < 0x40 then go (s.modStream c.core n fun t => { t with desc := tset 0 t.desc (off / 8) v })
  else match off with
    | 0x40 =>
      if v = 1 then (((s.startStream c n x).released (s.idAt c) 4).modGroup c Group.advance).commitPoint c.core
      else if v = 2 then (go (s.stopStream c.core n)).commitPoint c.core
      else s.coreFault c 0x01
    | 0x50 =>
      let t := s.stream c.core n
      if t.produced < t.returned + v.toNat then s.coreFault c 0x01
      else (go ((s.setStream c.core n { t with returned := t.returned + v.toNat }).modWork c.core (CoreWork.wakeStream n))).commitPoint c.core
    | _ => go s

/-- A load of WAIT: the group is held until it can return (09 R216). -/
def State.streamWait (c : CoreAt) (n rd : Nat) (s : State) : State :=
  (s.modGroup c fun g => { g with hold := some (.stream n rd) }).modWork c.core (CoreWork.wakeStream n)

end Sys2Proof.Machine
end

