-- ==== Sys2Proof/Machine/Window.lean ====
section
/-! DEFINITION. Scalar loads and stores (06 R144), the device window region (09 R209, R210; 20 R442; 21 R463), and the
rows of the window operations: streams, pins, sessions, set engines, results and crossing status. -/

namespace Sys2Proof.Machine

open Sys2Proof

/-- A word of a control window (09 R210). -/
inductive Win where
  | stream (slot off : Nat)
  | cache (off : Nat)
  | session (off : Nat)
  | set (off : Nat)
  | result (off : Nat)
  | debug (off : Nat)
  | cross (off : Nat)
  deriving DecidableEq, Repr

/-- The listed word at a BVA of the device window region, if one stands there (09 R209, R210). -/
def winAt (a : Nat) : Option Win :=
  let page := a / 4096
  let off := a % 4096
  if off % 8 ≠ 0 then none
  else if page = 0xFFFFFF9FF then (if off % 256 ≤ 0x60 then some (.stream (off / 256) (off % 256)) else none)
  else if page = 0xFFFFFF9FE then (if off < 0x20 then some (.cache off) else none)
  else if page = 0xFFFFFF9FD then (if off < 0x30 then some (.session off) else none)
  else if page = 0xFFFFFF9FC then (if off < 0x20 then some (.set off) else none)
  else if page = 0xFFFFFF9FB then (if off < 0x20 then some (.result off) else none)
  else if page = 0xFFFFFF9FA then (if off < 0x20 then some (.debug off) else none)
  else if page = 0xFFFFFF9F9 then (if off < 0x10 then some (.cross off) else none)
  else none

/-- A scalar register gets a value and the group goes on. -/
def State.giveS (c : CoreAt) (rd : Nat) (v : Word) (s : State) : State := s.modGroup c fun g => (g.setS rd v).advance

/-- A word of the tenant debug window (20 R442). -/
def debugWord (s : State) (x : Ctx) (off : Nat) : Word :=
  if !s.tenantDebug x.berth then 0
  else match off with
    | 0x00 => x.dumpBase
    | 0x08 => x.dumpLen
    | 0x10 => BitVec.ofNat 64 x.ctxCycles
    | _ => BitVec.ofNat 64 x.ctxStall

/-- CROSS_STATUS (21 R463). -/
def crossStatus (x : Ctx) : Word :=
  match x.crossFault with
  | none => 0
  | some p => BitVec.ofNat 64 (1 + p * 256)

/-- A load of a window word into a scalar register (09 R209, R216; 10 R242; 13 R293; 14 R299; 16 R351; 20 R442; 21
R463). Words written with WO read zero. -/
def State.winLoad (c : CoreAt) (x : Ctx) (g : Group) (rd : Nat) (w : Win) (s : State) : State :=
  match w with
  | .stream n 0x58 => s.streamWait c n rd
  | .stream n off => s.giveS c rd (((s.stream c.core n).word off).getD 0)
  | .cache 0x00 => s.giveS c rd g.win.pinBase
  | .cache 0x08 => s.giveS c rd g.win.pinLen
  | .cache 0x18 => s.pinResultLoad c rd
  | .cache _ => s.giveS c rd 0
  | .session 0x00 => s.giveS c rd g.win.arg0
  | .session 0x08 => s.giveS c rd g.win.arg1
  | .session 0x18 => s.sesLoad c false rd
  | .session 0x20 => s.sesLoad c true rd
  | .session _ => s.giveS c rd 0
  | .set 0x08 => s.giveS c rd (BitVec.ofNat 64 g.win.submitted)
  | .set 0x10 => (s.seAcquire c).giveS c rd (BitVec.ofNat 64 g.win.done)
  | .set 0x18 => s.seWaitLoad c rd
  | .set _ => s.giveS c rd 0
  | .result 0x00 => s.giveS c rd g.win.resBase
  | .result 0x08 => s.giveS c rd g.win.resLen
  | .result 0x18 => s.resWaitLoad c rd
  | .result _ => s.giveS c rd 0
  | .debug off => s.giveS c rd (debugWord s x off)
  | .cross 0x00 => s.giveS c rd (crossStatus x)
  | .cross _ => s.giveS c rd 0

/-- A store to a word of the tenant debug window (20 R442). -/
def State.debugStore (c : CoreAt) (k : Nat) (x : Ctx) (off : Nat) (v : Word) (s : State) : State :=
  let s := s.modGroup c Group.advance
  if !s.tenantDebug x.berth then s
  else match off with
    | 0x00 => s.modCtx k fun x => { x with dumpBase := v }
    | 0x08 => s.modCtx k fun x => { x with dumpLen := v }
    | _ => s

/-- CROSS_CLEAR: writing 1 clears FAULT and the port field (21 R463). -/
def State.crossClear (c : CoreAt) (k : Nat) (v : Word) (s : State) : State :=
  (s.modCtx k fun x => if v = 1 then { x with crossFault := none } else x).modGroup c Group.advance

/-- A store to a window word; writes to RO words are ignored (09 R209). -/
def State.winStore (c : CoreAt) (k : Nat) (x : Ctx) (v : Word) (w : Win) (s : State) : State :=
  match w with
  | .stream n off => s.streamStore c x n off v
  | .cache off => s.pinStore c off v
  | .session off => s.sesStore c x off v
  | .set 0x00 => s.seStore c k x v
  | .set _ => s.modGroup c Group.advance
  | .result off => s.resStore c x off v
  | .debug off => s.debugStore c k x off v
  | .cross 0x08 => s.crossClear c k v
  | .cross _ => s.modGroup c Group.advance

/-- An access that the windows accept: SIZE 3, ORD 0, SCOPE 0 (09 R209). -/
def winAccess (w : Word) : Bool := fSize w == 3 && fOrd w == 0 && fScope w == 0

/-- The BVA lies among the control windows of the device window region, not in the scratch window (09 R210). -/
def inWindows (a : Nat) : Bool := decide (deviceRegion ≤ a) && decide (a < scrBase)

/-- sld (06 R144). -/
def scLoad (c : CoreAt) (w : Word) (s : State) : State :=
  issue c w (fun k x g s =>
    let a := scAddr g w
    let n := accBytes w
    if addrCause n [a] != 0 then s.coreFault c (addrCause n [a])
    else if inWindows a.toNat then
      match (if winAccess w then winAt a.toNat else none) with
      | some v => s.winLoad c x g (fVD w) v
      | none => s.coreFault c 0x06
    else
      let l := s.engineLoc x (clusterOf c.core) .load a.toNat
      (s.settle [l]).groupRead c w k x g n [l] (fun g rd =>
        (g.setS (fVD w) (BitVec.ofNat 64 (extend n 64 (fSX w) (ofBytes (rd l))))).advance)) s

/-- sst (06 R144); a release at crossing scope first waits for the partners' acknowledgements (11 R254). -/
def scStore (c : CoreAt) (w : Word) (s : State) : State :=
  issue c w (fun k x g s =>
    if fOrd w == 2 && fScope w == 5 && s.groupRemote c then s.holdFence c w
    else
      let a := scAddr g w
      let n := accBytes w
      let v := g.sreg (fVB w)
      if addrCause n [a] != 0 then s.coreFault c (addrCause n [a])
      else if inWindows a.toNat then
        match (if winAccess w then winAt a.toNat else none) with
        | some u => s.winStore c k x v u
        | none => s.coreFault c 0x06
      else
        let l := s.engineLoc x (clusterOf c.core) .store a.toNat
        if l.cause .store != 0 then s.coreFault c (l.cause .store)
        else
          let id := s.idAt c
          let s := (if fOrd w == 2 then s.released id (fScope w) else s).settle [l]
          let ms := (s.markAt c.core id n 6 l).toList
          let s := ((s.groupWrite c k x l (bytesOf n v.toNat)).afterAccess ms).modGroup c Group.advance
          if fOrd w == 2 && scopeCommits (fScope w) then s.commitPoint c.core else s) s

/-- SLD (06 R144). -/
def execSld (c : CoreAt) (w : Rest) (s : State) : Host.Outcome State Fault Refusal := .next (scLoad c (wordOf 0x72 w) s)

/-- SST (06 R144). -/
def execSst (c : CoreAt) (w : Rest) (s : State) : Host.Outcome State Fault Refusal := .next (scStore c (wordOf 0x73 w) s)

/-! ### The rows of the windows -/

/-- The window operation of the group at a place, where it may issue. -/
def windowRow (c : CoreAt) (f : Nat → Ctx → Group → State → State) (s : State) : State :=
  match s.runGroup c with
  | some (k, x, g) => f k x g s
  | none => s

/-- STREAM_START: CTL takes 1 (09 R217). -/
def execStreamStart (c : CoreAt) (slot : Nat) (s : State) : Host.Outcome State Fault Refusal :=
  .next (windowRow c (fun k x _ s => if slot < 16 then s.winStore c k x 1 (.stream slot 0x40) else s) s)
/-- STREAM_STOP: CTL takes 2 (09 R217).
(DEDUCED, log entry 36.) -/
def execStreamStop (c : CoreAt) (slot : Nat) (s : State) : Host.Outcome State Fault Refusal :=
  .next (windowRow c (fun k x _ s => if slot < 16 then s.winStore c k x 2 (.stream slot 0x40) else s) s)
/-- CREDIT takes n (09 R215). -/
def execCredit (c : CoreAt) (slot : Nat) (n : Word) (s : State) : Host.Outcome State Fault Refusal :=
  .next (windowRow c (fun k x _ s => if slot < 16 then s.winStore c k x n (.stream slot 0x50) else s) s)
/-- WAIT is loaded (09 R216). -/
def execWait (c : CoreAt) (slot rd : Nat) (s : State) : Host.Outcome State Fault Refusal :=
  .next (windowRow c (fun _ x g s => if slot < 16 ∧ rd < 64 then s.winLoad c x g rd (.stream slot 0x58) else s) s)
/-- PIN_RESULT is loaded (10 R242). -/
def execPinResult (c : CoreAt) (rd : Nat) (s : State) : Host.Outcome State Fault Refusal :=
  .next (windowRow c (fun _ x g s => if rd < 64 then s.winLoad c x g rd (.cache 0x18) else s) s)
/-- SES_RESULT is loaded (13 R293). -/
def execSesResult (c : CoreAt) (rd : Nat) (s : State) : Host.Outcome State Fault Refusal :=
  .next (windowRow c (fun _ x g s => if rd < 64 then s.winLoad c x g rd (.session 0x18) else s) s)
/-- SES_RET is loaded (13 R293). -/
def execSesRet (c : CoreAt) (rd : Nat) (s : State) : Host.Outcome State Fault Refusal :=
  .next (windowRow c (fun _ x g s => if rd < 64 then s.winLoad c x g rd (.session 0x20) else s) s)
/-- SE_SUBMIT is written (14 R300). -/
def execSeSubmit (c : CoreAt) (bva : Word) (s : State) : Host.Outcome State Fault Refusal :=
  .next (windowRow c (fun k x _ s => s.winStore c k x bva (.set 0x00)) s)
/-- SE_WAIT is loaded (14 R299). -/
def execSeWait (c : CoreAt) (rd : Nat) (s : State) : Host.Outcome State Fault Refusal :=
  .next (windowRow c (fun _ x g s => if rd < 64 then s.winLoad c x g rd (.set 0x18) else s) s)
/-- RES_SEND: RES_CMD takes 1 (16 R351). -/
def execResSend (c : CoreAt) (s : State) : Host.Outcome State Fault Refusal :=
  .next (windowRow c (fun k x _ s => s.winStore c k x 1 (.result 0x10)) s)
/-- RES_SEND_LAST: RES_CMD takes 2 (16 R351, R352). -/
def execResSendLast (c : CoreAt) (s : State) : Host.Outcome State Fault Refusal :=
  .next (windowRow c (fun k x _ s => s.winStore c k x 2 (.result 0x10)) s)
/-- RES_WAIT is loaded (16 R351). -/
def execResWait (c : CoreAt) (rd : Nat) (s : State) : Host.Outcome State Fault Refusal :=
  .next (windowRow c (fun _ x g s => if rd < 64 then s.winLoad c x g rd (.result 0x18) else s) s)
/-- CROSS_CLEAR is written (21 R463). -/
def execCrossClear (c : CoreAt) (v : Word) (s : State) : Host.Outcome State Fault Refusal :=
  .next (windowRow c (fun k x _ s => s.winStore c k x v (.cross 0x08)) s)

end Sys2Proof.Machine
end

