-- ==== Sys2Proof/Machine/Deliver.lean ====
section
/-! DEFINITION. What the answer of a partner, a FAULT response or a crossing fault does to whoever asked (15 R329, R331,
R335; 21 R462; 11 R254, R259). -/

namespace Sys2Proof.Machine

/-! ### Groups -/

/-- A group waits for a response that its instruction needs. -/
def State.awaits (s : State) (id : GroupId) : Bool :=
  (s.openReqs id.ctx).any fun r =>
    match r.waiter with
    | .group d hold _ => hold && d == id
    | _ => false

/-- The instruction that holds a group goes on: loads read again with all bytes at hand, releases look again, and an
atomic writes the values found (15 R331, 11 R254). -/
def State.rerun (c : CoreAt) (w : Word) (s : State) : State :=
  let s' := s.modGroup c fun g => { g with hold := none }
  match opc w with
  | 0x70 => loadForm c w s'
  | 0x71 => storeForm c w s'
  | 0x72 => scLoad c w s'
  | 0x73 => scStore c w s'
  | 0xB4 => fenceForm c w s'
  | _ => (s'.modGroup c fun g => { (g.setFound w (g.spread w (atomOp w) g.rem.vals)).advance with rem := {} }).commitPoint c.core

/-- A group looks again whether all that holds it has been answered. -/
def State.groupAnswered (id : GroupId) (s : State) : State :=
  match s.placeOf id with
  | none => s
  | some c =>
    match (s.groupAt c).bind Group.hold with
    | some (.remote w) => if s.awaits id then s else s.rerun c w
    | some (.fence w) => if s.groupRemote c then s else s.rerun c w
    | _ => s

/-- What holds a group is looked at again: answers, a command that the group's previous one held, room in a queue. -/
def State.lookAgain (c : CoreAt) (s : State) : State :=
  match s.heldGroup c with
  | some (_, _, _, .remote _) => s.groupAnswered (s.idAt c)
  | some (_, _, _, .fence _) => s.groupAnswered (s.idAt c)
  | some (_, _, _, .sesCmd _) => s.sesHeld c
  | some (_, _, _, .resCmd _) => s.resHeld c
  | some (_, _, _, .seSubmit _) => s.submitHeld c
  | _ => s

/-- The bytes or the value that a response brings to a group. -/
def Group.gets (g : Group) (p : Nat) (r : XReq) (lane : Nat) (data : List Byte) : Group :=
  if r.msg.op = 0x01 then { g with rem := { g.rem with got := g.rem.got ++ [(p * apSize / 64 + r.msg.addr / 64, data)] } }
  else { g with rem := { g.rem with vals := g.rem.vals ++ [(lane, ofBytes (data.take (if r.msg.size = 2 then 4 else 8)))] } }

/-! ### Other engines -/

/-- A unit of a fetcher's entry arrives: its place in the entry, or the index that the entry is read by (09 R212,
R214). -/
def State.streamGot (i slot e off : Nat) (data : List Byte) (s : State) : State :=
  let t := s.stream i slot
  match t.flight.find? fun f => f.entry == e with
  | none => s
  | some f =>
    if f.index then s.streamRead i slot e (ofBytes ((data.drop off).take ((t.indexAt e).elim 4 Prod.snd))) f.rack
    else s.modStream i slot fun t => { t with flight := t.flight.map fun f =>
      if f.entry = e then { f with data := f.data.take off ++ data ++ f.data.drop (off + 64), wait := f.wait - 1 } else f }

/-- A set engine gets a unit, or one of its writes is acknowledged; with nothing open it goes on (14 R314). -/
def State.engineGot (n p : Nat) (r : XReq) (data : List Byte) (s : State) : State :=
  let s := s.modDesc n fun d =>
    { d with open_ := d.open_ - 1, got := if r.msg.op = 0x01 then d.got ++ [(p * apSize / 64 + r.msg.addr / 64, data)] else d.got }
  match s.desc n with
  | some d =>
    (match d.engine with
     | some e => if d.open_ = 0 ∧ ¬ d.performed then s.performDesc e d else s
     | none => s)
  | none => s

/-- The answer of a request reaches whoever waits for it: `data` is the read data or the value found (15 R331). -/
def State.deliver (p : Nat) (r : XReq) (data : List Byte) (s : State) : State :=
  match r.waiter with
  | .group id hold lane =>
    (if hold then s.modById id fun g => g.gets p r lane data else s).groupAnswered id
  | .stream k pos slot e off =>
    (match s.ctx k with
     | some x => s.streamGot (x.cores.getD pos 0) slot e off data
     | none => s)
  | .engine n => s.engineGot n p r data
  | .result n => s.modSend n fun d =>
      { d with open_ := d.open_ - 1, got := d.got ++ [(p * apSize / 64 + r.msg.addr / 64, data)] }
  | .window c q => s.windowAnswer c q false
  | .record => s
  | .step b n => s.stepGot b n p (r.msg.addr / 64) data
  | .none => s

/-! ### Faults -/

/-- The context of whoever waits for a request is torn down with cause 0x06; a WINDOW_WRITE is refused with CROSSING (15
R335, 16 R347, 21 R462). -/
def State.faultWaiter (r : XReq) (s : State) : State :=
  match r.waiter with
  | .group id _ _ =>
    (match s.placeOf id with
     | some c => s.coreFault c 0x06
     | none => s.ctxFault id.ctx 0x06)
  | .stream k pos _ _ _ =>
    (match s.ctx k with
     | some x => if x.switchedIn then s.unitFault (x.cores.getD pos 0) 0x06 else s.ctxFault k 0x06
     | none => s)
  | .engine n =>
    (match s.desc n with
     | some d =>
       (match s.ctx d.who.ctx with
        | some x => s.descFault d.last d x 0x06
        | none => s)
     | none => s)
  | .result n =>
    (match s.sends.find? fun d => d.num == n with
     | some d =>
       (match s.order d.order with
        | some o => s.resultFault d o 0x06
        | none => s)
     | none => s)
  | .window c q => s.windowAnswer c q true
  | .record => s.ctxFault r.ctx 0x06
  | .step b n =>
    s.stepLost b n
  | .none => s

/-- What an access affected by a crossing fault returns under the continue policy: zero bytes (21 R462). -/
def XMsg.zeroAnswer (m : XMsg) : List Byte := List.replicate (if m.op = 0x01 then (if m.size = 1 then 128 else 64) else 8) 0

/-- The lanes that an atomic of a held group stands for all find zero (21 R462). -/
def Group.zeroLanes (lane : Nat) (g : Group) : Group :=
  match g.hold with
  | some (.remote w) =>
    { g with rem := { g.rem with vals := g.rem.vals ++ (g.lanes.filter fun t => laneAddr g w t == laneAddr g w lane).map fun t => (t, 0) } }
  | _ => g

/-- A request completes with a crossing fault: under the policy of its context, on the device or delivered at resume
(15 R329, 04 R103, 21 R462). -/
def State.crossFaultReq (p : Nat) (r : XReq) (s : State) : State :=
  match s.ctx r.ctx, r.waiter with
  | none, .step b n =>
    (match (s.store b).intake.find? fun q => q.num == n && s.stepContinues q with
     | some q => (s.noteCrossFault q.who.ctx p).stepGot b n p (r.msg.addr / 64) (List.replicate 64 0)
     | none => s.stepLost b n)
  | none, _ => s.faultWaiter r
  | some x, _ =>
    if r.waiter = .none then s
    else if s.crossContinues x then
      let s := s.noteCrossFault r.ctx p
      match r.waiter with
      | .group id true lane =>
        if r.msg.op = 0x01 then s.deliver p r r.msg.zeroAnswer else (s.modById id (Group.zeroLanes lane)).groupAnswered id
      | _ => s.deliver p r r.msg.zeroAnswer
    else s.faultWaiter r

end Sys2Proof.Machine
end

