-- ==== Sys2Proof/Machine/Crossing.lean ====
section
/-! DEFINITION. Crossing ports: bring-up, flits, retry, loss, requests of partners and their answers (15 R319 to R338). -/

namespace Sys2Proof.Machine

open Sys2Proof

/-! ### Holding and losing (15 R320 to R329, R337) -/

/-- The I/O die of a port, as a die code, and the offset of its XPT block (15 R338). -/
def xptDie (p : Nat) : Nat := 0x20 + p / 32
def xptOff (p : Nat) : Nat := 0x300000 + p % 32 * 0x2000

/-- A link event (21 R468 code 0x14). -/
def State.linkEvent (p cause reason : Nat) (s : State) : State :=
  s.raiseEvent { code := 0x14, category := 4, die := xptDie p, unit := p, detail := cause + reason * 256 }

/-- A port without a link: nothing sent or received, its keys zeroised (15 R324, R328). -/
def Port.clean (x : Port) : Port :=
  { x with nextSeq := 0, expSeq := 0, replay := [], txq := [], nakSeq := 0, nakCount := 0, txEpoch := false, rxEpoch := false,
           rekey := none, shareOk := false, stage := 0, rx := [], keyRx := [], keys := {}, txSlots := 0 }

/-- The first 8 bytes of this device's identity digest, byte 0 lowest (15 R338). -/
def State.ownDigest (s : State) : Word := BitVec.ofNat 64 (ofBytes (s.identity.take 8))

/-- A port is held with a reason (15 R337). -/
def State.holdPort (p reason : Nat) (s : State) : State :=
  (s.modPort p fun x => { x.clean with state := 5, holdReason := reason, since := s.tick, darkEnd := none }).linkEvent p 0 reason

/-- Bring-up begins: held where the block has no laser or there is no light, else each lane repeats its marker (15 R320, R321,
R337). -/
def State.beginBringup (p : Nat) (s : State) : State :=
  let x := s.port p
  if !x.laserOk then s.holdPort p 2
  else if x.light then
    (s.setPort p { x.clean with state := 1, holdReason := 0, since := s.tick, darkEnd := none }).say (.markers p s.ownDigest)
  else s.holdPort p 1

/-- The port is dark for 10 ms (15 R328). -/
def State.darken (p : Nat) (s : State) : State :=
  s.modPort p fun x => { x.clean with state := 0, holdReason := 0, darkEnd := some (s.tick + 100000) }

/-- A response completes the request of its tag: handed over, or written to a park slot (04 R102; 15 R331, R335). A
response whose context is gone is discarded (04 R103); one that does not answer its request's kind has no effect. -/
def State.answer (p : Nat) (m : XMsg) (s : State) : State :=
  match (s.port p).outbound.find? fun r => r.msg.tag == m.tag with
  | none => s
  | some r =>
    let fits := m.op == 0x84 || (m.op == 0x81 && r.msg.op == 0x01) || (m.op == 0x82 && (r.msg.op == 0x02 || r.msg.op == 0x04)) ||
      (m.op == 0x83 && r.msg.op == 0x03)
    if !fits then s
    else
      let s := s.modPort p fun x => { x with outbound := x.outbound.filter fun q => q.msg.tag != m.tag }
      let s :=
        if m.op = 0x84 ∨ m.addr % 256 ≠ 0 then s.faultWaiter r
        else if r.waiter = .none then s
        else if r.parked then s.modCtx r.ctx fun x => { x with parked := x.parked ++ [{ port := p, req := r, data := m.body }] }
        else s.deliver p r m.body
      s.drainWaits

/-- The requests of a lost link complete with crossing faults; those parked record it in the save area (15 R329, 04
R103). -/
def State.loseReqs (p : Nat) (rs : List XReq) (s : State) : State :=
  rs.foldl (fun s r =>
    if r.parked then s.modCtx r.ctx fun x => { x with parked := x.parked ++ [{ port := p, req := r, lost := true }] }
    else s.crossFaultReq p r) s

/-- A link is lost with a cause (15 R328, R329): dark for 10 ms, counted and told; requests received stay to be performed
without response; responses received are taken, and every other request completes with a crossing fault. -/
def State.linkLoss (p cause : Nat) (s : State) : State :=
  let s := ((s.port p).inq.filter fun m => decide (0x81 ≤ m.op)).foldl (fun s m => s.answer p m) s
  let rs := (s.port p).outbound ++ (s.port p).waitq
  let s := (s.modPort p fun x => { x with
      outbound := [], waitq := [], lastCause := cause,
      inq := (x.inq.filter fun m => decide (m.op < 0x81)).map fun m => { m with stale := true } }).darken p
  let s := s.bump (xptDie p) (xptOff p + 0x38) (fun s => (s.port p).loss) (fun n s => s.modPort p fun x => { x with loss := n })
  (s.linkEvent p cause 0).loseReqs p rs

/-- The port carries requests, or holds them for a partner in all-stop. -/
def Port.carries (x : Port) : Bool := x.stage == 4 && (x.state == 4 || x.state == 6)

/-- A port reset (15 R328, R337; 21 R460): link loss with cause 6, or bring-up anew after the dark period; an Ethernet port's
interfaces go down. -/
def State.portReset (p : Nat) (s : State) : State :=
  let x := s.port p
  if x.mode = 1 then (if x.carries then s.linkLoss p 6 else s.darken p)
  else if x.mode = 0 then s
  else (s.modIface (2 * p) fun i => { i with up := false }).modIface (2 * p + 1) fun i => { i with up := false }

/-! ### Bring-up (15 R321 to R324) -/

/-- A crossing port of a device that runs and has reached READY (21 R464). -/
def State.xport (s : State) (p : Nat) : Bool :=
  s.running && s.rst.ready && !s.aon.moored && decide (p < 64) && (s.port p).mode == 1

def State.modKeys (p : Nat) (f : LinkKeys → LinkKeys) (s : State) : State := s.modPort p fun x => { x with keys := f x.keys }

/-- Messages of the two ends one after another, the lower end's first (15 R323). -/
def weave : List (List Byte) → List (List Byte) → List Byte
  | [], hs => hs.flatten
  | l :: ls, [] => l ++ weave ls []
  | l :: ls, h :: hs => l ++ h ++ weave ls hs
/-- The transcript so far (15 R323). -/
def State.transcript (s : State) (p : Nat) : List Byte :=
  let k := (s.port p).keys
  if s.lowerEnd p then weave k.sent k.got else weave k.got k.sent

/-- A message of the key exchange is sent in KEY flits and joins the transcript (15 R323). -/
def State.sendKey (p : Nat) (m : List Byte) (s : State) : State :=
  (s.modKeys p fun k => { k with sent := k.sent ++ [m] }).sendBytes p 3 m

/-- HELLO and CHAIN are sent (15 R323, 19 R413). -/
def State.sendHello (p : Nat) (s : State) : State :=
  let r := s.freeBytes 32
  (r.2.sendKey p (r.1 ++ bytesOf 1 p ++ s.identity)).sendKey p (s.fullChain s.sec.report)

/-- SHARE is sent: a fresh ephemeral key, and a signature by the identity key over the digest of the transcript up to and
including this key (15 R323).
(DEDUCED, log entry 51.) -/
def State.sendShare (p : Nat) (s : State) : State :=
  let e := s.ephemeral
  let g := e.2.2.sign (infoDevice ++ s.sec.serial) (sha384 (s.transcript p ++ e.2.1))
  (g.2.modKeys p fun k => { k with own := e.1 }).sendKey p (e.2.1 ++ g.1)

/-- SHARE is sent at the start of an exchange by the lower end; the higher end's transcript holds the lower end's SHARE before its
own key, so it follows that (15 R323).
(DEDUCED, log entry 51.) -/
def State.firstShare (p : Nat) (s : State) : State := if s.lowerEnd p then s.sendShare p else s

/-- "TV88-X lo-hi", "TV88-X hi-lo" and "TV88-X confirm" (15 R324). -/
def infoLoHi : List Byte := beBytes 12 0x545638382D58206C6F2D6869
def infoHiLo : List Byte := beBytes 12 0x545638382D582068692D6C6F
def infoConfirm : List Byte := beBytes 14 0x545638382D5820636F6E6669726D

/-- Both SHAREs are known: the three keys are expanded from the shared secret under both nonces, the lower end's first
(15 R324). -/
def State.deriveKeys (p : Nat) (s : State) : State :=
  let k := (s.port p).keys
  let low := s.lowerEnd p
  let mine := (k.sent.headD []).take 32
  let theirs := (k.got.headD []).take 32
  let salt := if low then mine ++ theirs else theirs ++ mine
  let secret := ecdh k.own ((k.got.getLastD []).take 97)
  let lo := hkdf salt secret infoLoHi 32
  let hi := hkdf salt secret infoHiLo 32
  s.modKeys p fun k => { k with nextTx := if low then lo else hi, nextRx := if low then hi else lo, confirm := hkdf salt secret infoConfirm 48 }

/-- FINISH is sent: the code of the transcript through both SHAREs under the confirmation key (15 R323). -/
def State.sendFinish (p : Nat) (s : State) : State := s.sendKey p (hmac (s.port p).keys.confirm (s.transcript p))

/-- The next message of a key exchange, `n` bytes long and padded to the end of its last KEY flit, where its flits have come
(15 R323, R331). -/
def Port.keyMsg (x : Port) (n : Nat) : Option (List Byte) := if ceilDiv n 232 * 232 ≤ x.keyRx.length then some (x.keyRx.take n) else none
/-- It is taken into the transcript. -/
def State.takeKey (p n : Nat) (m : List Byte) (s : State) : State :=
  s.modPort p fun x => { x with keyRx := x.keyRx.drop (ceilDiv n 232 * 232), keys := { x.keys with got := x.keys.got ++ [m] } }
/-- The lengths of HELLO, CHAIN, SHARE and FINISH (15 R323, 19 R413). -/
def helloLen : Nat := 81
def chainLen : Nat := 9813
def shareLen : Nat := 193
def finishLen : Nat := 48

/-- The lane map of markers listed by physical lane (15 R321). -/
def laneMap (ms : List Marker) : Nat :=
  (List.range 8).foldl (fun n i => n + ms.findIdx (fun m => m.lane == i) * 8 ^ i) 0
/-- The identity lane map. -/
def straightMap : Nat := (List.range 8).foldl (fun n i => n + i * 8 ^ i) 0

/-- LANE_MARKER (15 R321, R322): the map is formed and stage 3 begins, or the port is held; a looped port goes on sending lane
markers. -/
def execLaneMarker (port : Nat) (ms : List Marker) (s : State) : Host.Outcome State Fault Refusal :=
  .next (if s.xport port ∧ (s.port port).state = 1 ∧ ms.length = 8 then
      let m := ms.headD {}
      if !(ms.all fun k => k.port == m.port && k.digest == m.digest) || !((List.range 8).all fun i => ms.any fun k => k.lane == i) then
        s.holdPort port 3
      else
        let s := s.modPort port fun x => { x with partnerPort := m.port % 64, partner := m.digest, laneMap := laneMap ms,
                                                  remapped := laneMap ms != straightMap }
        if m.digest = s.ownDigest then (s.holdPort port (if m.port = port then 4 else 5)).say (.markers port s.ownDigest)
        else (s.modPort port fun x => { x with state := 2, since := s.tick, stage := 0 }).sendHello port
    else s)

/-- HELLO (15 R323): the partner's nonce, port and the identity digest that the command names. -/
def execHello (port : Nat) (digest : List Byte) (s : State) : Host.Outcome State Fault Refusal :=
  .next (match (s.port port).keyMsg helloLen with
    | some m =>
      if s.xport port ∧ (s.port port).state = 2 ∧ (s.port port).stage = 0 ∧ (m.drop 33).take 48 = digest then
        (s.takeKey port helloLen m).modPort port fun x =>
          { x with stage := 1, partner := BitVec.ofNat 64 (ofBytes ((m.drop 33).take 8)), partnerPort := (m.getD 32 0).toNat % 64 }
      else s
    | none => s)

/-- The PARTNER_ID of a port in the running Manifest (02 R48). -/
def State.partnerId (s : State) (p : Nat) : Option (List Byte) :=
  s.mft.running.bind fun m => (m.recs.find? fun r => r.ty == 8 && bf r.body 0 1 == p).map fun r => (r.body.drop 4).take 48

/-- The identity that a chain proves: the digest of the key of its DeviceID certificate (19 R409, R411, R413). -/
def chainIdentity (m : List Byte) : List Byte := sha384 ((m.drop 33).take 97)

/-- CHAIN (15 R323, 02 R48): of the identity that the command names; `ok` tells whether the chain verifies to the Velveoz root
and to the digest of the HELLO. -/
def execChain (port : Nat) (ok : Bool) (identity : List Byte) (s : State) : Host.Outcome State Fault Refusal :=
  .next (match (s.port port).keyMsg chainLen with
    | some m =>
      if s.xport port ∧ (s.port port).state = 2 ∧ (s.port port).stage = 1 ∧ chainIdentity m = identity then
        (if !ok then s.holdPort port 7
         else if (s.partnerId port).elim false fun d => d != identity then s.holdPort port 8
         else ((s.takeKey port chainLen m).modPort port fun x => { x with state := 3, stage := 2, since := s.tick }).firstShare port)
      else s
    | none => s)

/-- A rekey begins at this end (15 R327). -/
def State.startRekey (p : Nat) (s : State) : State :=
  (s.modPort p fun x => { x with rekey := some s.tick, shareOk := false }).firstShare p

/-- A partner's SHARE is taken, answered by this end's where that is still due, and the keys follow; then FINISH goes out. -/
def State.takeShare (p : Nat) (m : List Byte) (s : State) : State :=
  let low := s.lowerEnd p
  let s := s.takeKey p shareLen m
  ((if low then s else s.sendShare p).deriveKeys p).sendFinish p

/-- SHARE (15 R323, R327): `ok` tells whether its signature verifies over the transcript up to its key; in a rekey a failure
loses the link with cause KEY. -/
def execShare (port : Nat) (ok : Bool) (s : State) : Host.Outcome State Fault Refusal :=
  .next (match (if s.xport port then (s.port port).keyMsg shareLen else none) with
    | none => s
    | some m =>
      let x := s.port port
      if x.state = 3 ∧ x.stage = 2 then
        (if ok then (s.takeShare port m).modPort port fun x => { x with stage := 3 } else s.holdPort port 9)
      else if x.state = 4 then
        (if !ok then s.linkLoss port 5
         else ((if x.rekey.isNone then s.startRekey port else s).takeShare port m).modPort port fun x => { x with shareOk := true })
      else s)

/-- FINISH (15 R323, R324, R327): `ok` tells whether its code is the HMAC of the transcript through both SHAREs under the
confirmation key. The link comes up under the new keys; in a rekey the new epoch of this end begins, and the partner's with its
EPOCH bit. -/
def execFinish (port : Nat) (ok : Bool) (s : State) : Host.Outcome State Fault Refusal :=
  .next (match (if s.xport port then (s.port port).keyMsg finishLen else none) with
    | none => s
    | some m =>
      let t := s.takeKey port finishLen m
      let x := t.port port
      if x.state = 3 ∧ x.stage = 3 then
        (if ok then (t.setPort port { x with state := 4, stage := 4, since := s.tick, lastFlit := s.tick, lastHb := s.tick,
                                             txSince := s.tick, rxSince := s.tick, txSlots := 0,
                                             keys := { x.keys with tx := x.keys.nextTx, rx := x.keys.nextRx } }).drainFlits port
         else s.holdPort port 9)
      else if x.state = 4 ∧ x.rekey.isSome then
        (if ok && x.shareOk then
          t.setPort port { x with rekey := none, shareOk := false, txEpoch := !x.txEpoch, txSince := s.tick, txSlots := 0,
                                  keys := { x.keys with tx := x.keys.nextTx } }
         else s.linkLoss port 5)
      else s)

/-- NO_LANE_MARKER_TIMEOUT (15 R322): light for 50 ms and no lane marker. -/
def execNoLaneMarkerTimeout (port : Nat) (s : State) : Host.Outcome State Fault Refusal :=
  .next (if s.xport port ∧ (s.port port).state = 1 ∧ (s.port port).since + 500000 ≤ s.tick then s.holdPort port 6 else s)

/-- LIGHT_DETECTED (15 R338): light on all receive lanes; stage 1 of a bring-up ends. -/
def execLightDetected (port : Nat) (s : State) : Host.Outcome State Fault Refusal :=
  .next (if s.xport port ∧ !(s.port port).light then
      let s := s.modPort port fun x => { x with light := true }
      if (s.port port).darkEnd.isNone ∧ ((s.port port).state = 0 ∨ (s.port port).holdReason = 1) then s.beginBringup port else s
    else s)

/-- BRINGUP_RETRY (15 R337): a held port tries again every 1 s. -/
def execBringupRetry (port : Nat) (s : State) : Host.Outcome State Fault Refusal :=
  .next (if s.xport port ∧ (s.port port).state = 5 ∧ (s.port port).since + 10000000 ≤ s.tick then s.beginBringup port else s)

/-- DARK_PERIOD_END (15 R328, R337): the dark period is over, or no light has come in the 10 ms that stage 1 has after
boot. -/
def execDarkPeriodEnd (port : Nat) (s : State) : Host.Outcome State Fault Refusal :=
  .next (let x := s.port port
    if s.xport port ∧ (x.darkEnd.elim (decide (x.state = 0) && !x.light && decide (s.rst.readyTick + 100000 ≤ s.tick)) fun e => decide (e ≤ s.tick))
    then s.beginBringup port else s)

/-! ### Flits (15 R325 to R330) -/

/-- Replayed flits are told off by ACK_SEQ: those before it have arrived (15 R326). -/
def Port.acked (x : Port) (ack : Nat) : Port :=
  let gone (q : Nat) : Bool := let d := (ack + 16777216 - q) % 16777216; decide (1 ≤ d) && decide (d ≤ 2048)
  { x with replay := x.replay.filter fun f => !gone f.seq }

/-- A NAK: everything from ACK_SEQ on is sent again in order; 16 for one sequence number lose the link (15 R326). A port
that holds for a partner in all-stop neither counts nor resends (15 R330). -/
def State.onNak (p ack : Nat) (s : State) : State :=
  let x := s.port p
  if x.state = 6 then s
  else
    let n := if x.nakSeq = ack ∧ 0 < x.nakCount then x.nakCount + 1 else 1
    let s := s.setPort p { x with nakSeq := ack, nakCount := n }
    if 16 ≤ n ∧ x.carries then s.linkLoss p 3
    else x.replay.foldl (fun s f =>
      (s.bump (xptDie p) (xptOff p + 0x30) (fun s => (s.port p).retry) (fun n s => s.modPort p fun x => { x with retry := n })).emitFlit
        p f.ty 0 f.seq f.body) s

/-- A flit with a matching CRC arrives: corrected codewords are counted; once the link is up a tag that fails loses it; then
its EPOCH, ACK_SEQ and NAK are taken, and what its TYPE carries (15 R326, R327).
(DEDUCED, log entry 51.) -/
def State.goodFlit (p : Nat) (f : FlitIn) (go : State → State) (s : State) : State :=
  let x := s.port p
  if !s.xport p || !(decide (2 ≤ x.state) && x.state != 5) then s
  else
    let s := (List.range f.corrected).foldl (fun s _ =>
      s.bump (xptDie p) (xptOff p + 0x20) (fun s => (s.port p).fecCe) (fun n s => s.modPort p fun x => { x with fecCe := n })) s
    if x.carries && !f.tagOk then s.linkLoss p 4
    else
      let s := s.modPort p fun x =>
        { (if f.epoch != x.rxEpoch then
            { x with rxEpoch := f.epoch, rxSince := s.tick, keys := { x.keys with rx := x.keys.nextRx } } else x).acked f.ack with
          lastFlit := if x.state = 6 ∧ f.ty ≠ 2 then x.lastFlit else s.tick }
      go ((if f.nak then s.onNak p f.ack else s).drainFlits p)

/-- The bytes after a message header (15 R331); none where the OP, or the SIZE for it, is not in the table. -/
def followLen (op size : Nat) (ms : Bool) (fn : Nat) : Option Nat :=
  let n := if size = 0 then 64 else 128
  match op with
  | 0x01 => if size ≤ 1 then some 0 else none
  | 0x02 => if size ≤ 1 then some (n + if ms then n / 8 else 0) else none
  | 0x03 => if 2 ≤ size then some (if fn = 7 then 16 else 8) else none
  | 0x04 => if 2 ≤ size then some 8 else none
  | 0x81 => if size ≤ 1 then some n else none
  | 0x82 => some 0
  | 0x83 => some 8
  | 0x84 => some 0
  | _ => none

/-- What reading the message stream gives: more bytes are needed, padding, a message with the bytes after it, or an OP that
loses the link. -/
inductive Parse where
  | more
  | pad
  | msg (m : XMsg) (rest : List Byte)
  | bad
  deriving DecidableEq, Repr

/-- The first message of the stream (15 R331). -/
def parseMsg (b : List Byte) : Parse :=
  match b with
  | [] => .more
  | c :: _ =>
    if c = 0 then .pad
    else if b.length < 8 then .more
    else
      let h := ofBytes (b.take 8)
      let f (lo n : Nat) := h / 2 ^ lo % 2 ^ n
      match followLen (f 0 8) (f 57 2) (f 59 1 == 1) (f 60 4) with
      | none => .bad
      | some n =>
        if b.length < 8 + n then .more
        else .msg { op := f 0 8, tag := f 8 12, addr := f 20 37, size := f 57 2, ms := f 59 1 == 1, fn := f 60 4,
                    body := (b.drop 8).take n } (b.drop (8 + n))

/-- Whole messages of the stream join the port's queue; padding runs to the end of the flit (15 R331). -/
def State.takeMsgs : Nat → Nat → State → State
  | 0, _, s => s
  | k + 1, p, s =>
    match parseMsg (s.port p).rx with
    | .more => s
    | .pad => s.modPort p fun x => { x with rx := [] }
    | .bad => s.linkLoss p 4
    | .msg m rest => (s.modPort p fun x => { x with rx := rest, inq := x.inq ++ [m] }).takeMsgs k p

/-- A flit with a bad CRC or an uncorrectable codeword (`ue`), or of a TYPE above 3: discarded, and a NAK is sent (15 R325,
R326). -/
def State.badFlit (p : Nat) (ue : Bool) (s : State) : State :=
  if s.xport p ∧ 2 ≤ (s.port p).state ∧ (s.port p).state ≠ 5 then
    let s := if ue then
        s.bump (xptDie p) (xptOff p + 0x28) (fun s => (s.port p).fecUe) (fun n s => s.modPort p fun x => { x with fecUe := n })
      else s
    if (s.port p).state = 6 then s else s.emitFlit p 0 4 (s.port p).nextSeq []
  else s

/-- DATA_FLIT (15 R326, R331): a DATA or KEY flit in sequence; the bytes of KEY flits are the messages HELLO to FINISH. -/
def execDataFlit (port : Nat) (f : FlitIn) (s : State) : Host.Outcome State Fault Refusal :=
  .next (if 3 < f.ty then s.badFlit port false
    else if f.ty ≠ 1 ∧ f.ty ≠ 3 then s
    else s.goodFlit port f fun s =>
      let x := s.port port
      if f.seq ≠ x.expSeq ∨ x.state < 2 then s
      else
        let s := s.setPort port { x with expSeq := (x.expSeq + 1) % 16777216 }
        if f.ty = 3 then s.modPort port fun x => { x with keyRx := x.keyRx ++ f.body }
        else if !x.carries then s
        else (s.modPort port fun x => { x with rx := x.rx ++ f.body }).takeMsgs (f.body.length + 1) port)

/-- A port that is up or in bring-up holds its link for a partner in all-stop (15 R330). -/
def Port.hold (x : Port) : Port :=
  if x.state = 4 then { x with state := 6 }
  else if x.state = 2 ∨ x.state = 3 then { x.clean with state := 6 } else x

/-- A heartbeat reaches a device that is itself in all-stop: its ports go on receiving, and both ends hold (15 R330).
(DEDUCED, log entry 51.) -/
def State.heldBeat (p : Nat) (f : FlitIn) (s : State) : State :=
  let x := s.port p
  if s.failed.isSome || !s.rst.ready || 64 ≤ p || x.mode != 1 || !(decide (2 ≤ x.state) && x.state != 5) || (x.carries && !f.tagOk) then s
  else s.modPort p fun x => { (if f.allstop then x.hold else x) with lastFlit := s.tick }

/-- HEARTBEAT_FLIT (15 R330): with ALLSTOP the link, or a bring-up, is held. -/
def execHeartbeatFlit (port : Nat) (f : FlitIn) (s : State) : Host.Outcome State Fault Refusal :=
  .next (if f.ty ≠ 2 then s
    else if s.stopped then s.heldBeat port f
    else s.goodFlit port f fun s => if f.allstop then s.modPort port Port.hold else s)

/-- IDLE_FLIT (15 R326). -/
def execIdleFlit (port : Nat) (f : FlitIn) (s : State) : Host.Outcome State Fault Refusal :=
  .next (if f.ty ≠ 0 ∨ f.nak then s else s.goodFlit port f id)

/-- NAK (15 R326): a flit without a body that has NAK set. -/
def execNak (port : Nat) (f : FlitIn) (s : State) : Host.Outcome State Fault Refusal :=
  .next (if f.ty ≠ 0 ∨ !f.nak then s else s.goodFlit port f id)

/-- BAD_FLIT (15 R326): discarded, and a NAK is sent; `ue` where a codeword is uncorrectable.
(DEDUCED, log entry 51.) -/
def execBadFlit (port : Nat) (ue : Bool) (s : State) : Host.Outcome State Fault Refusal :=
  .next (s.badFlit port ue)

/-- HEARTBEAT_FLIT_SEND (15 R328, R330): with ALLSTOP and state 1 on a device in all-stop, whose ports all go on sending
them. -/
def execHeartbeatFlitSend (port : Nat) (s : State) : Host.Outcome State Fault Refusal :=
  .next (let x := s.port port
    if s.failed.isNone ∧ s.rst.ready ∧ port < 64 ∧ x.mode = 1 ∧ (x.carries ∨ (s.stopped ∧ 2 ≤ x.state ∧ x.state ≠ 5)) then
      (s.setPort port { x with lastHb := s.tick }).emitFlit port 2 (if s.stopped then 2 else 0) x.nextSeq
        (bytesOf 1 (b2n s.stopped) ++ List.replicate 231 0)
    else s)

/-- NO_FLIT_TIMEOUT (15 R328, R330): no good flit for 4 µs; a bring-up that was held starts again.
(DESIGN CHOICE, log entry 2.) -/
def execNoFlitTimeout (port : Nat) (s : State) : Host.Outcome State Fault Refusal :=
  .next (let x := s.port port
    if s.xport port ∧ (x.state = 4 ∨ x.state = 6) ∧ x.lastFlit + 40 ≤ s.tick then
      (if x.carries then s.linkLoss port (if x.light then 2 else 1) else s.beginBringup port)
    else s)

/-- LOSS_OF_LIGHT (15 R328, R337): a bring-up is held with NO_LIGHT; a link that is up is lost 4 µs after its last good
flit. -/
def execLossOfLight (port : Nat) (s : State) : Host.Outcome State Fault Refusal :=
  .next (let x := s.port port
    if s.xport port ∧ x.light then
      let s := s.setPort port { x with light := false }
      if 1 ≤ x.state ∧ x.state ≤ 3 then s.holdPort port 1 else s
    else s)

/-- KEY_EPOCH_CHANGE (15 R327): 2^32 slots of an epoch have passed. -/
def execKeyEpochChange (port : Nat) (s : State) : Host.Outcome State Fault Refusal :=
  .next (let x := s.port port
    if s.xport port ∧ x.state = 4 ∧ x.rekey.isNone ∧ 2 ^ 32 ≤ flitSlots (s.tick - min x.txSince x.rxSince) then s.startRekey port else s)

/-- KEY_EXCHANGE_TIMEOUT (15 R327): not finished within 2^28 further slots. -/
def execKeyExchangeTimeout (port : Nat) (s : State) : Host.Outcome State Fault Refusal :=
  .next (let x := s.port port
    if s.xport port ∧ x.state = 4 ∧ x.rekey.elim false (fun t => decide (2 ^ 28 ≤ flitSlots (s.tick - t))) then s.linkLoss port 5 else s)

/-! ### Serving a partner (15 R333 to R336) -/

/-- An export entry is written: reserved bits stay zero, and nothing happens where the port is not the berth's (15 R336,
R338). -/
def State.setExport (p e : Nat) (v : Word) (s : State) : State :=
  let w : Word := BitVec.ofNat 64 (fld 0 2 v + fld 8 8 v * 256 + fld 30 18 v * 2 ^ 30)
  (if bitAt 0 v && !bitAt p (s.berth (fld 8 8 v)).grant.ports then s
   else s.modPort p fun x => { x with exports := tset 0 x.exports e w }).answerOk (.exportEntry p e) 0

/-- A write of an export entry: it waits for the entry's requests in progress (15 R336). -/
def State.exportWrite (p e : Nat) (v : Word) (s : State) : State :=
  if (s.port p).entryBusy e then s.modPort p fun x => { x with exportWait := x.exportWait ++ [(e, v)] } else s.setExport p e v

/-- Writes of export entries whose requests have completed take effect. -/
def State.drainExports (p : Nat) (s : State) : State :=
  let x := s.port p
  (x.exportWait.filter fun w => !x.entryBusy w.1).foldl (fun s w => s.setExport p w.1 w.2)
    (s.setPort p { x with exportWait := x.exportWait.filter fun w => x.entryBusy w.1 })

/-- The DPA that a request reaches, if it is served (15 R333). -/
def State.exportTarget (s : State) (p : Nat) (off : Nat) (acc : Acc) : Option Nat :=
  let w := tget 0 (s.port p).exports (exportOf off)
  let b := fld 8 8 w
  let y := s.berth b
  if bitAt 0 w && y.state != 0 && y.state != 7 && bitAt p y.grant.ports && (acc == .load || bitAt 1 w) then
    match s.bvaLoc b acc (fld 30 18 w * 1073741824 + off % 1073741824) with
    | .mem a => some a
    | .lost a => if acc = .store then some a else none
    | _ => none
  else none

/-- The answer to a partner's request; discarded where its link has been lost (15 R329). -/
def State.reply (p : Nat) (m : XMsg) (op size : Nat) (body : List Byte) (s : State) : State :=
  let s := s.modPort p fun x => { x with inq := x.inq.erase m }
  (if m.stale then s else s.sendMsg p { op := op, tag := m.tag, addr := b2n (op == 0x84), size := size, body := body }).drainExports p

/-- The request at the head of a port's queue, of one OP, is served at its home slice, which takes it once the line is not BUSY;
FAULT where it reaches nothing (15 R333, R334).
(DEDUCED, log entry 51.) -/
def serveRow (p op : Nat) (acc : Acc) (f : XMsg → Nat → State → State) (s : State) : State :=
  match (if s.running then (s.port p).inq.head? else none) with
  | none => s
  | some m =>
    if m.op ≠ op then s
    else
      let n := match m.size with | 0 => 64 | 1 => 128 | 2 => 4 | _ => 8
      match s.exportTarget p m.addr acc with
      | some a =>
        if m.addr % n ≠ 0 then s.reply p m 0x84 0 []
        else if op ≠ 0x04 ∧ (s.line (a / 128)).isBusy then s
        else if (s.line (a / 128)).isBusy then f m a s
        else f m a ((s.performPend (a / 128)).homeTake (acc == .store) (a / 128))
      | none => s.reply p m 0x84 0 []

/-- CROSS_RD (15 R333, R334). -/
def execCrossRd (port : Nat) (s : State) : Host.Outcome State Fault Refusal :=
  .next (serveRow port 0x01 .load (fun m a s => s.reply port m 0x81 m.size (s.peekN a (if m.size = 0 then 64 else 128))) s)

/-- The bytes that a WR writes, by offset: all, or those of its mask (15 R331). -/
def XMsg.written (m : XMsg) : List (Nat × Byte) :=
  let n := if m.size = 0 then 64 else 128
  let mask := ofBytes (m.body.take (n / 8))
  let data := if m.ms then m.body.drop (n / 8) else m.body
  (data.zipIdx.map fun p => (p.2, p.1)).filter fun p => !m.ms || mask.testBit p.1

/-- CROSS_WR (15 R333, R334). -/
def execCrossWr (port : Nat) (s : State) : Host.Outcome State Fault Refusal :=
  .next (serveRow port 0x02 .store (fun m a s =>
    ((if s.dpaLoc a = .mem a then m.written.foldl (fun (s : State) q => (s.writeShown noCtx (.mem (a + q.1)) [q.2]).partnerWrote (a + q.1) 1) s else s).reply port m 0x82 0 [])) s)

/-- The operation of an FN code (15 R331); atom.fadd works on 4 bytes. -/
def fnOp (fn size : Nat) (ms : Bool) : Option Rmw :=
  match fn with
  | 7 => some .cas
  | 8 => some .add
  | 9 => if size = 2 then some .fadd else none
  | 0xA => some (.min ms)
  | 0xB => some (.max ms)
  | 0xC => some .and
  | 0xD => some .or
  | 0xE => some .xor
  | 0xF => some .exch
  | _ => none

/-- An atomic or reduction of a partner: the value found. -/
def State.serveRmw (m : XMsg) (op : Rmw) (a : Nat) (s : State) : State × Nat :=
  let n := if m.size = 2 then 4 else 8
  let r := s.rmwLoc noCtx n op (s.dpaLoc a) (ofBytes (m.body.take n)) (ofBytes ((m.body.drop 8).take n))
  ((r.1.shown noCtx (s.dpaLoc a) n).partnerWrote a n, r.2)

/-- CROSS_ATM (15 R333, R334): an FN that names no operation, or data that cannot be read, is answered FAULT. -/
def execCrossAtm (port : Nat) (s : State) : Host.Outcome State Fault Refusal :=
  .next (serveRow port 0x03 .store (fun m a s =>
    match fnOp m.fn m.size m.ms with
    | some op =>
      if s.dpaLoc a = .mem a then
        let r := s.serveRmw m op a
        r.1.reply port m 0x83 0 (bytesOf 8 r.2)
      else s.reply port m 0x84 0 []
    | none => s.reply port m 0x84 0 []) s)

/-- A reduction of a partner as its home slice takes it (10 R238, R239; 15 R334). -/
def XMsg.redReq (m : XMsg) (port : Nat) (op : Rmw) (a : Nat) : CohReq :=
  let n := if m.size = 2 then 4 else 8
  { kind := .red, line := a / 128, who := 1000 + port, op := op, off := a % 128, bytes := n, arg := ofBytes (m.body.take n) }

/-- CROSS_RED (15 R333, R334; 10 R239): performed, or, on a BUSY line, joined to its pending reductions. -/
def execCrossRed (port : Nat) (s : State) : Host.Outcome State Fault Refusal :=
  .next (serveRow port 0x04 .store (fun m a s =>
    match (if 8 ≤ m.fn ∧ m.fn ≤ 0xB then fnOp m.fn m.size m.ms else none) with
    | some op =>
      if s.dpaLoc a ≠ .mem a then s.reply port m 0x82 0 []
      else if (s.line (a / 128)).isBusy then
        (if s.pendingOf (s.home (a / 128)) < 256 then (s.joinPending (m.redReq port op a)).reply port m 0x82 0 [] else s)
      else (s.serveRmw m op a).1.reply port m 0x82 0 []
    | none => s.reply port m 0x84 0 []) s)

/-! ### Responses (04 R102, R103; 15 R331, R334, R335) -/

/-- The response at the head of a port's queue, of one OP. -/
def State.headIs (s : State) (p op : Nat) : Option XMsg :=
  if s.running then ((s.port p).inq.head?).filter fun m => m.op == op else none

/-- The response at the head of a port's queue is taken. -/
def State.takeAnswer (p : Nat) (m : XMsg) (s : State) : State :=
  (s.modPort p fun x => { x with inq := x.inq.drop 1 }).answer p m

def responseRow (p op : Nat) (s : State) : State :=
  match s.headIs p op with
  | some m => s.takeAnswer p m
  | none => s

/-- CROSS_DATA (15 R331). -/
def execCrossData (port : Nat) (s : State) : Host.Outcome State Fault Refusal := .next (responseRow port 0x81 s)
/-- WACK (15 R334). -/
def execWack (port : Nat) (s : State) : Host.Outcome State Fault Refusal := .next (responseRow port 0x82 s)
/-- ARSP (15 R331). -/
def execArsp (port : Nat) (s : State) : Host.Outcome State Fault Refusal := .next (responseRow port 0x83 s)
/-- CROSS_FAULT (15 R335). -/
def execCrossFault (port : Nat) (s : State) : Host.Outcome State Fault Refusal := .next (responseRow port 0x84 s)

/-- PARKED_RESPONSE (04 R102): the response at the head of a port's queue answers a request of a context that is switched
out; it is written to a park slot. -/
def execParkedResponse (port : Nat) (s : State) : Host.Outcome State Fault Refusal :=
  .next (match (if s.running then (s.port port).inq.head? else none) with
    | some m =>
      if 0x81 ≤ m.op ∧ m.op ≤ 0x83 ∧ ((s.port port).outbound.any fun r => r.msg.tag == m.tag && r.parked) then s.takeAnswer port m else s
    | none => s)

/-! ### Laser modules (15 R320) -/

/-- A laser event (21 R468 code 0x15). -/
def State.laserEvent (block : Nat) (fault : Bool) (s : State) : State :=
  s.raiseEvent { code := 0x15, category := 4, die := 0x20 + block / 8, unit := block, detail := b2n fault }

/-- LASER_FAULT (15 R320): every port of the block stops transmitting and is held; a crossing port that was up suffers link
loss. -/
def execLaserFault (block : Nat) (s : State) : Host.Outcome State Fault Refusal :=
  .next (if s.running ∧ block < 16 then
      (List.range 4).foldl (fun s i =>
        let p := 4 * block + i
        let s := s.modPort p fun x => { x with laserOk := false }
        if (s.port p).mode = 1 then ((if (s.port p).carries then s.linkLoss p 1 else s).holdPort p 2)
        else if (s.port p).mode = 0 then s
        else (s.portReset p).holdPort p 2) (s.laserEvent block true)
    else s)

/-- LASER_INSERT (15 R320): the module delivers light again and its ports begin bring-up. -/
def execLaserInsert (block : Nat) (s : State) : Host.Outcome State Fault Refusal :=
  .next (if s.running ∧ block < 16 ∧ (List.range 4).any (fun i => !(s.port (4 * block + i)).laserOk) then
      (List.range 4).foldl (fun s i =>
        let p := 4 * block + i
        let s := s.modPort p fun x => { x with laserOk := true }
        if (s.port p).state ≠ 5 then s
        else if s.xport p then s.beginBringup p
        else s.modPort p fun x => { x with state := 0, holdReason := 0 }) (s.laserEvent block false)
    else s)

end Sys2Proof.Machine
end

