-- ==== Sys2Proof/Machine/Switch.lean ====
section
/-! DEFINITION. Context switches (04 R100 to R103; 06 R160; 07 R188; 09 R205, R208, R219; 14 R317). -/

namespace Sys2Proof.Machine

open Sys2Proof

/-- QUANTUM_EXPIRY (04 R100): a standard or bulk context has run for 20 ms and may be switched out for another. -/
def execQuantumExpiry (ctx : Nat) (s : State) : Host.Outcome State Fault Refusal :=
  .next (match s.ctx ctx with
    | some x => if s.running && x.switchedIn && decide (x.quantum + 200000 ≤ s.tick) && !s.runsAssured ctx then
        s.modCtx ctx fun x => { x with mayLeave := true } else s
    | none => s)

/-- The stream slots of a work with the core slots that they name changed (09 R219, R220). -/
def CoreWork.renameCores (f : Nat → Nat) (w : CoreWork) : CoreWork :=
  { w with streams := w.streams.map fun p => (p.1, { p.2 with leader := p.2.leader.map f, members := p.2.members.map f }) }

/-- A number for a position among a context's cores that is no core slot's. -/
def posName (i : Nat) : Nat := 1000 + i

/-- An engine of the context itself waits for a request (04 R102). -/
def XReq.ofEngine (r : XReq) : Bool :=
  match r.waiter with
  | .group _ _ _ => true
  | .stream _ _ _ _ _ => true
  | .engine _ => true
  | _ => false

/-- An unrevoked assured order has been dispatched whose context is still switched out and draws on the same pool (04
R100). -/
def State.assuredWaits (s : State) (q : Nat) : Bool :=
  (tkeys s.orders).any fun o => (s.order o).elim false fun x =>
    x.hdr.cls == 0 && !x.revoked && !x.answered && x.dispatched.isSome && s.poolOf x.hdr.berth == q &&
    (s.ctx x.ctx).elim false fun c => !c.switchedIn

/-- A context may be switched out now: it holds no assured order without its final answer (04 R101); it is idle, its
quantum has passed, or an assured order needs its place (R100); its matrix units are done (07 R188), its fetchers have
completed the entries in flight on the device (09 R219), and no set engine is in a slice of its descriptors (14 R317). -/
def State.mayLeave (s : State) (k : Nat) (x : Ctx) : Bool :=
  s.running && x.switchedIn &&
  !((s.boundTo k).any fun o => (s.order o).elim false fun y => y.hdr.cls == 0 && !y.answered) &&
  (x.order.isNone || x.mayLeave || s.assuredWaits (s.poolOf x.berth)) &&
  !(s.descs.any fun d => d.who.ctx == k && d.engine.isSome && d.performed) &&
  x.cores.all fun i =>
    let w := (s.core i).work
    s.dieRuns (dieOf i) && w.mq.isEmpty && (w.streams.all fun p => p.2.flight.all fun f => decide (0 < f.wait))

/-- Every access of a context's groups so far is released at device scope (11 R256). -/
def State.fencedCtx (k : Nat) (s : State) : State :=
  { s with marks := s.marks.map fun m => if m.who.ctx = k then { m with rel := max m.rel 5 } else m }

/-- Groups of a core acquire at device scope (11 R256). -/
def State.acquireCore (p : GroupId → Bool) (i : Nat) (s : State) : State :=
  (List.range 32).foldl (fun s g =>
    let id := s.idAt { core := i, grp := g }
    if (s.groupAt { core := i, grp := g }).isSome && p id then s.acquired i id 4 else s) s

/-- The state of a context is saved and its cores and banks are freed; every group of it has fenced at device scope.
(DESIGN CHOICE, log entry 45.) -/
def State.leave (k : Nat) (x : Ctx) (s : State) : State :=
  let pos (i : Nat) := posName (x.cores.findIdx (· == i))
  let works := (x.cores.map fun i => { (s.core i).work.renameCores pos with waiting := [] }) ++ x.saved
  let waits := x.cores.flatMap fun i => (s.core i).work.waiting
  let mine (r : XReq) := r.ctx == k && r.ofEngine
  let unsent := (tkeys s.ports).flatMap fun p => ((s.port p).waitq.filter mine).map fun r => (p, { r with core := pos r.core })
  let s := (tkeys s.ports).foldl (fun s p => s.modPort p fun y =>
    { y with waitq := y.waitq.filter fun r => !mine r,
             outbound := y.outbound.map fun r => if mine r then { r with parked := true, core := pos r.core } else r }) s
  let s : State := { s with descs := s.descs.map fun d => if d.who.ctx = k then { d with engine := none } else d }
  (((s.freeCores k).fencedCtx k).modCtx k fun x =>
    { x with switchedIn := false, mayLeave := false, cores := [], clusters := [], saved := works, unsent := x.unsent ++ unsent,
             unplaced := sortBy (fun b => b % 65536) (waits.map fun b => b.1 * 65536 + b.2) |> List.map fun n => (n / 65536, n % 65536) }).wakeSubmit

/-- CONTEXT_SWITCH_OUT (04 R100 to R102; 07 R188; 09 R208). -/
def execContextSwitchOut (ctx : Nat) (s : State) : Host.Outcome State Fault Refusal :=
  .next (match s.ctx ctx with
    | some x => if s.mayLeave ctx x then s.leave ctx x else s
    | none => s)

/-! ### Switching in -/

/-- The first of `n` banks in a row that `free` accepts (09 R205). -/
def firstRun (free : Nat → Bool) (n : Nat) : Option Nat :=
  firstBelow 33 fun f => decide (f + n ≤ 32) && (List.range n).all fun i => free (f + i)

/-- A partition of a cluster for a context, in the lowest free banks; none where it does not fit (09 R205, R223).
(DESIGN CHOICE, log entry 45.) -/
def Cluster.place (c : Cluster) (k scr cache : Nat) : Option Cluster :=
  let parts := c.parts.filterMap Prod.snd
  let hit (first n b : Nat) : Bool := decide (first ≤ b) && decide (b < first + n)
  let free (b : Nat) : Bool := !(parts.any fun p => hit p.scrFirst p.scrBanks b || hit p.cacheFirst p.cacheBanks b)
  match firstRun free scr, firstBelow 8 fun i => (tget none c.parts i).isNone with
  | some a, some i =>
    (firstRun (fun b => free b && !hit a scr b) cache).map fun z =>
      { c with parts := tset none c.parts i (some { ctx := k, scrFirst := a, scrBanks := scr, cacheFirst := z, cacheBanks := cache }) }
  | _, _ => none

/-- Nothing of a context's work stands in a saved image of a core. -/
def CoreWork.idle (w : CoreWork) : Bool :=
  w.groups.isEmpty && w.blocks.isEmpty && w.waiting.isEmpty && w.streams.isEmpty && w.acc.isEmpty && w.tokens.isEmpty

/-- The saved images of a context less those at the end that hold nothing and that nothing names.
(DESIGN CHOICE, log entry 45.) -/
def State.savedWorks (s : State) (k : Nat) (x : Ctx) : List CoreWork :=
  let n := (s.descs.filter fun d => d.who.ctx == k).foldl (fun n d => max n (d.pos + 1)) 0
  let keep := (x.saved.zipIdx.filter fun p => !p.1.idle).foldl (fun n p => max n (p.2 + 1)) n
  if x.unsent.isEmpty && x.parked.isEmpty && !((tkeys s.ports).any fun p => (s.port p).outbound.any fun r => r.ctx == k && r.parked)
  then x.saved.take keep else x.saved

/-- Cores that a context may be given: distinct, free, working and awake, in clusters of its pool (04 R83; 06 R160). -/
def State.coresFit (s : State) (x : Ctx) (cores : List Nat) : Bool :=
  cores.Nodup && !cores.isEmpty && cores.all fun i =>
    let c := s.core i
    decide (i < coreSlots) && c.slotState == 1 && c.bound.isSome && c.ctx.isNone && !c.replaying && s.dieRuns (dieOf i) &&
    (s.poolCls (s.poolOf x.berth)).contains (clusterOf i) && !(s.cluster (clusterOf i)).asleep && !s.halfOff (clusterOf i)

/-- The partitions of a context on its clusters, in ascending number. -/
def State.placeAll (k scr cache : Nat) : List Nat → State → Option State
  | [], s => some s
  | n :: ns, s =>
    match (s.cluster n).place k scr cache with
    | some c => State.placeAll k scr cache ns { s with clusters := tset {} s.clusters n c }
    | none => none

/-- A request is made for an image that a context has on a core: its position lies below `n`, or it names no position. -/
def XReq.placed (n : Nat) (r : XReq) : Bool := decide (r.core < 1000 + n)

/-- The number of a core or of the position of an image, once the first images stand on cores. -/
def slotOf (cores : List Nat) (n : Nat) : Nat := if 1000 ≤ n then cores.getD (n - 1000) n else n

/-- Park slots of the images on cores are handed to their engines in the order in which they were filled, then the requests
not yet sent go out, and what they held looks again (04 R102, R103; 11 R254). -/
def State.unpark (k : Nat) (s : State) : State :=
  match s.ctx k with
  | none => s
  | some x =>
    let n := x.cores.length
    let s := (tkeys s.ports).foldl (fun s p => s.modPort p fun y =>
      { y with outbound := y.outbound.map fun r =>
          if r.ctx = k ∧ r.parked ∧ r.placed n then { r with parked := false, core := slotOf x.cores r.core } else r }) s
    let s := (x.parked.filter fun r => r.req.placed n).foldl (fun s r =>
      let s := s.modCtx k fun y => { y with parked := y.parked.erase r }
      if r.lost then s.crossFaultReq r.port r.req else s.deliver r.port r.req r.data) s
    let s := (x.unsent.filter fun r => r.2.placed n).foldl (fun s r =>
      let q := { r.2 with core := slotOf x.cores r.2.core }
      if (s.ctx k).elim true fun y => y.stopping.isSome then s
      else
        let s := s.modCtx k fun y => { y with unsent := y.unsent.erase r }
        if s.linkUp r.1 then s.sendReq r.1 q else s.crossFaultReq r.1 q) s
    x.cores.foldl (fun s i => (List.range 32).foldl (fun s g => s.lookAgain { core := i, grp := g }) s) s

/-- A context is switched in on cores listed in ascending logical core ID: its images are restored by position and rank, as
many as there are cores, the blocks not yet resident are placed round-robin, and what its save area holds of partners'
responses is handed over (04 R103; 06 R160; 09 R208).
(DESIGN CHOICE, log entry 45.)
(DEDUCED, log entry 18.) -/
def State.enter (k : Nat) (x : Ctx) (cores : List Nat) (works : List CoreWork) (s : State) : State :=
  let core (n : Nat) := if 1000 ≤ n then cores.getD (n - 1000) n else n
  let clusters := sortBy id (cores.map clusterOf).dedup
  let s := cores.zipIdx.foldl (fun s p => s.modCore p.1 fun c =>
    let mine := (x.unplaced.zipIdx.filter fun b => b.2 % cores.length == p.2).map Prod.fst
    let w := { (works.getD p.2 {}).renameCores core with waiting := mine }
    { c with ctx := some k, work := w, ckpt := some w, ckptOrder := x.order, lastCommit := c.cycles, commitDue := false }) s
  let s := s.modCtx k fun x =>
    { x with switchedIn := true, mayLeave := false, quantum := s.tick, cores := cores, clusters := clusters,
             saved := works.drop cores.length, unplaced := [] }
  (cores.foldl (fun s i => s.acquireCore (fun _ => true) i) s).unpark k

/-- CONTEXT_SWITCH_IN (04 R83, R100; 06 R160; 09 R205, R208): firmware gives a context whose order has been dispatched cores
of its pool, for an unrevoked assured order at least ⌈ASSURED / 2⌉. -/
def execContextSwitchIn (ctx : Nat) (cores : List Nat) (s : State) : Host.Outcome State Fault Refusal :=
  .next (match s.ctx ctx with
    | none => s
    | some x =>
      let cores := sortBy s.logicalId cores
      let works := s.savedWorks ctx x
      let need := if s.runsAssured ctx then ceilDiv (s.berth x.berth).grant.assured 2 else 1
      match s.progOf x with
      | some p =>
        if s.fwActs && !x.switchedIn && x.order.isSome && s.coresFit x cores && decide (need ≤ cores.length) then
          match s.placeAll ctx p.scrBanks p.cacheBanks (sortBy id (cores.map clusterOf).dedup) with
          | some s => s.enter ctx x cores works
          | none => s
        else s
      | none => s)

/-! ### Residency -/

/-- A core has nothing to run: no block, no matrix command, no stream that runs. -/
def CoreWork.free (w : CoreWork) : Bool :=
  (w.blocks.all fun b => b.2.isNone) && w.mq.isEmpty && w.streams.all fun t => !([1, 4, 5].contains t.2.state)

/-- The first saved image of a context that still waits for a core resumes on core position `j`: what names it by its
position is named by the core, and what names a later image by the position before (06 R160).
(DESIGN CHOICE, log entry 45.) -/
def State.resumeImage (k j core : Nat) (x : Ctx) (w : CoreWork) (rest : List CoreWork) (s : State) : State :=
  let n := x.cores.length
  let pos (p : Nat) := if p = n then j else if n < p then p - 1 else p
  let name (q : Nat) := if 1000 ≤ q then posName (pos (q - 1000)) else q
  let move (r : XReq) : XReq :=
    if r.ctx ≠ k then r
    else { r with core := name r.core, waiter := match r.waiter with
                                        | .stream c p a b d => .stream c (pos p) a b d
                                        | v => v }
  let s := (tkeys s.ports).foldl (fun s p => s.modPort p fun y => { y with outbound := y.outbound.map move }) s
  let s : State := { s with descs := s.descs.map fun d => if d.who.ctx = k then { d with pos := pos d.pos } else d }
  let s := s.modCore core fun c =>
    { c with work := { w.renameCores fun q => if 1000 ≤ q then slotOf x.cores (name q) else q with waiting := c.work.waiting } }
  let s := s.modCtx k fun y => { y with
    saved := rest, parked := y.parked.map fun r => { r with req := move r.req }, unsent := y.unsent.map fun r => (r.1, move r.2) }
  ((s.acquireCore (fun _ => true) core).unpark k).commitPoint core

/-- BLOCK_RESIDENT (05 R113; 06 R160): a saved image that waits for a core resumes on a core that has nothing to run; else the
first block placed on the core becomes resident once all of its groups fit. The core takes a commit point before its
first instruction (17 R364), and its groups acquire at device scope (11 R256).
(DESIGN CHOICE, log entry 2.)
(DESIGN CHOICE, log entry 45.) -/
def execBlockResident (core : Nat) (s : State) : Host.Outcome State Fault Refusal :=
  .next (match s.liveCore core, (s.core core).work.waiting with
    | some (k, x), waits =>
      match x.saved, waits with
      | w :: ws, _ => if (s.core core).work.free && !(s.core core).commitDue then s.resumeImage k (x.cores.findIdx (· == core)) core x w ws else s
      | [], [] => s
      | [], (entry, b) :: rest =>
      match s.progOf x with
      | some p =>
        match p.kernelOf entry with
        | some k =>
          if (s.core core).work.fits k && !(s.core core).commitDue then
            ((s.modWork core fun w => ({ w with waiting := rest } : CoreWork).seat k (recordBva p x) entry b).acquireCore (fun id => id.entry == entry && id.block == b) core).commitPoint core
          else s
        | none => s
      | none => s
    | _, _ => s)

end Sys2Proof.Machine
end

