-- ==== Sys2Proof/Machine/Repair.lean ====
section
/-! DEFINITION. Core failures and replay, self-test, capacity, and device-fatal conditions (17 R358 to R378; 04 R97,
R99). -/

namespace Sys2Proof.Machine

open Sys2Proof

/-! ### The failed state (17 R377) -/

/-- Every transmitter is dark: crossing ports without a link, Ethernet interfaces down (21 R464). -/
def State.darkAll (s : State) : State :=
  let s := (List.range 64).foldl (fun s p => s.modPort p fun x =>
    { x.clean with state := 0, holdReason := 0, darkEnd := none, inq := [], outbound := [], waitq := [] }) s
  { s with ifaces := s.ifaces.map fun p => (p.1, { p.2 with up := false }) }

/-- RPR_FATAL (17 R380). -/
def fatalWord (cause die : Nat) : Nat := cause + die * 256

/-- The device enters the failed state: a cause, found by a die. Before firmware serves the mailbox the security controller
does, unless it is itself the cause (17 R377, R378). Every session and order is lost (16 R356). -/
def State.fatal (cause die : Nat) (s : State) : State :=
  if s.failed.isSome then s
  else
    let s := s.raiseEvent { code := 0x0A, category := 0, die := die, detail := fatalWord cause die }
    ({ s with conns := [], outbox := [], sends := [], orders := [], prf := { s.prf with queue := [], onWay := [] },
              failed := some cause, nv := { s.nv with fatalCause := cause, fatalDie := die },
              rst := { s.rst with ready := false, recovery := s.rst.recovery || (!s.rst.fwUp && cause != 5) } } : State).darkAll.modDie
      die fun d => { d with state := 3 }

/-- GANGWAY_LANE_FAILURE (01 R16, 17 R377). -/
def execGangwayLaneFailure (die : Nat) (s : State) : Host.Outcome State Fault Refusal :=
  .next (if s.rst.power ∧ (die < 8 ∨ (0x10 ≤ die ∧ die < 0x14) ∨ die = 0x20 ∨ die = 0x21) then s.fatal 1 die else s)

/-- XD0_LOSS (17 R377): found by the dies that watch XD0's heartbeat, XD1 among them. -/
def execXd0Loss (s : State) : Host.Outcome State Fault Refusal :=
  .next (if s.rst.power then { s.fatal 2 0x21 with rst := { (s.fatal 2 0x21).rst with fwUp := false } } else s)

/-! ### Capacity (04 R97, R99) -/

/-- The pool of a cluster. -/
def State.clusterPool (s : State) (n : Nat) : Option Nat := firstBelow 16 fun q => (s.poolCls q).contains n

/-- The lowest good slot of a cluster that no logical index is bound to (17 R360, R367). -/
def State.spareOf (s : State) (n : Nat) : Option Nat :=
  ((List.range 9).map (n * 9 + ·)).find? fun i =>
    (s.core i).slotState == 0 && (s.core i).bound.isNone && !s.nv.failedSlots.contains i

/-- The bindings of a cluster as the field repair map keeps them once its spare has been used (17 R359, R360). -/
def State.keepBinding (n : Nat) (s : State) : State :=
  let mine := ((List.range 9).map (n * 9 + ·)).filterMap fun i => (s.core i).bound.map fun b => (i, b)
  { s with nv := { s.nv with bindings := (s.nv.bindings.filter fun p => p.1 / 9 != n) ++ mine } }

/-- A slot is recorded as failed (17 R359). -/
def State.slotFailed (i : Nat) (s : State) : State :=
  { s with nv := { s.nv with failedSlots := (s.nv.failedSlots.filter (· != i)) ++ [i] } }

/-- A cluster is left with fewer than eight working cores: told to the manager, and the pool is recounted (17 R368, 04
R99). -/
def State.shortCluster (n : Nat) (s : State) : State :=
  match s.clusterPool n with
  | some q =>
    (s.raiseEvent { code := 0x02, category := 1, die := n / 12, unit := n, detail := q + 2 * (s.poolCores q).length * 256 }).recount q
  | none => s

/-- The assured orders that run in a cluster, and whether a core failure there revokes them: there is no spare, or it is
the second failure while they run (04 R97). -/
def State.meetFailure (n : Nat) (spare : Bool) (s : State) : State :=
  let ks := (tkeys s.ctxs).filter fun k => (s.ctx k).elim false fun x => x.clusters.contains n
  let os := ks.filterMap fun k => (s.ctx k).bind Ctx.order
  let bad := os.filter fun o => (s.order o).elim false fun x => !spare || x.failedIn.contains n
  let s := os.foldl (fun s o => s.modOrder o fun x => { x with failedIn := n :: x.failedIn }) s
  bad.foldl (fun s o => match s.order o with
    | some x => s.revoke [o] x.hdr.berth
    | none => s) s

/-! ### Replay (17 R366 to R370) -/

/-- A stream slot at a replay: entries at or above the checkpoint's RETURNED are fetched again by a leader; a follower keeps
what its leader has delivered.
(DEDUCED, log entry 52.) -/
def Stream.replay (a b : Stream) : Stream :=
  if a.latched = b.latched ∧ (a.state = 1 ∨ a.state = 4 ∨ a.state = 5) ∧ 1 ≤ b.state ∧ b.state ≤ 3 then
    if b.state = 3 then { b with desc := a.desc }
    else if b.leader.isSome then { b with desc := a.desc, returned := a.returned }
    else { b with desc := a.desc, state := 1, produced := a.produced, returned := a.returned, begun := a.returned, flight := [], complete := [] }
  else { a with flight := [] }

/-- A group at a replay: an instruction that waited for a partner is issued again. -/
def Group.replay (g : Group) : Group :=
  match g.hold with
  | some (.remote _) => { g with hold := none, rem := {} }
  | some (.fence _) => { g with hold := none }
  | _ => g

/-- The work that resumes from a checkpoint; blocks placed and not yet resident stay placed (17 R367). `keep` is false where
the checkpoint is of an order whose run is over, or whose last RESULT has left (R370).
(DEDUCED, log entry 52.) -/
def CoreWork.replay (ck cur : CoreWork) (keep : Bool) : CoreWork :=
  let streams := (List.range 16).foldl (fun t n => tset {} t n ((ck.stream n).replay (cur.stream n))) []
  let w : CoreWork := { ck with waiting := cur.waiting, nextBlock := cur.nextBlock, mq := [], streams := streams }
  let w := if keep then w.modAll Group.replay else { w with groups := [], blocks := [] }
  (List.range 16).foldl (fun w n => w.wakeStream n) w

/-- A failed core's work can resume: every resident block stands in the last checkpoint, which can be read back (17
R369). -/
def Core.resumes (c : Core) (badCkpt : Bool) : Bool :=
  match c.ckpt with
  | some w => !badCkpt && (tkeys c.work.blocks).all fun b => (tget none w.blocks b).isSome
  | none => c.work.blocks.isEmpty

/-- The checkpoint is of the order that the context runs, and that order is to be replayed (17 R370). -/
def State.replaysOrder (s : State) (k : Nat) (c : Core) : Bool :=
  let o := (s.ctx k).bind Ctx.order
  c.ckptOrder == o && (o.bind s.order).elim false fun x => !x.runEnded && !x.lastGone

/-- Requests of a failed core whose answers its instructions or streams awaited are forgotten; what had left the core goes
on, on account of the core that resumes (17 R367).
(DEDUCED, log entry 52.) -/
def State.dropAwaited (k i j pos : Nat) (s : State) : State :=
  let awaited (r : XReq) : Bool := r.ctx == k && (match r.waiter with
    | .group _ hold _ => hold && r.core == i
    | .stream _ p _ _ _ => p == pos
    | _ => false)
  let move (r : XReq) : XReq := if r.ctx = k ∧ r.core = i then { r with core := j } else r
  (tkeys s.ports).foldl (fun s p => s.modPort p fun x =>
    { x with waitq := (x.waitq.filter fun r => !awaited r).map move,
             outbound := x.outbound.map fun r => move (if awaited r then { r with waiter := .none } else r) }) s

/-- Blocks of the checkpoint that have ended since end again; blocks that are not replayed count as ended (17 R367,
R370). -/
def State.recountBlocks (k : Nat) (ck cur : CoreWork) (keep : Bool) (s : State) : State :=
  if keep then
    (tkeys ck.blocks).foldl (fun s b =>
      match tget none ck.blocks b, tget none cur.blocks b with
      | some x, none => s.modCtx k fun c => { c with left := tset 0 c.left x.entry (tget 0 c.left x.entry + 1) }
      | _, _ => s) s
  else
    (tkeys cur.blocks).foldl (fun s b =>
      match tget none cur.blocks b with
      | some x => s.blockGone k x.entry
      | none => s) s

/-- A context's work moves from a core slot to another, and everything that names the slot follows. -/
def State.moveCore (k i j : Nat) (s : State) : State :=
  let f (n : Nat) := if n = i then j else n
  let w := (s.core i).work
  let c := s.core i
  let s := (s.modCore j fun d => { d with ctx := some k, work := w, ckpt := c.ckpt, ckptOrder := c.ckptOrder, lastCommit := d.cycles,
                                          commitDue := false }).modCore i fun d =>
    { d with ctx := none, work := {}, ckpt := none, ckptOrder := none, commitDue := false, replaying := false }
  let s := s.modCtx k fun x => { x with cores := x.cores.map f }
  ((s.ctx k).elim [] Ctx.cores).foldl (fun s n => s.modWork n (CoreWork.renameCores f)) s

/-- A failed core's work goes back to its last checkpoint. -/
def State.rollBack (k i : Nat) (s : State) : State :=
  let c := s.core i
  let keep := s.replaysOrder k c
  let ck := c.ckpt.getD {}
  let pos := (s.ctx k).elim 0 fun x => x.cores.findIdx (· == i)
  let s := s.modCore i fun d => { d with work := ck.replay c.work keep, commitDue := false }
  (s.dropAwaited k i i pos).recountBlocks k ck c.work keep

/-- A bound slot fails: the spare takes its logical index and its work, or the work waits (17 R367, R368).
(DEDUCED, log entry 52.) -/
def State.failBound (i b : Nat) (badCkpt : Bool) (s : State) : State :=
  let n := clusterOf i
  let spare := s.spareOf n
  let s := (s.meetFailure n spare.isSome).slotFailed i
  let c := s.core i
  let s := match c.ctx with
    | some k => if c.resumes badCkpt then s.rollBack k i else s.unitFault i 0x09
    | none => s
  let s := s.modCore i fun c => { c with slotState := 2, bound := none, replaying := false }
  match spare with
  | some j =>
    let s := (s.modCore j fun c => { c with slotState := 1, bound := some b }).keepBinding n
    let s := match (s.core i).ctx with
      | some k =>
        let s := (((s.dropAwaited k i j coreSlots).moveCore k i j).modCore j fun c => { c with replaying := true })
        s.bump (n / 12) 0x30020 (fun s => (s.die (n / 12)).rpr.replays) (fun v s => s.modDie (n / 12) fun d =>
          { d with rpr := { d.rpr with replays := v } })
      | none => s
    s.raiseEvent { code := 0x01, category := 1, die := n / 12, unit := n, detail := i % 9 + j % 9 * 256 }
  | none => (s.keepBinding n).shortCluster n

/-- CORE_FAILURE (17 R367 to R370; 04 R97): `badCkpt` tells that the last checkpoint fails its parity check when it is read
back. An unbound slot that fails is no spare any more. -/
def execCoreFailure (core : Nat) (badCkpt : Bool) (s : State) : Host.Outcome State Fault Refusal :=
  .next (if !s.running || decide (coreSlots ≤ core) || decide (2 ≤ (s.core core).slotState) || s.nv.failedSlots.contains core then s
    else
      match (s.core core).bound with
      | some b => s.failBound core b badCkpt
      | none =>
        ((s.slotFailed core).modCore core fun c => { c with slotState := 2 }).raiseEvent
          { code := 0x03, category := 1, die := dieOf core, unit := clusterOf core, detail := 1 })

/-- REPLAY_RESUME (17 R367): the spare has loaded the checkpoint and goes on. -/
def execReplayResume (core : Nat) (s : State) : Host.Outcome State Fault Refusal :=
  .next (if s.dieRuns (dieOf core) ∧ (s.core core).replaying then s.modCore core fun c => { c with replaying := false } else s)

/-- RESUME_WITHOUT_SPARE (17 R368): a core that is free of contexts takes the work of the lowest failed slot of its cluster
whose context is switched in. -/
def execResumeWithoutSpare (core : Nat) (s : State) : Host.Outcome State Fault Refusal :=
  let c := s.core core
  .next (if s.dieRuns (dieOf core) ∧ core < coreSlots ∧ c.slotState = 1 ∧ c.bound.isSome ∧ c.ctx.isNone then
      match ((List.range 9).map (clusterOf core * 9 + ·)).find? fun i =>
          (s.core i).slotState == 2 && ((s.core i).ctx.bind s.ctx).elim false Ctx.switchedIn with
      | some i =>
        (match (s.core i).ctx with
         | some k => (s.dropAwaited k i core coreSlots).moveCore k i core
         | none => s)
      | none => s
    else s)

/-! ### Self-test (17 R362, R363) -/

/-- The slot states of a cluster outside a test: 1 bound, 2 failed, 0 spare (05 R130). -/
def State.restSlots (n : Nat) (s : State) : State :=
  (List.range 9).foldl (fun s j => s.modCore (n * 9 + j) fun c =>
    { c with slotState := if s.nv.failedSlots.contains (n * 9 + j) then 2 else if c.bound.isSome then 1 else 0 }) s

/-- A self-test starts on an island that sleeps and holds no partition (17 R362). -/
def State.startTest (n : Nat) (s : State) : State :=
  let c := s.cluster n
  if n < 96 ∧ c.asleep ∧ !c.waking ∧ c.parts.isEmpty ∧ c.test.isNone ∧ !s.halfOff n then
    let s := s.modCluster n fun c => { c with test := some s.tick }
    let s := (List.range 9).foldl (fun s j => s.modCore (n * 9 + j) fun c => { c with slotState := 3 }) s
    s.modDie (n / 12) fun d => { d with rpr := { d.rpr with cluster := n % 12, result := 0 } }
  else s

/-- The end of a test: RESULT, the slots as they now are, and the answer to the request that asked for it (21 R467). -/
def State.endTest (n result : Nat) (s : State) : State :=
  (((s.modCluster n fun c => { c with test := none }).restSlots n).modDie (n / 12) fun d =>
    { d with rpr := { d.rpr with result := result } }).answerOk (.selftest n) result

/-- A flit or a wake aborts a test, which records nothing (17 R363). -/
def State.abortTest (n : Nat) (s : State) : State := if (s.cluster n).test.isSome then s.endTest n 3 else s

/-- An active slot that fails the test is replaced by a spare that passed (17 R362). -/
def State.replaceSlot (n : Nat) (failing : List Nat) (s : State) (j : Nat) : State :=
  let i := n * 9 + j
  match (s.core i).bound with
  | none => s
  | some b =>
    let spare := (List.range 9).find? fun m =>
      (s.core (n * 9 + m)).bound.isNone && !s.nv.failedSlots.contains (n * 9 + m) && !failing.contains m
    let s := s.modCore i fun c => { c with bound := none }
    match spare with
    | some m => s.modCore (n * 9 + m) fun c => { c with bound := some b }
    | none => s

/-- SELFTEST_COMPLETE (17 R362): failing active slots are replaced and recorded, failing spares recorded, failed slots that
pass restored, and arrays repaired. -/
def execSelftestComplete (cluster : Nat) (r : TestReport) (s : State) : Host.Outcome State Fault Refusal :=
  .next (if !s.running ∨ (s.cluster cluster).test.isNone then s
    else
      let slot (j : Nat) := cluster * 9 + j
      let marked := below 9 fun j => s.nv.failedSlots.contains (slot j)
      let fresh := below 9 fun j => r.failing.contains j && !marked.contains j
      let back := marked.filter fun j => !r.failing.contains j
      let was := countBelow 9 fun j => (s.core (slot j)).bound.isSome
      let s := fresh.foldl (State.replaceSlot cluster r.failing) s
      let s := fresh.foldl (fun s j => s.slotFailed (slot j)) s
      let s : State := { s with nv := { s.nv with
        failedSlots := s.nv.failedSlots.filter fun i => !(back.any fun j => slot j == i),
        arrays := tmod 0 s.nv.arrays (cluster / 12) (· + r.arrays) } }
      let s := if fresh.isEmpty then s else s.keepBinding cluster
      let ev (code detail : Nat) (s : State) := s.raiseEvent { code := code, category := 1, die := cluster / 12, unit := cluster, detail := detail }
      let s := if fresh.isEmpty ∧ r.arrays = 0 then s else ev 0x03 (min 255 fresh.length + min 255 r.arrays * 256) s
      let s := back.foldl (fun s j => ev 0x04 j s) s
      let now := countBelow 9 fun j => (s.core (slot j)).bound.isSome
      let s := if now < was then s.shortCluster cluster else s
      s.endTest cluster (if fresh.isEmpty ∧ r.arrays = 0 then 1 else 2))

end Sys2Proof.Machine
end

