-- ==== Sys2Proof/Machine/MemTier.lean ====
section
/-! DEFINITION. Stacked memory and the capacity tier: credits, temperature, uncorrectable reads, parity, retired pages,
failed pseudo-channels and slices (12 R262 to R279; 17 R361, R371 to R373). -/

namespace Sys2Proof.Machine

open Sys2Proof


/-! ### Counters of the controllers (12 R264) -/

/-- HBM_PARITY or LPX_PARITY: a read parity error that is refetched. -/
def State.countParity (dpa : Nat) (s : State) : State :=
  if dpa < lpxBase then
    let k := pcStack (s.pcOf dpa).1
    s.bump (mdCode (k / 2)) (0x300030 + k % 2 * 0x80000) (fun s => (s.stack k).parity) (fun n s => s.modStack k fun x => { x with parity := n })
  else
    let x := s.pkgOf dpa / 8
    s.bump (0x20 + x) 0x500028 (fun s => (s.lpxOf x).parity) (fun n s => s.modLpx x fun y => { y with parity := n })

/-- RPR_PARITY_REFETCH and RPR_PARITY_LOST of a die (17 R380). -/
def State.countRefetch (d : Nat) (s : State) : State :=
  s.bump d 0x30010 (fun s => (s.die d).rpr.refetch) (fun n s => s.modDie d fun x => { x with rpr := { x.rpr with refetch := n } })
def State.countLost (d : Nat) (s : State) : State :=
  s.bump d 0x30018 (fun s => (s.die d).rpr.lost) (fun n s => s.modDie d fun x => { x with rpr := { x.rpr with lost := n } })

/-! ### Retired pages (17 R361, R372) -/

/-- Every copy of the lines that `p` names is discarded without write-back; their pending reductions and pins go with
them. -/
def State.discardLines (p : Nat → Bool) (s : State) : State :=
  let s := (s.backing.filter fun e => p (e.1 / 128)).foldl (fun s e => e.2.elim s fun v => s.pokeThrough e.1 v) s
  { s.dropCopiesOf p with lines := s.lines.filter fun e => !p e.1 }

/-- A page is retired before any later lookup of its lines (17 R361, R372). -/
def State.retirePage (dpa : Nat) (s : State) : State :=
  let u := dpa / 65536
  if s.retired.contains u then s
  else
    let s := s.discardLines fun ln => ln / 512 == u
    let s : State := { s with retired := s.retired ++ [u] }
    let s :=
      if s.nv.listed.length < 65536 then { s with nv := { s.nv with listed := s.nv.listed ++ [u] } }
      else
        let n := satAdd s.nv.bootOnly 1
        ({ s with nv := { s.nv with bootOnly := n, listFull := true } } : State).raiseEvent
          { code := 0x0B, category := 1, die := 0x20, detail := n }
    s.raiseEvent { code := 0x05, category := 0, die := s.storeDie dpa, berth := s.ownerOf u, detail := u * 65536 }

/-! ### Uncorrectable reads and parity (12 R263, R264; 17 R371) -/

/-- An address of memory that can be read at all. -/
def State.inMemory (s : State) (dpa : Nat) : Bool := match s.dpaLoc dpa with
  | .mem _ => true
  | _ => false

/-- UNCORRECTABLE_READ (12 R263): the page is retired, and a consumer's context is torn down with cause 0x09. -/
def execUncorrectableRead (dpa : Nat) (r : Reader) (s : State) : Host.Outcome State Fault Refusal :=
  .next (if !s.running || !s.inMemory dpa then s
    else
      let s := s.countUe dpa
      match r with
      | .consumer k => (s.ctxFault k 0x09).retirePage dpa
      | _ => s.retirePage dpa)

/-- The answer to a partner whose data is lost: the oldest request of the port with the tag gets FAULT (15 R333, 17
R371). -/
def State.refusePartner (port tag : Nat) (s : State) : State :=
  match (s.port port).inq.find? fun m => decide (m.op < 0x81) && m.tag == tag with
  | some m => s.reply port m 0x84 0 []
  | none => s

/-- PARITY_ERROR (17 R371). -/
def execParityError (p : ParityAt) (s : State) : Host.Outcome State Fault Refusal :=
  .next (if !s.running then s
    else match p with
    | .copyBelow d => s.countRefetch d
    | .readBuffer a => if s.inMemory a then s.countParity a else s
    | .dirtyRead d a k => if s.inMemory a then ((s.countLost d).ctxFault k 0x09).retirePage a else s
    | .dirtyEvict d a => if s.inMemory a then (s.countLost d).retirePage a else s
    | .scratch n k => (s.countLost (n / 12)).ctxFault k 0x09
    | .writeData a => if s.inMemory a then ((s.countLost (s.storeDie a)).countUe a).retirePage a else s
    | .flit d k => (s.countLost d).ctxFault k 0x09
    | .cohFlit d a => if s.inMemory a then (s.countLost d).retirePage a else s
    | .exported port tag a => if s.inMemory a then ((s.countLost (0x20 + port / 32)).refusePartner port tag).retirePage a else s
    | .steward d => (s.countLost d).fatal 4 d)

/-- PSEUDO_CHANNEL_FAILURE (12 R267): marked, recorded for the next boot, and told to the manager; no page is retired.
(DEDUCED, log entry 54.) -/
def execPseudoChannelFailure (pc : Nat) (s : State) : Host.Outcome State Fault Refusal :=
  .next (if !s.running ∨ 512 ≤ pc ∨ s.pcMapped pc ∨ s.pcFailed pc then s
    else
      let s := s.modStack (pcStack pc) fun x => { x with pcFail := x.pcFail ||| BitVec.ofNat 64 (2 ^ pcLocal pc) }
      ({ s with nv := { s.nv with mappedPcs := (s.nv.mappedPcs.filter (· != pc)) ++ [pc] } } : State).raiseEvent
        { code := 0x07, category := 1, die := mdCode (pc % 4), unit := pc, detail := pc })

/-- SLICE_FAILURE (17 R373): recorded for the next boot; what the caches hold of its lines is gone.
(DEDUCED, log entry 54.) -/
def execSliceFailure (slice : Nat) (s : State) : Host.Outcome State Fault Refusal :=
  .next (if !s.running ∨ 256 ≤ slice ∨ !(s.slice slice).inService ∨ (s.slice slice).failed then s
    else
      let s := s.discardLines fun ln => s.home ln == slice
      let s : State := { s.modSlice slice fun x => { x with failed := true, intake := [] } with
        nv := { s.nv with failedSlices := (s.nv.failedSlices.filter (· != slice)) ++ [slice] } }
      s.raiseEvent { code := 0x08, category := 1, die := mdCode (slice % 4), unit := slice, detail := slice })

/-! ### Credits for assured traffic (12 R268, R274) -/

/-- Mapped-out pseudo-channels of a memory-side die (12 R265). -/
def State.mappedOn (s : State) (md : Nat) : Nat := countBelow 128 fun i => s.pcMapped (4 * i + md)

/-- Credit that each sixteenth of ASSURED adds in a frame of a pseudo-channel, in 1/1,024 of a slot. -/
def State.hbmCredit (s : State) (md : Nat) : Nat := ceilDiv 81920 (128 - s.mappedOn md)

/-- Credit that a berth gets in a frame of a package, in 1/16 of a slot, rounded down (DEDUCED, log entry 26). -/
def State.lpxCredit (s : State) (b : Nat) : Nat := (s.berth b).grant.assured * 112 / s.lpxCount

/-- The berths with an assured reservation. -/
def State.assuredBerths (s : State) : List Nat := (tkeys s.berths).filter fun b => decide (0 < (s.berth b).grant.assured)

/-- The credit of a berth at a pseudo-channel, or at 512 + package. -/
def State.creditOf (s : State) (unit b : Nat) : Nat := tget 0 s.credits (unit * 256 + b)
def State.setCredit (unit b n : Nat) (s : State) : State := { s with credits := tset 0 s.credits (unit * 256 + b) n }

/-- A frame of a unit starts: what is left of the last frame's credit is dropped, and each berth gets its own. -/
def State.startFrame (unit : Nat) (bs : List Nat) (f : Nat → Nat) (s : State) : State :=
  bs.foldl (fun s b => s.setCredit unit b (f b)) { s with credits := s.credits.filter fun p => p.1 / 256 != unit }

/-- HBM_FRAME_START (12 R268, R272): a healthy pseudo-channel of a stack that is ready. A rate step that fell due in the
middle of the last frame applies from now on. -/
def execHbmFrameStart (pc : Nat) (s : State) : Host.Outcome State Fault Refusal :=
  .next (if !s.running ∨ 512 ≤ pc ∨ s.pcMapped pc ∨ s.pcFailed pc ∨ (s.stack (pcStack pc)).state ≠ 2 then s
    else
      (s.startFrame pc s.assuredBerths fun b => (s.berth b).grant.assured * s.hbmCredit (pc % 4)).modStack (pcStack pc) fun x =>
        { x with frameRate := tset 10 x.frameRate (pcLocal pc) x.rate })

/-- LPX_FRAME_START (12 R274): a populated package. -/
def execLpxFrameStart (pkg : Nat) (s : State) : Host.Outcome State Fault Refusal :=
  .next (if !s.running ∨ !s.packages.contains pkg then s
    else s.startFrame (512 + pkg) (s.assuredBerths.filter fun b => decide (0 < (s.berth b).grant.lpxMib)) s.lpxCredit)

/-! ### Stack temperature (12 R271, R272) -/

def thermThreshold (l : Nat) : Nat := 75 + 10 * l
/-- The highest level whose threshold a reading is at or above. -/
def levelOf (r : Nat) : Nat := if 105 ≤ r then 3 else if 95 ≤ r then 2 else if 85 ≤ r then 1 else 0

/-- The ticks of the last sample that was not at least 3 °C below each threshold. -/
def warmAfter (tick r : Nat) (w : List Nat) : List Nat :=
  (List.range 3).map fun i => if r + 3 ≤ thermThreshold (i + 1) then w.getD i 0 else tick

/-- The level after a sample: entered at once, and left once every sample of 10 ms has been at least 3 °C below its
threshold. -/
def levelAfter (tick old r : Nat) (w : List Nat) : Nat :=
  let e := levelOf r
  (below (max old e + 1) fun i => decide (i ≤ e) || (decide (i ≤ old) && decide (tick < w.getD (i - 1) 0 + 100000))).foldl max 0

/-- A stack reading, or a third missing one in a row (12 R271, R272). -/
def Stack.sample (tick : Nat) (r : Option Nat) (x : Stack) : Stack :=
  match r with
  | some r =>
    let w := warmAfter tick r x.warm
    { x with sampled := tick, noReading := 0, sensorLost := false, temp := min 255 r, warm := w, therm := levelAfter tick x.therm r w }
  | none =>
    if x.noReading < 2 then { x with sampled := tick, noReading := x.noReading + 1 }
    else { x with sampled := tick, noReading := 3, sensorLost := true, warm := [tick, tick, tick], therm := max 2 x.therm }

/-- The throttle of the die beneath its two stacks: half rate from level 2 on, released when both have left it, the slice
clock first and the set engines 10 ms later (12 R271, R272). -/
def State.throttleDie (md : Nat) (s : State) : State :=
  let hot := decide (2 ≤ (s.stack (2 * md)).therm) || decide (2 ≤ (s.stack (2 * md + 1)).therm)
  s.modMd md fun x =>
    if hot then { x with half := true, relax := none, hotSince := some (x.hotSince.getD s.tick) }
    else if x.clock75 then { x with clock75 := false, hotSince := none, relax := some s.tick }
    else if x.relax.elim false fun t => decide (s.tick < t + 100000) then { x with hotSince := none }
    else { x with half := false, hotSince := none, relax := none }

/-- The device enters EMERGENCY: every assured promise is revoked, and every core of every class runs at 32/64 (18 R399). -/
def State.enterEmergency (s : State) : State :=
  ({ s with pwr := { s.pwr with state := 5, bulk := 32, std := 32, asr := 32 } } : State).revokeAll.raiseEvent
    { code := 0x12, category := 3, die := 0x20, detail := 1 + 2 * s.pwr.emerg }

/-- The causes of EMERGENCY that are present: a stack at level 3, a logic die at or above 105 °C, a regulator (18 R399,
R400). PWR_EMERG shows them; the first one to come enters the state, but for a device that is stopped (20 R449). -/
def State.senseCauses (s : State) : State :=
  let t3 := b2n ((List.range 8).any fun k => (s.stack k).therm == 3)
  let tj := b2n (s.dies.any fun p => decide (105 ≤ p.2.pwr.fig.tj))
  let e := t3 + 2 * tj + s.pwr.emerg / 4 % 2 * 4
  let s : State := { s with pwr := { s.pwr with emerg := e, calm := if e = 0 then some (s.pwr.calm.getD s.tick) else none } }
  if e ≠ 0 ∧ s.pwr.state ≠ 5 ∧ s.running then s.enterEmergency else s

/-- STACK_TEMPERATURE_SAMPLE (12 R271, R272): one sample of a stack each 100 µs. -/
def execStackTemperatureSample (stack : Nat) (reading : Option Nat) (s : State) : Host.Outcome State Fault Refusal :=
  let x := s.stack stack
  .next (if !s.rst.power ∨ 8 ≤ stack ∨ s.tick < x.sampled + 1000 then s
    else
      let y := x.sample s.tick reading
      let s := s.modStack stack fun _ => y
      let s := if s.running then s.throttleDie (stack / 2) else s
      let s := if y.therm = x.therm then s
        else s.raiseEvent { code := 0x10, category := 2, die := mdCode (stack / 2), unit := stack, detail := y.therm }
      s.senseCauses)

/-- STACK_RATE_STEP (12 R271): each 1 ms the rate falls while samples stay at or above T1, and rises at level 0. -/
def execStackRateStep (stack : Nat) (s : State) : Host.Outcome State Fault Refusal :=
  let x := s.stack stack
  .next (if !s.rst.power ∨ 8 ≤ stack ∨ s.tick < x.stepped + 10000 then s
    else s.modStack stack fun x => { x with
      stepped := s.tick,
      rate := if x.therm = 0 then min 10 (x.rate + 1) else if 85 ≤ x.temp then max 7 (x.rate - 1) else x.rate })

/-- SLICE_CLOCK_THROTTLE (12 R271): after 10 ms at level 2 the slice clock of the die falls to 75%. -/
def execSliceClockThrottle (md : Nat) (s : State) : Host.Outcome State Fault Refusal :=
  .next (if s.rst.power ∧ md < 4 ∧ (s.mdDie md).hotSince.elim false (fun t => decide (t + 100000 ≤ s.tick)) then
    s.modMd md fun x => { x with clock75 := true } else s)

end Sys2Proof.Machine
end

