-- ==== Sys2Proof/Machine/Coherence.lean ====
section
/-! DEFINITION. The directory: requests at their home slice, forwards, invalidations and replies, the intake, and pending
reductions (10 R229 to R240; 12 R269). The bytes themselves stand in the State's coherent memory (DESIGN CHOICE, log entry 8). -/

namespace Sys2Proof.Machine

open Sys2Proof

/-! ### Requests and lines -/

/-- The bytes that a request reads of its line (10 R226, R231). -/
def CohReq.needs (r : CohReq) : BitVec 128 :=
  match r.kind with
  | .rd | .rdo | .upg | .nrd => allBytes
  | .atm | .red => maskBits r.off r.bytes
  | .own | .wb | .nwr => 0
/-- The line lacks bytes that a request reads, and is filled and merged first. -/
def Line.lacks (x : Line) (r : CohReq) : Bool := (r.needs &&& ~~~ x.valid) != 0

/-- A message in flight. -/
def State.cohSend (m : CohMsg) (s : State) : State := { s with cohMsgs := s.cohMsgs ++ [m] }

/-- Bytes under a mask reach the slice (10 R226): written bytes win. -/
def State.maskedWrite (r : CohReq) (s : State) : State :=
  let s := (List.range 128).foldl (fun s i => if r.mask.getLsbD i then s.poke (r.line * 128 + i) (r.data.getD i 0) else s) s
  s.modLine r.line fun x => { x with valid := x.valid ||| r.mask, dirty := x.dirty ||| r.mask }

/-- The bytes of a line. -/
def State.lineBytes (s : State) (ln : Nat) : List Byte := s.peekN (ln * 128) 128

/-- What the requester keeps of data that it shares: nothing where an INV has met the request (10 R237). -/
def CohReq.share (r : CohReq) : Keep := if r.keep then .shared else .nothing

/-- The line's fill from memory starts; it is BUSY until the fill ends (10 R231). -/
def State.startFill (ln : Nat) (t : Option Txn) (s : State) : State :=
  (s.countMiss (s.home ln)).modLine ln fun x => { x with busy := t, filling := true }

/-- A request is completed as on an UNCACHED line (10 R231, R232). -/
def State.serveUncached (r : CohReq) (s : State) : State :=
  let ln := r.line
  if (s.line ln).lacks r then s.startFill ln (some { req := r })
  else
    match r.kind with
    | .rd => (s.settleDir ln .shared [r.who]).cohSend (.toReq ln r.who r.share (s.lineBytes ln) 0)
    | .rdo | .upg => (s.settleDir ln .owned [r.who]).cohSend (.toReq ln r.who .owned (s.lineBytes ln) 0)
    | .own => (s.settleDir ln .owned [r.who]).cohSend (.toReq ln r.who .empty [] 0)
    | .nrd => (s.settleDir ln .uncached []).cohSend (.toReq ln r.who .nothing (s.lineBytes ln) 0)
    | .nwr => ((s.maskedWrite r).settleDir ln .uncached []).cohSend (.toReq ln r.who .nothing [] 0)
    | .atm =>
      let a := s.rmwMem (ln * 128 + r.off) r.bytes r.op r.arg r.cmp
      ((a.1.modLine ln fun x => { x with dirty := x.dirty ||| maskBits r.off r.bytes }).settleDir ln .uncached []).cohSend
        (.toReq ln r.who .nothing (bytesOf r.bytes a.2) 0)
    | .red => (s.performRed r).settleDir ln .uncached []
    | .wb => (s.maskedWrite r).settleDir ln .uncached []

/-- The clusters that an invalidation round reaches: the recorded ones, or on overflow every cluster of the dies in
DIR_DIE_ON; the requester is left out (10 R231, R233). -/
def State.invTargets (s : State) (ln who : Nat) : List Nat :=
  let x := s.line ln
  if x.overflow then below 96 fun n => n != who && ((s.mdDie (s.home ln % 4)).dieOn).testBit (n / 12)
  else x.ptrs.filter (· != who)

/-- A request on a SHARED line that no other copy may outlive: an invalidation round, and then its completion. -/
def State.invalidateRound (r : CohReq) (s : State) : State :=
  let ln := r.line
  let x := s.line ln
  let ts := s.invTargets ln r.who
  let ackOnly := r.kind == .upg && x.ptrs.contains r.who
  let s := (s.countRound ln).modLine ln fun x => { x with busy := some { req := r, waits := ts.length, ackOnly := ackOnly } }
  ts.foldl (fun s n => s.cohSend (.inv ln n)) s

/-- The last acknowledgement of a round has arrived: an upgrade by a recorded sharer gets an ACK, every other request is
completed as on an UNCACHED line. -/
def State.endRound (t : Txn) (s : State) : State :=
  let r := t.req
  if t.ackOnly then (s.settleDir r.line .owned [r.who]).cohSend (.toReq r.line r.who .upgrade [] 0)
  else (s.modLine r.line fun x => { x with dir := .uncached, ptrs := [], overflow := false, busy := none }).serveUncached r

/-- A sharer is recorded; a fourth sets the overflow bit (10 R229). -/
def State.recordSharer (ln who : Nat) (s : State) : State :=
  let x := s.line ln
  if x.overflow || x.ptrs.contains who then s
  else if x.ptrs.length < 3 then s.setLine ln { x with ptrs := x.ptrs ++ [who] }
  else
    (s.setLine ln { x with overflow := true }).bumpDir (s.home ln % 4) 0x18 MdDie.ovf fun n d => { d with ovf := n }

/-- The table "Directory transitions" on a line that is present and not BUSY. -/
def State.serve (r : CohReq) (s : State) : State :=
  let ln := r.line
  let s := s.touch ln
  let x := s.line ln
  match x.dir with
  | .uncached => s.serveUncached r
  | .shared =>
    (match r.kind with
     | .rd =>
       if x.lacks r then s.startFill ln (some { req := r })
       else (s.recordSharer ln r.who).cohSend (.toReq ln r.who r.share (s.lineBytes ln) 0)
     | .nrd =>
       if x.lacks r then s.startFill ln (some { req := r })
       else s.cohSend (.toReq ln r.who .nothing (s.lineBytes ln) 0)
     | _ =>
       let s := s.invalidateRound r
       match (s.line ln).busy with
       | some t => if t.waits = 0 then s.endRound t else s
       | none => s)
  | .owned =>
    let s := (s.countFwd ln).modLine ln fun x => { x with busy := some { req := r, waits := 1 } }
    let o := x.ptrs.getD 0 0
    s.cohSend (if r.kind = .rd ∨ r.kind = .nrd then .fwdS ln o else .fwdX ln o)

/-! ### Arrival and the intake (10 R234, R235, R239) -/

/-- A NACK returns a request to the intake of its slice. -/
def State.nack (r : CohReq) (s : State) : State :=
  let sl := s.home r.line
  (s.bumpSlice sl 0x18 Slice.nacks fun n x => { x with nacks := n }).modSlice sl fun x =>
    { x with intake := x.intake ++ [{ r with nacks := r.nacks + 1 }] }

/-- A request waits in the intake without a NACK: after its fourth one (10 R235), behind pending reductions of its line (11
R253), or where no way of its set can be given up now. -/
def State.waitIntake (r : CohReq) (s : State) : State :=
  s.modSlice (s.home r.line) fun x => { x with intake := x.intake ++ [r] }
/-- A request is NACKed, but never more than four times (10 R234, R235). -/
def State.turnAway (r : CohReq) (s : State) : State := if r.nacks < 4 then s.nack r else s.waitIntake r

/-- A reduction at the memory controller. -/
def State.redAtMemory (r : CohReq) (s : State) : State :=
  let a := r.line * 128 + r.off
  let v := bytesOf r.bytes (rmwVal r.bytes r.op (ofBytes (s.peekN a r.bytes)) r.arg 0)
  ((v.zipIdx).foldl (fun s p => s.pokeThrough (a + p.2) p.1) s).bumpSlice (s.home r.line) 0x28 Slice.redMc fun n x => { x with redMc := n }

/-- A line that has its way, with no byte valid: the request that asked for it goes on, or the fill starts for its pending
reductions. -/
def State.placed (r : CohReq) (s : State) : State :=
  if r.kind = .red then s.startFill r.line none else s.serve r

/-- A victim has left its way to a request. -/
def State.endEvict (m : Nat) (r : CohReq) (s : State) : State :=
  let s := (s.modLine m fun x => { x with busy := none }).evict m
  if (s.line r.line).busy.isNone then s else ((s.modLine r.line fun x => { x with busy := none }).seatLine r.line).placed r

/-- A victim that clusters hold is back-invalidated, or recalled from its owner; both lines are BUSY meanwhile (10 R227,
R237). -/
def State.startEvict (m : Nat) (r : CohReq) (s : State) : State :=
  let s := s.modLine r.line fun x => { x with busy := some { req := r } }
  let x := s.line m
  let txn (n : Nat) (s : State) : State := s.modLine m fun x => { x with busy := some { req := r, waits := n, evict := true } }
  match x.dir with
  | .owned => (txn 1 (s.countFwd m)).cohSend (.fwdX m (x.ptrs.getD 0 0))
  | _ =>
    let ts := s.invTargets m 200
    let s := ts.foldl (fun s n => s.cohSend (.inv m n)) (txn ts.length (s.countRound m))
    if ts.isEmpty then s.endEvict m r else s

/-- A request finds its line absent: it takes a free way, a victim's, or none (10 R227, R239). -/
def State.lookupMiss (r : CohReq) (s : State) : State :=
  let ln := r.line
  let full := decide (256 ≤ s.pendingOf (s.home ln))
  let join (s : State) : State := if r.kind = .red then s.joinPending r else s
  if r.kind = .red && full then s.turnAway r
  else if (s.waysUsed ln).length < 16 then ((join s).seatLine ln).placed r
  else match s.victim ln with
    | some m => if (s.line m).dir = .uncached then (((join s).evict m).seatLine ln).placed r else (join s).startEvict m r
    | none =>
      if r.kind ≠ .red then s.waitIntake r
      else if (s.waysUsed ln).all fun m => !(s.line m).loose then s.redAtMemory r else s.joinPending r

/-- A lookup of a line that no other request holds. -/
def State.lookup (r : CohReq) (s : State) : State :=
  let s := s.countLookup (s.home r.line)
  if (s.line r.line).present then s.serve r else s.lookupMiss r

/-- A request reaches its slice: NACKed where the line is BUSY or reserved for another; a RED that finds the line BUSY, or
with reductions before it, joins them, and any other request waits for those (10 R234, R239; 11 R253). -/
def State.arrive (r : CohReq) (s : State) : State :=
  let x := s.line r.line
  if r.kind = .red ∧ (x.isBusy ∨ !x.pend.isEmpty) then
    (if s.pendingOf (s.home r.line) < 256 then s.joinPending r else s.turnAway r)
  else if x.isBusy || x.prio.isSome then s.turnAway r
  else if !x.pend.isEmpty then s.waitIntake r
  else s.lookup r

/-- WB: never NACKed. It is merged; on a line that is not in a transaction the ownership ends (10 R231, R237). -/
def State.writeBackReq (r : CohReq) (s : State) : State :=
  let ln := r.line
  let x := s.line ln
  if !x.present || !(s.copy ln r.who).owned then s
  else
    let s := (s.maskedWrite r).setCopy ln r.who {}
    if x.isBusy then s else s.settleDir ln .uncached []

/-- A request at a slice that has failed: reads fault their context, writes are discarded (17 R373). -/
def State.failedRequest (r : CohReq) (s : State) : State :=
  match r.kind with
  | .rd | .rdo | .upg | .nrd | .atm => r.ctx.elim s fun k => s.ctxFault k 0x09
  | _ => s

/-- A request of a kind that its requester sends (10 R230), with an operation that it names (10 R238). -/
def CohReq.fits (r : CohReq) : Bool :=
  let port := decide (1000 ≤ r.who) && decide (r.who < 1064)
  let fetcher := decide (200 ≤ r.who) && decide (r.who < 968)
  (match r.kind with
   | .rd | .rdo | .upg | .own | .wb => decide (r.who < 96)
   | .nrd => decide (96 ≤ r.who ∧ r.who < 162) || fetcher || port
   | .nwr => decide (96 ≤ r.who ∧ r.who < 162) || port
   | .atm | .red => decide (r.who < 162) || port) &&
  (match r.kind with
   | .atm => r.op != .fadd || r.bytes == 4
   | .red => r.op.reduces && (r.op != .fadd || r.bytes == 4)
   | _ => true) &&
  decide (r.bytes = 4 ∨ r.bytes = 8) && r.off % r.bytes == 0 && decide (r.off < 128)

/-- A cluster cache may hold a line: one of a berth with a context resident on the awake cluster, never one of the steward
domain (10 R225, R228). -/
def State.mayHold (s : State) (ln n : Nat) : Bool :=
  s.islandUp n && decide (s.stewardTop ≤ ln * 128) && s.clusterHolds ln n

/-- A row of a request. -/
def cohRow (k : ReqKind) (req : CohReq) (s : State) : Host.Outcome State Fault Refusal :=
  let r := { req with kind := k, nacks := 0, keep := true }
  .next (if !s.running || !r.fits || (decide (r.who < 96) && !s.mayHold r.line r.who) then s
    else match s.dpaLoc (r.line * 128) with
      | .mem _ => if k = .wb then s.writeBackReq r else s.arrive r
      | .lost _ => s.failedRequest r
      | _ => s)

/-- COH_RD: read for a clean copy (10 R230, R231). -/
def execCohRd (req : CohReq) (s : State) : Host.Outcome State Fault Refusal := cohRow .rd req s
/-- RDO: read with ownership. -/
def execRdo (req : CohReq) (s : State) : Host.Outcome State Fault Refusal := cohRow .rdo req s
/-- UPG: a shared copy becomes an owned one. -/
def execUpg (req : CohReq) (s : State) : Host.Outcome State Fault Refusal := cohRow .upg req s
/-- OWN: ownership without data. -/
def execOwn (req : CohReq) (s : State) : Host.Outcome State Fault Refusal := cohRow .own req s
/-- WB: owned bytes come back. -/
def execWb (req : CohReq) (s : State) : Host.Outcome State Fault Refusal := cohRow .wb req s
/-- NRD: read without caching. -/
def execNrd (req : CohReq) (s : State) : Host.Outcome State Fault Refusal := cohRow .nrd req s
/-- NWR: masked write without caching. -/
def execNwr (req : CohReq) (s : State) : Host.Outcome State Fault Refusal := cohRow .nwr req s
/-- COH_ATM: an atomic in one transaction. -/
def execCohAtm (req : CohReq) (s : State) : Host.Outcome State Fault Refusal := cohRow .atm req s
/-- COH_RED: a reduction that returns nothing (10 R238, R239). -/
def execCohRed (req : CohReq) (s : State) : Host.Outcome State Fault Refusal := cohRow .red req s

/-- A request of an intake that can go on: a RED where its line takes it; any other once the line's pending reductions have
been performed, with fewer than four NACKs always, and with priority once the mark is free or, for its holder, once the line
is not BUSY. -/
def State.ready (s : State) (r : CohReq) : Bool :=
  let x := s.line r.line
  if r.kind = .red then decide (s.pendingOf (s.home r.line) < 256) || (!x.isBusy && x.pend.isEmpty)
  else if !x.isBusy && !x.pend.isEmpty then false
  else if r.nacks < 4 then true
  else match x.prio with
    | none => true
    | some w => w == r.who && !x.isBusy

/-- NACK_REISSUE (10 R234, R235): the first request of the intake that can go on. A priority request takes the line's mark,
and is looked up, the mark released, once the line is not BUSY. -/
def execNackReissue (slice : Nat) (s : State) : Host.Outcome State Fault Refusal :=
  .next (match (if s.running then (s.slice slice).intake.find? s.ready else none) with
    | none => s
    | some r =>
      let out (s : State) : State := s.modSlice slice fun x => { x with intake := x.intake.erase r }
      if r.nacks < 4 ∨ r.kind = .red then (out s).arrive r
      else
        let x := s.line r.line
        let s := if x.prio.isSome then s
          else (s.modLine r.line fun x => { x with prio := some r.who }).bumpSlice slice 0x20 Slice.prioTaken fun n x => { x with prioTaken := n }
        if x.isBusy then s else ((out s).modLine r.line fun x => { x with prio := none }).lookup r)

/-! ### Forwards, invalidations and replies (10 R231 to R233, R237) -/

/-- A reply to a cluster is in flight that makes it the owner. -/
def State.grantFlying (s : State) (ln n : Nat) : Bool :=
  s.cohMsgs.any fun m => match m with
    | .toReq l w k _ _ => l == ln && w == n && (k == .owned || k == .empty || k == .upgrade)
    | _ => false

/-- A forward at the owner's port (10 R232, R233): FWD_MISS of an asleep island or without an owned copy; a fully valid
copy serves the requester; a partial one goes back to the slice. -/
def State.forward (x : Bool) (ln n : Nat) (s : State) : State :=
  let m : CohMsg := if x then .fwdX ln n else .fwdS ln n
  if !s.running || !s.cohMsgs.contains m || s.grantFlying ln n then s
  else
    let s : State := { s with cohMsgs := s.cohMsgs.erase m }
    let c := s.copy ln n
    let t := ((s.line ln).busy.getD {} : Txn)
    let r := t.req
    if (s.cluster n).asleep ∨ !c.owned then s.cohSend (.toSlice ln n true false 0)
    else if c.valid ≠ allBytes then (s.setCopy ln n {}).cohSend (.toSlice ln n true false c.dirty)
    else if !x then
      ((s.setCopy ln n { c with owned := false, dirty := 0 }).cohSend (.toReq ln r.who (if r.kind = .rd then r.share else .nothing) (s.lineBytes ln) 0)).cohSend
        (.toSlice ln n true true c.dirty)
    else if !t.evict && decide (r.kind = .rdo ∨ r.kind = .upg) then
      ((s.setCopy ln n {}).cohSend (.toReq ln r.who .owned (s.lineBytes ln) c.dirty)).cohSend (.toSlice ln n true true 0)
    else (s.setCopy ln n {}).cohSend (.toSlice ln n true false c.dirty)

/-- FWD_S (10 R231). -/
def execFwdS (line cluster : Nat) (s : State) : Host.Outcome State Fault Refusal := .next (s.forward false line cluster)
/-- FWD_X (10 R231). -/
def execFwdX (line cluster : Nat) (s : State) : Host.Outcome State Fault Refusal := .next (s.forward true line cluster)

/-- A reply that a cluster waits for is no longer kept. -/
def CohMsg.unkeep (ln n : Nat) (m : CohMsg) : CohMsg :=
  match m with
  | .toReq l w .shared b d => if l = ln ∧ w = n then .toReq l w .nothing b d else m
  | _ => m

/-- INV (10 R231, R233, R237): the copy is dropped and the slice told; data still on its way is not kept. -/
def execInv (line cluster : Nat) (s : State) : Host.Outcome State Fault Refusal :=
  .next (if !s.running || !s.cohMsgs.contains (.inv line cluster) then s
    else
      let s : State := { s with cohMsgs := (s.cohMsgs.erase (.inv line cluster)).map (CohMsg.unkeep line cluster) }
      let s := s.modSlice (s.home line) fun x => { x with intake := x.intake.map fun r =>
        if r.kind = .rd ∧ r.line = line ∧ r.who = cluster then { r with keep := false } else r }
      let c := s.copy line cluster
      (if c.owned then s else s.setCopy line cluster {}).cohSend (.toSlice line cluster false false 0))

/-- The owner's reply ends a forward: as the owner has served the requester, or as on an UNCACHED line after the bytes have
been merged (10 R231, R232). -/
def State.endForward (r : CohReq) (src : Nat) (sent : Bool) (dirty : BitVec 128) (s : State) : State :=
  let s := s.modLine r.line fun x => { x with
    valid := if sent && decide (r.kind = .rd ∨ r.kind = .nrd) then allBytes else x.valid ||| dirty, dirty := x.dirty ||| dirty }
  if sent then
    match r.kind with
    | .rd => s.settleDir r.line .shared (if src = r.who then [src] else [src, r.who])
    | .nrd => s.settleDir r.line .shared [src]
    | _ => s.settleDir r.line .owned [r.who]
  else (s.modLine r.line fun x => { x with dir := .uncached, ptrs := [], overflow := false, busy := none }).serveUncached r

/-- A reply reaches its slice or its requester. -/
def State.cohDeliver (m : CohMsg) (s : State) : State :=
  match m with
  | .toSlice ln src fwd sent dirty =>
    (match (s.line ln).busy with
     | none => s
     | some t =>
       if fwd then
         (if t.evict then (s.modLine ln fun x => { x with valid := x.valid ||| dirty, dirty := x.dirty ||| dirty }).endEvict ln t.req
          else s.endForward t.req src sent dirty)
       else
         let t : Txn := { t with waits := t.waits - 1 }
         let s := s.modLine ln fun x => { x with busy := some t }
         if t.waits ≠ 0 then s else if t.evict then s.endEvict ln t.req else s.endRound t)
  | .toReq ln who keep data dirty =>
    let s := s.say (.coh who ln (if data.isEmpty then 1 else 0) data)
    (match (if s.mayHold ln who then keep else .nothing) with
     | .nothing => s
     | .shared => s.setCopy ln who { held := true, valid := allBytes }
     | .owned => s.setCopy ln who { held := true, owned := true, valid := allBytes, dirty := dirty }
     | .empty => s.setCopy ln who { held := true, owned := true }
     | .upgrade => s.setCopy ln who { s.copy ln who with held := true, owned := true })
  | _ => s

/-- The line of a reply in flight. -/
def CohMsg.replyOf (ln : Nat) (m : CohMsg) : Bool :=
  match m with
  | .toSlice l _ _ _ _ | .toReq l _ _ _ _ => l == ln
  | _ => false

/-- COH_REPLY (10 R230): the oldest reply of a line that is in flight arrives. -/
def execCohReply (line : Nat) (s : State) : Host.Outcome State Fault Refusal :=
  .next (match (if s.running then s.cohMsgs.find? (CohMsg.replyOf line) else none) with
    | some m => ({ s with cohMsgs := s.cohMsgs.erase m } : State).cohDeliver m
    | none => s)

/-- PENDING_REDUCTION_PERFORM (10 R239): the first pending reduction of a line that is present and not BUSY; a line that has
found no way yet looks for one again. -/
def execPendingReductionPerform (line : Nat) (s : State) : Host.Outcome State Fault Refusal :=
  let x := s.line line
  .next (if !s.running || x.isBusy then s
    else match x.pend with
      | r :: rest =>
        if x.present then (s.setLine line { x with pend := rest }).serve r
        else if (s.waysUsed line).length < 16 then (s.seatLine line).startFill line none
        else match s.victim line with
          | some m => if (s.line m).dir = .uncached then ((s.evict m).seatLine line).startFill line none else s.startEvict m r
          | none => s
      | [] => s)

/-! ### Memory controllers (12 R268, R269, R274) -/

/-- Slots that a line takes: two for a fill or a write-back, four for a merge or a reduction (12 R269). -/
def MemWork.slots (w : MemWork) : Nat := match w with
  | .fill | .writeBack => 2
  | .merge | .reduction => 4

/-- A VC2 request of a berth uses its credit, or is counted as served without (12 R268, R274). -/
def State.useCredit (ln b slots : Nat) (s : State) : State :=
  let a := ln * 128
  let tier := decide (lpxBase ≤ a)
  let unit := if tier then 512 + s.pkgOf a else (s.pcOf a).1
  let slot := if tier then 16 else 1024
  if slot ≤ s.creditOf unit b then s.setCredit unit b (s.creditOf unit b - slot * slots)
  else if tier then
    let x := s.pkgOf a / 8
    s.bump (0x20 + x) 0x500030 (fun s => (s.lpxOf x).nocredit) fun n s => s.modLpx x fun y => { y with nocredit := n }
  else
    let k := pcStack unit
    s.bump (mdCode (k / 2)) (0x300040 + k % 2 * 0x80000) (fun s => (s.stack k).nocredit) fun n s => s.modStack k fun y => { y with nocredit := n }

/-- A fill has ended: what caches wrote meanwhile wins, and the line's request goes on (10 R226, R231). -/
def State.endFill (ln : Nat) (s : State) : State :=
  let t := (s.line ln).busy
  let s := s.modLine ln fun x => { x.filled with busy := none }
  match t with
  | some t => s.serve t.req
  | none => s

/-- The berth in whose name a request travels in VC2: its context runs an assured order (10 R230). -/
def State.vc2Of (s : State) (r : CohReq) : Option Nat :=
  r.ctx.bind fun k => if s.runsAssured k then (s.ctx k).map Ctx.berth else none
/-- A berth has an assured order that runs. -/
def State.berthAssured (s : State) (b : Nat) : Bool := (s.ctxsOf b).any s.runsAssured

/-- A read whose data the memory has corrected is counted, and the tier's refresh report is kept (12 R263, R278, R279).
(DESIGN CHOICE, log entry 66.) -/
def State.takeReport (dpa : Nat) (work : MemWork) (rep : MemReport) (s : State) : State :=
  let n := b2n (rep.corrected && work != .writeBack)
  if dpa < lpxBase then
    let k := pcStack (s.pcOf dpa).1
    if n = 0 then s
    else s.bump (mdCode (k / 2)) (0x300018 + k % 2 * 0x80000) (fun s => (s.stack k).ce) fun n s => s.modStack k fun x => { x with ce := n }
  else
    let p := s.pkgOf dpa
    let at_ := 16 ^ (p % 8)
    let s := s.modLpx (p / 8) fun x => { x with ref := x.ref - x.ref / at_ % 16 * at_ + rep.refresh % 16 * at_ }
    if n = 0 then s
    else s.bump (0x20 + p / 8) 0x500010 (fun s => (s.lpxOf (p / 8)).ce) fun n s => s.modLpx (p / 8) fun x => { x with ce := n }

/-- MEMORY_REQUEST_COMPLETE (12 R269): a controller completes its work on a line and replies to the home slice. A fill belongs
to the request that waits for it; other work is a berth's with an assured order, or nobody's (10 R230). -/
def execMemoryRequestComplete (line : Nat) (work : MemWork) (rep : MemReport) (s : State) :
    Host.Outcome State Fault Refusal :=
  .next (if !s.running || !s.inMemory (line * 128) || (work == .fill && !(s.line line).filling) then s
    else
      let b := if work = .fill then (s.line line).busy.bind fun t => s.vc2Of t.req else rep.vc2.filter s.berthAssured
      let s := (b.elim s fun b => s.useCredit line b work.slots).takeReport (line * 128) work rep
      if work = .fill then s.endFill line else s)

end Sys2Proof.Machine
end

