-- ==== Sys2Proof/Machine/Islands.lean ====
section
/-! DEFINITION. Islands and halves: waking, sleeping and clocking down (01 R22 to R26; 18 R387, R388). -/

namespace Sys2Proof.Machine

open Sys2Proof

def State.modPwr (d : Nat) (f : DiePwr → DiePwr) (s : State) : State := s.modDie d fun x => { x with pwr := f x.pwr }

/-- The half of a cluster. -/
def State.halfOf (s : State) (n : Nat) : Nat :=
  let d := (s.die (n / 12)).pwr
  if n % 12 < 6 then d.west else d.east

/-- The half of a cluster takes a state; its PLL runs where the half is awake (18 R388). -/
def State.setHalf (d : Nat) (east : Bool) (v : Nat) (s : State) : State :=
  s.modPwr d fun x =>
    let b := if east then 2 else 1
    let pll := if v = 2 then x.pll ||| b else x.pll &&& (7 - b)
    if east then { x with east := v, eastIdle := 0, pll := pll } else { x with west := v, westIdle := 0, pll := pll }

/-- An island starts to wake, and the clocked-down half with it (01 R24). A wake aborts a self-test (17 R363). -/
def State.startWakeOf (n : Nat) (s : State) : State :=
  let s := s.abortTest n
  let s := if s.halfOf n = 1 then s.setHalf (n / 12) (decide (6 ≤ n % 12)) 2 else s
  s.modCluster n fun c => { c with waking := true, idle := 0 }

/-- An entry is written to the ring of the leader and of every follower; a load that PRODUCED or WAIT allows sees it
(09 R214, R216, R221). -/
def State.streamLand (core slot : Nat) (x : Ctx) (k : Nat) (f : Flight) (s : State) : State :=
  let t := s.stream core slot
  let off := t.ringBase + f.entry % t.ring * (t.units * 64)
  let all := core :: t.members
  let s := all.foldl (fun s j => s.writeShown k (.scratch (scrKey (x.rank (clusterOf j)) off)) f.data) s
  let s := s.modStream core slot fun t => { t with flight := t.flight.filter fun g => g.entry != f.entry }
  all.foldl (fun s j => (s.modStream j slot fun u => u.counted f.entry t.count).modWork j (CoreWork.wakeStream slot)) s

/-- STREAM_ENTRY_COMPLETE (09 R214, R220): an entry whose bytes have all been read is delivered; a target whose island sleeps is
woken first. -/
def execStreamEntryComplete (core slot entry : Nat) (s : State) : Host.Outcome State Fault Refusal :=
  .next (match s.liveCore core with
    | none => s
    | some (k, x) =>
      match (s.stream core slot).flight.find? fun f => f.entry == entry && f.wait == 0 with
      | some f =>
        let asleep := ((core :: (s.stream core slot).members).map clusterOf).dedup.filter fun n => !s.islandUp n
        if asleep.isEmpty then s.streamLand core slot x k f
        else asleep.foldl (fun s n => if (s.cluster n).waking then s else s.startWakeOf n) s
      | none => s)

/-- FLIT_TO_ASLEEP_ISLAND (01 R23 to R25): a flit from a die, made for a context or for none. Into an off die it is dropped,
with CS_ERR on the sender's die, and its context torn down with cause 0x06; at an island that wakes already it only waits.
(DESIGN CHOICE, log entry 75.) -/
def execFlitToAsleepIsland (cluster srcDie : Nat) (ctx : Option Nat) (s : State) : Host.Outcome State Fault Refusal :=
  .next (if !s.running ∨ 96 ≤ cluster then s
    else if s.halfOff cluster then
      let s := s.csError srcDie false
      ctx.elim s fun k => s.ctxFault k 0x06
    else
      let c := s.cluster cluster
      if !c.asleep then s
      else (if c.waking then s else s.startWakeOf cluster).modCluster cluster fun c => { c with waitFlits := c.waitFlits + 1 })

/-- ISLAND_WAKE_COMPLETE (01 R24, R25): the island is awake and accepts the flits that wait. -/
def execIslandWakeComplete (cluster : Nat) (s : State) : Host.Outcome State Fault Refusal :=
  .next (if s.running ∧ cluster < 96 ∧ (s.cluster cluster).waking then
    s.modCluster cluster fun c => { c with asleep := false, waking := false, waitFlits := 0, idle := 0 } else s)

/-- A group that can issue: neither ended nor held (18 R387). -/
def Group.runnable (g : Group) : Bool := !g.ended && g.hold.isNone

/-- Nothing keeps an island awake: no runnable group, no running stream, no accepted matrix command, no block to come, and
no request of its cache that is not answered (18 R387). -/
def State.quiet (s : State) (n : Nat) : Bool :=
  ((List.range 9).all fun j =>
    let w := (s.core (n * 9 + j)).work
    (w.groups.all fun p => p.2.elim true fun g => !g.runnable) && (w.streams.all fun p => p.2.state != 1) && w.mq.isEmpty &&
      w.waiting.isEmpty) &&
  (s.cohMsgs.all fun m => match m with
    | .toReq _ w _ _ _ => w != n
    | .fwdS _ w | .fwdX _ w | .inv _ w => w != n
    | _ => true) &&
  (s.slices.all fun p => p.2.intake.all fun r => r.who != n) &&
  (s.lines.all fun p => p.2.busy.elim true fun t => t.req.who != n) &&
  (s.lines.all fun p => p.2.pend.all fun r => r.who != n)

/-- ISLAND_SLEEP_ENTRY (18 R387): after ISLAND_IDLE µs without anything to do. -/
def execIslandSleepEntry (cluster : Nat) (s : State) : Host.Outcome State Fault Refusal :=
  let c := s.cluster cluster
  .next (if s.running ∧ cluster < 96 ∧ !c.asleep ∧ s.quiet cluster ∧
      max 1 (s.die (cluster / 12)).pwr.islandIdle * 10 ≤ c.idle then
    (s.flushCluster cluster).modCluster cluster fun c => { c with asleep := true, idle := 0 } else s)

/-- HALF_CLOCK_DOWN (18 R388): half 0 is the west one; its six islands have slept for HALF_IDLE µs. -/
def execHalfClockDown (halfIx : Nat) (s : State) : Host.Outcome State Fault Refusal :=
  let d := halfIx / 2
  let p := (s.die d).pwr
  let east := halfIx % 2 == 1
  .next (if s.running ∧ d < 8 ∧ (if east then p.east else p.west) = 2 ∧
      ((List.range 6).all fun j => let c := s.cluster (d * 12 + (if east then 6 else 0) + j); c.asleep && !c.waking) ∧
      p.halfIdle * 10 ≤ (if east then p.eastIdle else p.westIdle) then s.setHalf d east 1 else s)

/-- A tick passes for the islands: how long each has been idle, and how long each half's islands have all slept. -/
def State.tickIslands (s : State) : State :=
  let s := (tkeys s.clusters).foldl (fun s n =>
    let c := s.cluster n
    if c.asleep then s else s.modCluster n fun c => { c with idle := if s.quiet n then c.idle + 1 else 0 }) s
  let slept (d o : Nat) : Bool := (List.range 6).all fun j => let c := s.cluster (d * 12 + o + j); c.asleep && !c.waking
  (List.range 8).foldl (fun s d => s.modPwr d fun p =>
    { p with westIdle := if p.west = 2 ∧ slept d 0 then p.westIdle + 1 else 0,
             eastIdle := if p.east = 2 ∧ slept d 6 then p.eastIdle + 1 else 0 }) s

end Sys2Proof.Machine
end

