-- ==== Sys2Proof/Machine/Power.lean ====
section
/-! DEFINITION. The power estimate, the cap and its bubbles, EMERGENCY, the reference clock, and powering halves and
steward domains (18 R381 to R401; 21 R471). -/

namespace Sys2Proof.Machine

open Sys2Proof

/-! ### The cap (18 R394) -/

/-- FLOOR_W, CAP_MAX_W and the cap at boot in force: the Manifest's, or the fixed ones. -/
def State.capLimits (s : State) : Nat × Nat :=
  if s.mft.running.isSome then (s.pwr.floor, s.pwr.capMax) else (1400, 3600)

/-- The cap in force, W: 3,200 until one is set where no Manifest is applied. -/
def State.capNow (s : State) : Nat := if s.pwr.cap = 0 then 3200 else s.pwr.cap

/-- A new cap; none where it breaks its limits. -/
def State.setCap (c : Nat) (s : State) : Option State :=
  if s.capLimits.1 ≤ c ∧ c ≤ s.capLimits.2 ∧ c % 25 = 0 then some { s with pwr := { s.pwr with cap := c } } else none

/-- PWR6_CAP_WRITE (18 R401): in compatibility mode a write sets the cap or is rejected; in native mode it is ignored. -/
def execPwr6CapWrite (watts : Nat) (s : State) : Host.Outcome State Fault Refusal :=
  .next (if !s.fwActs ∨ s.pwr.estimator ≠ 1 then s
    else match s.setCap (watts % 65536) with
      | some t => { t with pwr := { t.pwr with rejected := false } }
      | none => { s with pwr := { s.pwr with rejected := true } })

/-! ### The estimate (18 R395, R396) -/

def PowerFig.total (f : PowerFig) : Nat := f.stat + f.bulk + f.std + f.asr

/-- POWER_ESTIMATE (18 R395): the figure of a die; its hottest sensor may be a cause of EMERGENCY (R399). -/
def execPowerEstimate (die : Nat) (f : PowerFig) (s : State) : Host.Outcome State Fault Refusal :=
  .next (if s.rst.power ∧ (die < 8 ∨ (0x10 ≤ die ∧ die < 0x14) ∨ die = 0x20 ∨ die = 0x21) then
    (s.modPwr die fun p => { p with fig := f, est := f.total }).senseCauses else s)

/-- G × 1/4,096 of a sum of figures.
(DEDUCED, log entry 56.) -/
def State.scaled (s : State) (f : PowerFig → Nat) : Nat := s.pwr.gain * (s.dies.foldl (fun n p => n + f p.2.pwr.fig) 0)

/-- GAIN_UPDATE (18 R396, R399, R401): each 1 ms firmware reads the regulators: their sum in 1/16 W, or none where one does
not answer, and whether one reports a fault. G is rounded down to 1/4,096. -/
def execGainUpdate (m : Option Nat) (fault : Bool) (s : State) : Host.Outcome State Fault Refusal :=
  .next (if !s.fwActs ∨ s.tick < s.pwr.readTick + 10000 then s
    else
      let p := s.pwr
      let ev (b : Nat) (s : State) : State := s.raiseEvent { code := 0x13, category := 3, die := 0x20, detail := b }
      match m with
      | none =>
        let n := min 3 (p.missed + 1)
        let s : State := { s with pwr := { p with readTick := s.tick, missed := n, acc := 0, accN := 0,
                                                  telemetryLost := p.telemetryLost || n == 3 } }
        if n = 3 ∧ !p.telemetryLost then ev 1 s else s
      | some m =>
        let a := p.acc / (4096 * max 1 p.accN)
        let g := if p.estimator = 1 ∨ a = 0 then p.gain else min 5120 (max 3277 (p.gain * (3 * a + m) / (4 * a)))
        let s : State := { s with pwr := { p with
          readTick := s.tick, missed := 0, acc := 0, accN := 0, telemetryLost := false, measured := m % 2 ^ 20, gain := g,
          emerg := p.emerg % 4 + 4 * b2n fault } }
        (if p.telemetryLost then ev 0 s else s).senseCauses)

/-! ### Bubbles (18 R397, R398) -/

/-- A multiple of 64 and of 64 − b for every fraction b below 64; the draws are held times this, so that the computation of
R397 is exact. -/
def bubbleScale : Nat := (List.range 63).foldl (fun l i => Nat.lcm l (i + 1)) 1 * 64

/-- The unthrottled draw of a class, scaled. -/
def unthrottled (d b prev : Nat) : Nat := if b < 64 then d * 64 * (bubbleScale / (64 - b)) else prev

/-- The fraction of a class, and the excess that it leaves (scaled; negative where there is none). -/
def bubbleOf (lim : Nat) (x : Int) (u : Nat) : Nat × Int :=
  let n := if x ≤ 0 ∨ u = 0 then 0 else min lim (ceilDiv (64 * x.toNat) u)
  (n, x - (u * n / 64 : Nat))

/-- The fractions of bulk, standard and assured, and whether an excess is left: P, the draws of the classes, those
unthrottled, and the cap, all in one unit. -/
def fractions (p : Nat) (d u : List Nat) (cap : Nat) : Nat × Nat × Nat × Bool :=
  let f := bubbleScale
  let i (x : Nat) : Int := x
  let x := i (p * f) - i (d.sum * f) + i u.sum - i (cap * f)
  let b := bubbleOf 64 x (u.getD 0 0)
  let c := bubbleOf 64 b.2 (u.getD 1 0)
  let a := bubbleOf 9 c.2 (u.getD 2 0)
  (b.1, c.1, a.1, decide (0 < a.2))

/-- BUBBLE_UPDATE (18 R397, R398, R400, R401): each 1 µs, in 1/65,536 W. `shares` are the parts, in 1/65,536, of the core
cycles of the last 1 µs in which cores issued for bulk, standard and assured work, used in compatibility mode.
(DESIGN CHOICE, log entry 55.)
(DEDUCED, log entry 56.) -/
def execBubbleUpdate (shares : List Nat) (s : State) : Host.Outcome State Fault Refusal :=
  .next (if !s.running ∨ !s.rst.power ∨ s.tick < s.pwr.updated + 10 then s
    else
      let w := s.pwr
      let compat := w.estimator == 1
      let p := if compat then w.measured * 4096 else s.scaled PowerFig.total
      let d := if compat then (List.range 3).map fun i => p * shares.getD i 0 / 65536
        else [s.scaled PowerFig.bulk, s.scaled PowerFig.std, s.scaled PowerFig.asr]
      let b := [w.bulk, w.std, w.asr]
      let u := (List.range 3).map fun i => unthrottled (d.getD i 0) (b.getD i 0) (w.uPrev.getD i 0)
      let w := { w with updated := s.tick, total := min (2 ^ 20 - 1) (p / 4096), uPrev := u,
                        acc := if compat then 0 else w.acc + p, accN := if compat then 0 else w.accN + 1 }
      if w.state = 5 then { s with pwr := w }
      else
        let r := fractions p d u (s.capNow * 65536)
        let s : State := { s with pwr := { w with bulk := r.1, std := r.2.1, asr := r.2.2.1, excess := r.2.2.2 } }
        if r.2.2.2 then s.bump 0x20 0x10120 (fun s => s.pwr.overCount) fun n s => { s with pwr := { s.pwr with overCount := n } } else s)

/-! ### Power states (18 R393, R399, R400) -/

/-- The code of "Power states". -/
def State.powerState (s : State) : Nat :=
  if !s.rst.power then 0
  else if s.aon.moored then 1
  else if s.pwr.state = 5 then 5
  else if (tkeys s.ctxs).isEmpty then 2
  else if s.pwr.bulk + s.pwr.std + s.pwr.asr = 0 then 3 else 4

/-- EMERGENCY_ENTRY (18 R399): a regulator reports a fault, or the other causes are looked at. -/
def execEmergencyEntry (regulator : Bool) (s : State) : Host.Outcome State Fault Refusal :=
  .next (if s.running ∧ s.rst.power then
    (if regulator then { s with pwr := { s.pwr with emerg := s.pwr.emerg % 4 + 4 } } else s).senseCauses else s)

/-- EMERGENCY_EXIT (18 R399): 10 ms with no cause present. The fractions change at the next update. -/
def execEmergencyExit (s : State) : Host.Outcome State Fault Refusal :=
  .next (if s.running ∧ s.pwr.state = 5 ∧ s.pwr.emerg = 0 ∧ s.pwr.calm.elim false (fun t => decide (t + 100000 ≤ s.tick)) then
    ({ s with pwr := { s.pwr with state := 2 } } : State).raiseEvent { code := 0x12, category := 3, die := 0x20, detail := 0 }
    else s)

/-! ### The reference clock (18 R383, R384) -/

/-- Every optical transmitter goes dark: crossing links are lost with a cause, Ethernet interfaces go down. -/
def State.lightsOut (cause : Nat) (s : State) : State :=
  let s := (List.range 64).foldl (fun s p => if (s.port p).mode = 1 ∧ (s.port p).state ≠ 0 then s.linkLoss p cause else s) s
  { s with ifaces := s.ifaces.map fun p => (p.1, { p.2 with up := false }) }

/-- REFCLK_LOSS (18 R383; 20 R449). -/
def execRefclkLoss (s : State) : Host.Outcome State Fault Refusal :=
  .next (if !s.rst.power ∨ s.aon.osc then s
    else
      let s : State := { s with aon := { s.aon with osc := true, refclkLost := true, refclkGood := some s.tick },
                                rst := { s.rst with refclk := false },
                                dies := s.dies.map fun p => (p.1, { p.2 with dbg := { p.2.dbg with osc := true } }) }
      let s := s.lightsOut 1
      if s.running then s.revokeAll.raiseEvent { code := 0x19, category := 0, die := 0x20, detail := 1 } else s)

/-- REFCLK_RETURN (18 R384): after 10 ms of good edges every domain is back on REFCLK; ports may begin bring-up, and
assured orders are admitted again. The oscillator error measured is a free value.
(DESIGN CHOICE, log entry 60.) -/
def execRefclkReturn (s : State) : Host.Outcome State Fault Refusal :=
  .next (if s.rst.power ∧ s.aon.osc ∧ s.aon.refclkGood.elim false (fun t => decide (t + 100000 ≤ s.tick)) then
    ({ s with free := s.free + 1,
              aon := { s.aon with osc := false, refclkGood := none, oscPpm := (Config.freeWord s.free 0).toNat % 65536 },
              rst := { s.rst with refclk := true } } : State).raiseEvent { code := 0x19, category := 0, die := 0x20, detail := 0 }
    else s)

/-! ### Halves and steward domains (18 R386, R389, R390) -/

/-- The pool of a cluster holds an assured order that has been accepted and has no final answer (04 R101). -/
def State.assuredOn (s : State) (d : Nat) : Bool :=
  (tkeys s.orders).any fun o => (s.order o).elim false fun x =>
    x.hdr.cls == 0 && !x.answered && (s.poolCls (s.poolOf x.hdr.berth)).any fun n => n / 12 == d

/-- Both halves of a die may go off (18 R389, R390). -/
def State.mayPowerOff (s : State) (d : Nat) : Bool :=
  ((List.range 12).all fun j => let c := s.cluster (d * 12 + j); c.parts.isEmpty && !c.waking) && (s.die d).pwr.rising.isNone &&
    !s.assuredOn d

/-- Both halves go off: their SRAM is lost (18 R389). None where the command is refused. -/
def State.powerOff (d : Nat) (s : State) : Option State :=
  if !s.mayPowerOff d then none
  else
    let s := (List.range 12).foldl (fun s j => let n := d * 12 + j
      ((s.abortTest n).flushCluster n).modCluster n fun c => { c with asleep := true, idle := 0, waitFlits := 0 }) s
    let s := (List.range 108).foldl (fun s j => s.modCore (d * 108 + j) fun c =>
      { c with work := {}, ckpt := none, ckptOrder := none, replaying := false, commitDue := false }) s
    some (s.modPwr d fun p => { p with west := 0, east := 0, westIdle := 0, eastIdle := 0, on := p.on &&& 4, pll := p.pll &&& 4 })

/-- Both halves start to go on, for 150 µs (18 R389). -/
def State.powerOn (d : Nat) (s : State) : State :=
  if (s.die d).pwr.west = 0 ∧ (s.die d).pwr.rising.isNone then
    s.modPwr d fun p => { p with rising := some (s.tick + 1500), on := p.on ||| 3 }
  else s

/-- PWR_CMD_HALVES_OFF (18 R389, R390). -/
def execPwrCmdHalvesOff (die : Nat) (s : State) : Host.Outcome State Fault Refusal :=
  .next (if !s.fwActs ∨ 8 ≤ die then s
    else match s.powerOff die with
      | some t => t
      | none => s.modPwr die fun p => { p with refused := true })

/-- PWR_CMD_HALVES_ON (18 R389). -/
def execPwrCmdHalvesOn (die : Nat) (s : State) : Host.Outcome State Fault Refusal :=
  .next (if s.fwActs ∧ die < 8 then s.powerOn die else s)

/-- HALVES_ON_COMPLETE (18 R389): every island is awake, its repair map loaded and its SRAM zero. -/
def execHalvesOnComplete (die : Nat) (s : State) : Host.Outcome State Fault Refusal :=
  .next (if !s.running ∨ !((s.die die).pwr.rising.elim false fun t => decide (t ≤ s.tick)) then s
    else
      let s := s.modPwr die fun p => { p with rising := none, west := 2, east := 2, pll := p.pll ||| 3 }
      let s := (List.range 12).foldl (fun s j => (s.modCluster (die * 12 + j) fun c => { c with asleep := false, waking := false, idle := 0 }).restSlots
        (die * 12 + j)) s
      s.answerWait (.halves die) 0 [])

/-- The steward domain of a die may go off: another one stays awake, and that of CD0 stays on while the mailbox can be used
(18 R386). -/
def State.mayStop (s : State) (d : Nat) : Bool :=
  ((List.range 8).any fun e => e != d && (s.die e).pwr.steward) && !(d == 0 && s.mbx.linkUp)

/-- A steward domain is toggled; none where it must stay on. -/
def State.toggleSteward (d : Nat) (s : State) : Option State :=
  if (s.die d).pwr.steward then
    (if s.mayStop d then some (s.modPwr d fun p => { p with steward := false, running := 0, on := p.on &&& 3, pll := p.pll &&& 3 }) else none)
  else some (s.modPwr d fun p => { p with steward := true, on := p.on ||| 4, pll := p.pll ||| 4 })

/-- PWR_CMD_STEWARD (18 R386). -/
def execPwrCmdSteward (die : Nat) (s : State) : Host.Outcome State Fault Refusal :=
  .next (if s.fwActs ∧ die < 8 then (s.toggleSteward die).getD s else s)

/-- STW_FREQ_WRITE (21 R471): a step above 25 sets 25. -/
def execStwFreqWrite (die step : Nat) (s : State) : Host.Outcome State Fault Refusal :=
  .next (if s.fwActs ∧ die < 8 then s.modPwr die fun p => { p with freq := min 25 (step % 32) } else s)

/-- STW_START (21 R471): steward core `n` starts at its entry, while its domain is powered. What it runs is firmware. -/
def execStwStart (die n : Nat) (_entry : Word) (s : State) : Host.Outcome State Fault Refusal :=
  .next (if s.fwActs ∧ die < 8 ∧ n < 4 ∧ (s.die die).pwr.steward then s.modPwr die fun p => { p with running := p.running ||| 2 ^ n } else s)

end Sys2Proof.Machine
end

