-- ==== Sys2Proof/Machine/Boot.lean ====
section
/-! DEFINITION. Cold reset, boot, die reset and the registers that start them (21 R452 to R461, R470). A boot is one step:
nothing comes between its parts (DESIGN CHOICE, log entry 27). -/

namespace Sys2Proof.Machine

open Sys2Proof

/-! ### Reset levels (21 R460, R461) -/

/-- A Manifest whose flash write a reset cuts off leaves its slot failing step 1 (02 R56). -/
def State.cutFlash (s : State) : State :=
  match s.mft.phase with
  | .writing i _ => { s with mft := { s.mft with slots := tset {} s.mft.slots i { bytes := [0] } } }
  | _ => s

/-- A cold reset with its cause: fuses, flash and the nonvolatile store stay, and AON_TICK; a boot is to follow.
(DEDUCED, log entry 57.) -/
def State.coldReset (cause : Nat) (s : State) : State :=
  let s := s.cutFlash
  { pending := s.pending, free := s.free, out := s.out, tick := s.tick,
    nv := { s.nv with bootOnly := 0, listFull := false },
    sec := { entries := s.sec.entries, serial := s.sec.serial, revoked := s.sec.revoked, udsGone := s.sec.udsGone, owner := s.sec.owner,
             ownerTrans := s.sec.ownerTrans, top := s.sec.top, createTop := s.sec.createTop },
    cal := { stored := s.cal.stored },
    mft := { floor := s.mft.floor, slots := s.mft.slots },
    mbx := { linkUp := s.mbx.linkUp },
    rst := { power := s.rst.power, refclk := s.rst.refclk, resetIn := s.rst.resetIn, vddAon := s.rst.vddAon, prefer := s.rst.prefer,
             tries := s.rst.tries, image := s.rst.image, firmwares := s.rst.firmwares, cause := cause, pending := true },
    aon := { osc := s.aon.osc, refclkGood := s.aon.refclkGood, tripped := s.aon.tripped, tripJunction := s.aon.tripJunction,
             tripStack := s.aon.tripStack } }

/-- Firmware runs and may reset the device, also in the failed state (17 R378). -/
def State.fwUp (s : State) : Bool := !s.stopped && s.rst.fwUp

/-- RST_CTL_COLD (21 R460, R470). -/
def execRstCtlCold (s : State) : Host.Outcome State Fault Refusal := .next (if s.fwUp then s.coldReset 2 else s)

/-- READY stops the boot watchdog. It ends the run of watchdog resets, except in the unconfigured state, where it does nothing
else (21 R457, 02 R54).
(DEDUCED, log entry 58.) -/
def State.markReady (s : State) : State :=
  { s with rst := { s.rst with watchdog := none, tries := if s.mft.running.isNone then s.rst.tries else 0 } }

/-- RST_CTL_READY (21 R457, 02 R54).
(DEDUCED, log entry 58.) -/
def execRstCtlReady (s : State) : Host.Outcome State Fault Refusal :=
  .next (if s.fwActs then s.markReady else s)

/-- A die reset (21 R461): the logic and SRAM of a compute die whose halves are off; its steward domain is left as it is
(DEDUCED, log entry 28). None where it is refused. -/
def State.dieReset (d : Nat) (s : State) : Option State :=
  let p := (s.die d).pwr
  if 8 ≤ d ∨ p.west ≠ 0 ∨ p.rising.isSome then none
  else
    let s := s.modDie d fun x => { state := 1, resetEnd := some (s.tick + 200000), binds := x.binds, w2 := x.w2, w3 := x.w3, pwr :=
      { west := 0, east := 0, on := p.on, pll := p.pll, steward := p.steward, running := p.running, freq := p.freq, fig := p.fig, est := p.est } }
    let s := (List.range 108).foldl (fun s j => s.modCore (d * 108 + j) fun c => { slotState := c.slotState, bound := c.bound }) s
    some ((List.range 12).foldl (fun s j => s.modCluster (d * 12 + j) fun _ => {}) s)

/-- RST_CTL_DIE (21 R461, R470): a refusal sets REFUSED. -/
def execRstCtlDie (die : Nat) (s : State) : Host.Outcome State Fault Refusal :=
  .next (if !s.fwActs then s
    else match s.dieReset die with
      | some t => t
      | none => { s with rst := { s.rst with refused := true } })

/-- DIE_RESET_COMPLETE (21 R461): the lanes have retrained and the repair map is loaded; the islands are asleep.
(DEDUCED, log entry 28.) -/
def execDieResetComplete (die : Nat) (s : State) : Host.Outcome State Fault Refusal :=
  .next (if s.running ∧ (s.die die).resetEnd.elim false fun t => decide (t ≤ s.tick) then
    ((List.range 12).foldl (fun s j => s.restSlots (die * 12 + j)) (s.modDie die fun x => { x with state := 2, resetEnd := none })).answerOk
      (.dieReset die) 0
    else s)

/-- SECURITY_CONTROLLER_FAULT (17 R377, R378; 19 R404, R423). -/
def execSecurityControllerFault (s : State) : Host.Outcome State Fault Refusal :=
  .next (if s.rst.power then s.fatal 5 0x20 else s)

/-! ### Choice of the image (21 R456) -/

/-- A Manifest slot passes steps 1 to 6. -/
def State.headPass (s : State) (i : Nat) : Bool :=
  let x := tget {} s.mft.slots i
  !x.bytes.isEmpty && (s.judgeHead x.bytes x.sigs (decide (s.mft.floor ≤ (readMft x.bytes).seq)) {}).code == 0

/-- An image verifies: as stored, and with its key slot not revoked (19 R407). -/
def State.imageGood (s : State) (m : Image) : Bool := m.good && decide (m.keyIx < 4) && !s.sec.revoked.testBit m.keyIx

/-- An image is chosen only if it verifies and a Manifest slot that passes steps 1 to 6 accepts its version, or none
passes. -/
def State.imageFits (s : State) (i : Nat) : Bool :=
  match tget none s.rst.firmwares i with
  | none => false
  | some m =>
    let ok := below 2 s.headPass
    s.imageGood m && (ok.isEmpty || ok.any fun j => (readMft (tget {} s.mft.slots j).bytes).accepts m.version)

/-- The order in which the images are tried: PREFER first; after a watchdog reset, the one that did not run (21 R457). -/
def State.imageOrder (s : State) : List Nat :=
  let f := (if s.rst.cause = 4 then 1 - s.rst.image else s.rst.prefer) % 2
  [f, 1 - f]

/-! ### Calibration (19 R425, R427) -/

/-- "TV88CAL1" -/
def calMagic : List Byte := beBytes 8 0x5456383843414C31
/-- A calibration record whose MAGIC, SERIAL and CRC stand. -/
def State.calGood (s : State) (b : List Byte) : Bool :=
  b.length == 8192 && b.take 8 == calMagic && (b.drop 0x10).take 16 == s.sec.serial && bf b 0x1FFC 4 == crc32c (b.take 0x1FFC)

/-! ### The steps (21 R452 to R459) -/

/-- Step 2: a new challenge and BOOT_ID, the HSS index at TOP, the calibration record, the counts of creation; an owner key
record that does not carry the count of the fuses is zeroised (19 R405, R410, R417, R421, R422, R427). -/
def State.bootSec (s : State) : State :=
  let c := s.freeBytes 32
  let b := c.2.draw
  let s := b.2
  let good := s.calGood s.cal.stored
  { s with
    sec := { s.sec with owner := s.ownerKeys, ready := true, challenge := c.1, bootId := b.1, next := s.sec.top, built := s.sec.top / 1048576,
                        createNext := s.sec.createTop },
    cal := { s.cal with bad := !good, inForce := if good then s.cal.stored else [], pending := false } }

/-- Step 4: an image runs: its version and digest, and the revocation of the slots below its own (19 R407). -/
def State.bootImage (i : Nat) (s : State) : State :=
  let m := (tget none s.rst.firmwares i).getD {}
  { s with
    rst := { s.rst with image := i, step := 4 },
    sec := { s.sec with fwVersion := m.version, fwDigest := m.digest, revoked := s.sec.revoked ||| (2 ^ m.keyIx - 1) } }

/-- The logical cores of a cluster as boot binds them (17 R360). -/
def State.bindCluster (s : State) (n : Nat) : State :=
  let good := s.goodSlots n
  let kept := s.nv.bindings.filter fun p => p.1 / 9 == n && !s.nv.failedSlots.contains p.1
  let b (j : Nat) : Option Nat :=
    if good.length < 8 then none
    else if kept.length = 8 then (kept.find? fun p => p.1 == n * 9 + j).map Prod.snd
    else if good.contains j ∧ good.idxOf j < 8 then some (good.idxOf j) else none
  ((List.range 9).foldl (fun s j => s.modCore (n * 9 + j) fun c => { c with bound := b j }) s).restSlots n

/-- Step 7: pseudo-channels are mapped out, the packages trained, the steward domain's key pair loaded (12 R276); none where a
die has lost more than four (12 R265). -/
def State.bootMemory (r : BootReport) (s : State) : Option State :=
  let out := below 512 fun pc => s.nv.mappedPcs.contains pc || r.pcFails.contains pc
  let c (d : Nat) := (out.filter fun pc => pc % 4 == d).length
  let k := max (max (c 0) (c 1)) (max (c 2) (c 3))
  let s := (List.range 8).foldl (fun s i => s.modStack i fun x => { x with
    state := 2,
    mapout := BitVec.ofNat 64 ((out.filter fun pc => pcStack pc == i).foldl (fun n pc => n + 2 ^ pcLocal pc) 0) }) s
  let s : State := { (s.modLpx 0 fun x => { x with state := 2 }).modLpx 1 fun x => { x with state := 2 } with
    stackGib := 384 - 3 * k, trained := r.packages }
  if 4 < k then none else some (s.loadKey stewardSlot)

/-- The die that has lost more than four pseudo-channels. -/
def State.lostDie (s : State) (r : BootReport) : Nat :=
  ((List.range 4).find? fun d => decide (4 < ((below 512 fun pc => s.nv.mappedPcs.contains pc || r.pcFails.contains pc).filter
    fun pc => pc % 4 == d).length)).getD 0

/-- Step 8: the self-test of a cluster at boot (17 R362). -/
def State.bootTest (r : BootReport) (s : State) (n : Nat) : State :=
  let fresh := below 9 fun j => r.slotFails.contains (n * 9 + j) && !s.nv.failedSlots.contains (n * 9 + j)
  let arr := ((r.arrays.filter fun p => p.1 == n).map Prod.snd).sum
  let s := fresh.foldl (fun s j => s.slotFailed (n * 9 + j)) s
  let s : State := { s with nv := { s.nv with arrays := tmod 0 s.nv.arrays (n / 12) (· + arr) } }
  let s := s.bindCluster n
  let s := if fresh.isEmpty then s else s.keepBinding n
  if fresh.isEmpty ∧ arr = 0 then s
  else s.raiseEvent { code := 0x03, category := 1, die := n / 12, unit := n, detail := fresh.length + min 255 arr * 256 }

/-- Step 8: CD0's steward domain runs firmware, the compute parts of every die are released, the watchdog starts. Stacked
memory is zero (21 R454). -/
def State.bootCompute (r : BootReport) (s : State) : State :=
  let s := (List.range 96).foldl (State.bootTest r) s
  let s := ((List.range 8) ++ [0x10, 0x11, 0x12, 0x13, 0x20, 0x21]).foldl (fun (s : State) d => s.modDie d fun x => { x with state := 2 }) s
  let s := (List.range 8).foldl (fun s d => s.modPwr d fun p => { p with west := 2, east := 2, on := p.on ||| 3, pll := p.pll ||| 3 }) s
  let s := s.modPwr 0 fun p => { p with steward := true, running := 1, on := p.on ||| 4, pll := p.pll ||| 4 }
  let low (t : Tbl Byte) : Tbl Byte := t.filter fun p => decide (stackEnd ≤ p.1)
  { s with mem := low s.mem, backing := s.backing.filter fun p => decide (stackEnd ≤ p.1),
           retired := s.retired ++ s.nv.listed.filter fun u => !s.retired.contains u,
           rst := { s.rst with step := 8, fwUp := true, watchdog := some s.tick } }

/-- Step 10: ports and admission start; the device is ready (21 R452, R453). Lasers are taken as working until a fault is
reported (PRESUMED, log entry 29). -/
def State.bootReady (s : State) : State :=
  let s : State := { s with rst := { s.rst with step := 10, ready := true, readyTick := s.tick } }
  (List.range 64).foldl (fun s p => if (s.port p).mode = 0 then s else s.modPort p fun x => { x with laserOk := true }) s

/-- Steps 5 to 10, after the image and the security controller.
(DESIGN CHOICE, log entry 27.) -/
def State.bootDies (r : BootReport) (s : State) : State :=
  let s := ((List.range 8) ++ [0x10, 0x11, 0x12, 0x13, 0x20, 0x21]).foldl (fun (s : State) d => s.modDie d fun x => { x with state := 1 }) s
  match r.laneFail with
  | some d => ({ s with rst := { s.rst with step := 6 } } : State).fatal 1 d
  | none =>
    match s.bootMemory r with
    | none => ({ s with rst := { s.rst with step := 7 } } : State).fatal 3 (mdCode (s.lostDie r))
    | some s =>
      let s := (s.bootCompute r).bootManifest
      if s.mft.running.isNone then { s with rst := { s.rst with step := 9 } } else s.bootReady

/-- A boot from step 1 or 2. -/
def State.bootWhole (r : BootReport) (s : State) : State :=
  let s := s.bootSec
  if !r.entropyOk then ({ s with rst := { s.rst with step := 2 } } : State).fatal 5 0x20
  else
    match s.imageOrder.find? s.imageFits with
    | some i => (s.bootImage i).bootDies r
    | none =>
      ({ s with rst := { s.rst with step := 4, recovery := true } } : State).modDie 0x20 fun x => { x with state := 3 }

/-- A boot from step 5, after UNMOOR: the image that last ran must match, or a cold reset follows (21 R459). -/
def State.bootMoored (r : BootReport) (s : State) : State :=
  let m := tget none s.rst.firmwares s.rst.image
  if m.elim false fun m => s.imageGood m && m.digest == s.sec.fwDigest then
    let b := ({ s with mft := { floor := s.mft.floor, slots := s.mft.slots } } : State).draw
    ({ b.2 with sec := { b.2.sec with bootId := b.1 } } : State).bootDies r
  else s.coldReset 6

/-- Supplies, REFCLK, RESET_IN_N and the trip latch let a boot begin (21 R452). -/
def State.bootMay (s : State) : Bool := s.rst.pending && s.rst.power && s.rst.refclk && !s.rst.resetIn && !s.aon.tripped

/-- BOOT_BEGIN (21 R452): the whole sequence, on silicon as the report finds it.
(DESIGN CHOICE, log entry 27.) -/
def execBootBegin (r : BootReport) (s : State) : Host.Outcome State Fault Refusal :=
  .next (if s.bootMay then
    let t : State := { s with rst := { s.rst with pending := false, bootFrom5 := false } }
    if s.rst.bootFrom5 then t.bootMoored r else t.bootWhole r
    else s)

/-- BOOT_WATCHDOG_EXPIRY (21 R457): 10 s from step 8 without READY; after two such resets in a row PREFER names the image
tried last. -/
def execBootWatchdogExpiry (s : State) : Host.Outcome State Fault Refusal :=
  .next (if s.rst.watchdog.elim false (fun t => decide (t + 100000000 ≤ s.tick)) ∧ s.failed.isNone then
    let n := min 7 (s.rst.tries + 1)
    ({ s with rst := { s.rst with tries := n, prefer := if 2 ≤ n then s.rst.image else s.rst.prefer } } : State).coldReset 4
    else s)

end Sys2Proof.Machine
end

