-- ==== Sys2Proof/Machine/Branch.lean ====
section
/-! DEFINITION. The branch and mask instructions (05 R115, R116; 06 R146 to R148, R154). -/

namespace Sys2Proof.Machine

open Sys2Proof


/-- br (06 R147). -/
def execBr (c : CoreAt) (w : Rest) (s : State) : Host.Outcome State Fault Refusal :=
  .next (issueJump c (wordOf 0x80 w) (fun g => g.branch (wordOf 0x80 w) true) s)

/-- brm.any: taken where m0 is nonzero and an active lane meets the mask (06 R147, R154). -/
def execBrmAny (c : CoreAt) (w : Rest) (s : State) : Host.Outcome State Fault Refusal :=
  .next (issueJump c (withField 46 1 0 (wordOf 0x81 w)) (fun g => g.branch (wordOf 0x81 w) (g.m0 &&& g.mreg (fMA (wordOf 0x81 w)) != 0)) s)

/-- brm.all: taken where m0 is nonzero and every active lane meets the mask (06 R147, R154). -/
def execBrmAll (c : CoreAt) (w : Rest) (s : State) : Host.Outcome State Fault Refusal :=
  .next (issueJump c (withField 46 1 1 (wordOf 0x81 w)) (fun g =>
    g.branch (wordOf 0x81 w) (g.m0 != 0 && g.m0 &&& g.mreg (fMA (wordOf 0x81 w)) == g.m0)) s)

/-- bz (06 R147). -/
def execBz (c : CoreAt) (w : Rest) (s : State) : Host.Outcome State Fault Refusal :=
  .next (issueJump c (wordOf 0x82 w) (fun g => g.branch (wordOf 0x82 w) (g.sreg (fBSA (wordOf 0x82 w)) == 0)) s)

/-- bnz (06 R147). -/
def execBnz (c : CoreAt) (w : Rest) (s : State) : Host.Outcome State Fault Refusal :=
  .next (issueJump c (wordOf 0x83 w) (fun g => g.branch (wordOf 0x83 w) (g.sreg (fBSA (wordOf 0x83 w)) != 0)) s)

/-- call: sA = PC + 8, then the branch (06 R147). -/
def execCall (c : CoreAt) (w : Rest) (s : State) : Host.Outcome State Fault Refusal :=
  .next (issueJump c (wordOf 0x84 w) (fun g => (g.setS (fBSA (wordOf 0x84 w)) (g.pc + 8)).branch (wordOf 0x84 w) true) s)

/-- jr: PC = sA; a target that is not 8-byte aligned faults (06 R147). -/
def execJr (c : CoreAt) (w : Rest) (s : State) : Host.Outcome State Fault Refusal :=
  .next (issue c (wordOf 0x85 w) (fun _ _ g s =>
    if (g.sreg (fBSA (wordOf 0x85 w))).toNat % 8 = 0 then s.setGroup c { g with pc := g.sreg (fBSA (wordOf 0x85 w)) }
    else s.coreFault c 0x05) s)

/-- mif (05 R115). -/
def execMif (c : CoreAt) (w : Rest) (s : State) : Host.Outcome State Fault Refusal :=
  .next (pushForm c (wordOf 0x88 w) (fun g =>
    let e : MaskEntry := { outer := g.m0, rest := g.m0 &&& ~~~(g.mreg (fMA (wordOf 0x88 w))), reconv := g.pc + fDisp (wordOf 0x88 w) }
    (({ g with stack := e :: g.stack } : Group).setM 0 (g.m0 &&& g.mreg (fMA (wordOf 0x88 w)))).orTo (g.pc + fDisp (wordOf 0x88 w))) s)

/-- melse (05 R115). -/
def execMelse (c : CoreAt) (w : Rest) (s : State) : Host.Outcome State Fault Refusal :=
  .next (maskForm c (wordOf 0x89 w) (fun g e rest =>
    (({ g with stack := { e with rest := 0, reconv := g.pc + fDisp (wordOf 0x89 w) } :: rest } : Group).setM 0 e.rest).orTo
      (g.pc + fDisp (wordOf 0x89 w))) s)

/-- mjoin (05 R115). -/
def execMjoin (c : CoreAt) (w : Rest) (s : State) : Host.Outcome State Fault Refusal :=
  .next (maskForm c (wordOf 0x8A w) (fun g e rest => (({ g with stack := rest } : Group).setM 0 e.outer).advance) s)

/-- mloop (05 R115). -/
def execMloop (c : CoreAt) (w : Rest) (s : State) : Host.Outcome State Fault Refusal :=
  .next (pushForm c (wordOf 0x8B w) (fun g =>
    let e : MaskEntry := { outer := g.m0, rest := 0, reconv := g.pc + fDisp (wordOf 0x8B w) }
    ({ g with stack := e :: g.stack } : Group).advance) s)

/-- mbrk (05 R115). -/
def execMbrk (c : CoreAt) (w : Rest) (s : State) : Host.Outcome State Fault Refusal :=
  .next (maskForm c (wordOf 0x8C w) (fun g e _ =>
    (g.setM 0 (g.m0 &&& ~~~(g.mreg (fMA (wordOf 0x8C w))))).orTo e.reconv) s)

/-- mskip (05 R115). -/
def execMskip (c : CoreAt) (w : Rest) (s : State) : Host.Outcome State Fault Refusal :=
  .next (maskForm c (wordOf 0x8D w) (fun g e rest =>
    (({ g with stack := { e with rest := e.rest ||| (g.m0 &&& g.mreg (fMA (wordOf 0x8D w))) } :: rest } : Group).setM 0
      (g.m0 &&& ~~~(g.mreg (fMA (wordOf 0x8D w))))).orTo e.reconv) s)

/-- mresume (05 R115). -/
def execMresume (c : CoreAt) (w : Rest) (s : State) : Host.Outcome State Fault Refusal :=
  .next (maskForm c (wordOf 0x8E w) (fun g e rest =>
    (({ g with stack := { e with rest := 0 } :: rest } : Group).setM 0 (g.m0 ||| e.rest)).advance) s)

/-- mand (06 R148). -/
def execMand (c : CoreAt) (w : Rest) (s : State) : Host.Outcome State Fault Refusal :=
  .next (mlogForm c (withField 24 4 0 (wordOf 0x8F w)) 0 s)

/-- mor (06 R148). -/
def execMor (c : CoreAt) (w : Rest) (s : State) : Host.Outcome State Fault Refusal :=
  .next (mlogForm c (withField 24 4 1 (wordOf 0x8F w)) 1 s)

/-- mxor (06 R148). -/
def execMxor (c : CoreAt) (w : Rest) (s : State) : Host.Outcome State Fault Refusal :=
  .next (mlogForm c (withField 24 4 2 (wordOf 0x8F w)) 2 s)

/-- mandn (06 R148). -/
def execMandn (c : CoreAt) (w : Rest) (s : State) : Host.Outcome State Fault Refusal :=
  .next (mlogForm c (withField 24 4 3 (wordOf 0x8F w)) 3 s)

/-- mnot (06 R148). -/
def execMnot (c : CoreAt) (w : Rest) (s : State) : Host.Outcome State Fault Refusal :=
  .next (mlogForm c (withField 24 4 4 (wordOf 0x8F w)) 4 s)

/-- mmov (06 R148). -/
def execMmov (c : CoreAt) (w : Rest) (s : State) : Host.Outcome State Fault Refusal :=
  .next (mlogForm c (withField 24 4 5 (wordOf 0x8F w)) 5 s)

/-- ms2m (06 R148). -/
def execMs2m (c : CoreAt) (w : Rest) (s : State) : Host.Outcome State Fault Refusal :=
  .next (mlogForm c (withField 24 4 6 (wordOf 0x8F w)) 6 s)

/-- mm2s: sA = mA, zero-extended (06 R148). -/
def execMm2s (c : CoreAt) (w : Rest) (s : State) : Host.Outcome State Fault Refusal :=
  .next (issueGroup c (withField 24 4 7 (wordOf 0x8F w)) (fun g => g.setS (fBSA (wordOf 0x8F w)) (g.mreg (fMA (wordOf 0x8F w)))) s)

end Sys2Proof.Machine
end

