-- ==== Sys2Proof/Machine/Convert.lean ====
section
/-! DEFINITION. cvt and amaxr (06 R149, 08 R198 to R203). -/

namespace Sys2Proof.Machine

open Sys2Proof

/-- The source registers of lane `t` of a cvt (08 R199). -/
def cvtRegs (g : Group) (w : Word) (t : Nat) : List Lane :=
  (List.range (cvtSpans (fFsrc w) (fFdst w)).1).map fun r => g.lane (fVA w + r) t

/-- The scale byte of lane `t` (08 R201). -/
def cvtScale (g : Group) (w : Word) (t : Nat) : Nat := (g.lane (fVB w) t).toNat % 256

/-- The destination registers of a cvt, written in the active lanes (08 R199). -/
def cvtWrite (g : Group) (w : Word) : Group :=
  (List.range (cvtSpans (fFsrc w) (fFdst w)).2).foldl (fun h r =>
    h.setLanes (fVD w + r) fun t =>
      (cvtLane (fFsrc w) (fFdst w) (fRm w) (bitAt 22 w) (cvtScale g w t) (cvtRegs g w t)).getD r 0) g

/-- The running maximum after a cvt with AMAX (08 R202). -/
def cvtAmax (g : Group) (w : Word) : Lane :=
  if bitAt 23 w then
    (g.lanes.flatMap fun t => cvtSource (fFsrc w) (fFdst w) (cvtScale g w t) (cvtRegs g w t)).foldl amaxWith g.amax
  else g.amax

/-- cvt (06 R149). -/
def execCvt (c : CoreAt) (w : Rest) (s : State) : Host.Outcome State Fault Refusal :=
  .next (issueGroup c (wordOf 0x90 w) (fun g =>
    { cvtWrite g (wordOf 0x90 w) with amax := cvtAmax g (wordOf 0x90 w) }) s)

/-- amaxr: the running maximum into SD, then +0 where CLR is 1 (08 R203). -/
def execAmaxr (c : CoreAt) (w : Rest) (s : State) : Host.Outcome State Fault Refusal :=
  .next (issueGroup c (wordOf 0x91 w) (fun g =>
    { g.setS (fCSD (wordOf 0x91 w)) (g.amax.setWidth 64) with
      amax := if bitAt 13 (wordOf 0x91 w) then 0 else g.amax }) s)

end Sys2Proof.Machine
end

