-- ==== Sys2Proof/Machine/Security.lean ====
section
/-! DEFINITION. The commands of the security controller (19 R418 to R422, R426, R429). A row completes the command that a
write of SEC_CMD or a mailbox request has started; with none running, firmware writes SEC_CMD and the command runs at once. -/

namespace Sys2Proof.Machine

open Sys2Proof

/-- The places of `n` bytes from a DPA on. -/
def State.dpaLocs (s : State) (a n : Nat) : List Loc := (List.range n).map fun i => s.dpaLoc (a + i)
/-- An access of the security controller with a byte that reaches nothing sets CS_ERR of XD0 (01 R30). -/
def State.secReach (a n : Nat) (s : State) : State := if (s.dpaLocs a n).contains .nothing then s.csError 0x20 false else s
/-- Its output at SEC_DST: bytes that reach memory are written, others are discarded (01 R30; 19 R429). -/
def State.secOutput (out : List Byte) (s : State) : State :=
  ((s.dpaLocs s.sec.dst out.length).zip out).foldl (fun s q => match q.1 with
    | .mem a => s.deviceWrite noCtx (.mem a) [q.2]
    | _ => s) (s.secReach s.sec.dst out.length)

/-- The end of a SEC command: its result, and its output at SEC_DST, or at the host for a mailbox request (19 R429, 21 R467).
(DESIGN CHOICE, log entry 30.) -/
def State.endSec (result : Nat) (out : List Byte) (s : State) : State :=
  let mb := s.sec.viaMbx
  let s : State := { s with sec := { s.sec with running := none, input := [], viaMbx := false, result := result, resultNew := true } }
  let out := if result = 0 then out else []
  if mb then
    match s.mbx.req with
    | some (op, tag, .security, w) =>
      if out.isEmpty then s.respond op tag (if result = 0 then 0 else 3) result (bytesOf 4 0)
      else if w && s.mbx.linkUp then ({ s with mbx := { s.mbx with hostOut := out } } : State).respond op tag 0 0 (bytesOf 4 out.length)
      else s.respond op tag 5 0 []
    | _ => s
  else if out.isEmpty then s else s.secOutput out

/-- A command is written to SEC_CMD, or comes by the mailbox: BUSY while one runs; an OP that is not listed ends with
BAD_FORMAT (DESIGN CHOICE, log entry 30). -/
def State.startSec (op : Nat) (input : List Byte) (viaMbx : Bool) (s : State) : State :=
  if s.sec.running.isSome then
    let s : State := { s with sec := { s.sec with result := 5, resultNew := true } }
    if viaMbx then s.answerWait .security 5 (bytesOf 4 0) else s
  else
    let s : State := { s with sec := { s.sec with running := some op, input := input, viaMbx := viaMbx } }
    if 1 ≤ op ∧ op ≤ 6 then s else s.endSec 1 []

/-- The input that firmware names: bytes that do not reach memory read as zero (01 R30; log entry 30). -/
def State.secInput (s : State) : List Byte :=
  (s.dpaLocs s.sec.src s.sec.len).map fun l => match l with
    | .mem a => s.byte a
    | _ => 0
/-- Firmware starts a command, whose input is read then; a running one lets nothing be read (19 R429). -/
def State.fwSec (op : Nat) (s : State) : State :=
  if s.sec.running.isSome then s.startSec op [] false else (s.secReach s.sec.src s.sec.len).startSec op s.secInput false

/-- A row: the command that runs, or one that firmware starts now. -/
def secRow (op : Nat) (f : List Byte → State → State) (s : State) : Host.Outcome State Fault Refusal :=
  .next (if !s.running || !s.sec.ready then s
    else match s.sec.running with
      | some o => if o = op ∧ s.sec.moving.isNone then f s.sec.input s else if s.fwActs then s.fwSec op else s
      | none => if s.fwActs then f s.secInput (s.fwSec op) else s)

/-- Bytes of a range are zero. -/
def zeroAt (b : List Byte) (off n : Nat) : Bool := ((b.drop off).take n).all (· == 0)

/-! ### LIFECYCLE (19 R418 to R420) -/

/-- The transitions of 19 R419. -/
def lifeEdges : List (Nat × Nat) := [(0, 1), (1, 2), (2, 1), (2, 3), (1, 3), (3, 1), (2, 4), (1, 4), (3, 4)]

/-- "TV88LCMD" -/
def lifeMagic : List Byte := beBytes 8 0x545638384C434D44

/-- A lifecycle command stands as 19 R420 lays it out. -/
def lifeFormat (b : List Byte) : Bool :=
  b.length == 3116 && b.take 8 == lifeMagic && zeroAt b 9 3 && zeroAt b 0x81 3 && zeroAt b 0xBC 4 && decide (bf b 8 1 ≤ 4) &&
  (bf b 8 1 == 2 || (zeroAt b 0x20 97 && zeroAt b 0x84 56))

/-- Why a lifecycle command is refused, 0 where it is not. -/
def State.lifeRefusal (s : State) (b : List Byte) (g : Sigs) : Nat :=
  let t := bf b 8 1
  if !lifeFormat b then 1
  else if (b.drop 0x10).take 16 ≠ s.sec.serial ∨ bf b 0x0C 4 ≠ s.transitions then 6
  else if !lifeEdges.contains (s.lifecycle, t) ∨ (63 ≤ s.transitions ∧ t ≠ 4) ∨ 64 ≤ s.transitions then 3
  else if !g.ecdsa || !g.lms then 2
  else if (List.range 256).any (fun i => (s.berth i).state != 0) ∨ s.mft.phase ≠ .idle then 4 else 0

/-- Part 1 of an accepted transition: the new owner key record is in the store and carries the new TRANSITIONS (19 R420). A
target without owner keys has no new record; the old one stands until it is zeroised (DESIGN CHOICE, log entry 59). -/
def State.transition (b : List Byte) (s : State) : State :=
  let t := bf b 8 1
  let s : State := { s with sec := { s.sec with moving := some t } }
  if t = 2 then
    { s with sec := { s.sec with owner := some ((sha384 (((b.drop 0x20).take 97) ++ ((b.drop 0x84).take 56))).take 16),
                                 ownerTrans := s.transitions + 1 } }
  else s

/-- Parts 2 to 5 of a transition (19 R419, R420): the fuse entry, the keys, the security event, the answer and the cold reset.
They follow at the end of the tick in which part 1 was done, so that power can be lost between (19 R421).
(DESIGN CHOICE, log entry 59.) -/
def State.finishMove (s : State) : State :=
  match s.sec.moving with
  | none => s
  | some t =>
    let c := s.sec
    let s : State := { s with sec := { c with
      entries := c.entries ++ [t], owner := if t = 2 then c.owner else none, udsGone := c.udsGone || t == 4,
      next := if t = 4 then 0 else c.next, top := if t = 4 then 0 else c.top } }
    ((s.secEvent 1 0).endSec 0 []).coldReset 3

/-- LIFECYCLE (19 R420): the command stays BUSY until its transition is done.
(DESIGN CHOICE, log entry 59.) -/
def execLifecycle (sigs : Sigs) (s : State) : Host.Outcome State Fault Refusal :=
  secRow 1 (fun b s =>
    let r := s.lifeRefusal b sigs
    if r = 0 then s.transition b
    else (if r = 2 then s.secEvent 1 2 else s).endSec r []) s

/-! ### ATTEST, CAL_READ and ID_CERT (19 R411 to R416, R426, R429) -/

/-- ATTEST: a full chain around a KIND 1 report, for a berth or for none. A berth without keys is a RANGE error (log entry
30).
(DESIGN CHOICE, log entry 30.) -/
def execAttest (s : State) : Host.Outcome State Fault Refusal :=
  secRow 2 (fun b s =>
    let n := bf b 32 1
    if b.length ≠ 33 then s.endSec 1 []
    else if n ≠ 0xFF ∧ (s.berth n).state = 0 then s.endSec 7 []
    else match s.report3 1 (if n = 0xFF then none else some n) (b.take 32) with
      | some r => r.2.endSec 0 (r.2.fullChain r.1)
      | none => s.endSec 8 []) s

/-- CAL_READ: the stored record; zero bytes where none has been written. -/
def execCalRead (s : State) : Host.Outcome State Fault Refusal :=
  secRow 4 (fun _ s => s.endSec 0 (s.cal.stored ++ zeros (8192 - s.cal.stored.length))) s

/-- ID_CERT: the DeviceID certificate, which a device in BLANK does not have. -/
def execIdCert (s : State) : Host.Outcome State Fault Refusal :=
  secRow 6 (fun _ s => if s.lifecycle = 0 then s.endSec 3 [] else s.endSec 0 s.deviceCert) s

/-! ### CAL_WRITE (19 R425, R426) -/

/-- Fields of `n` bytes from an offset on lie in a range, read as signed or unsigned. -/
def inRange (b : List Byte) (off n count : Nat) (sx : Bool) (lo hi : Int) : Bool :=
  (List.range count).all fun i =>
    let v : Int := if sx then signed (8 * n) (bf b (off + i * n) n) else (bf b (off + i * n) n : Nat)
    decide (lo ≤ v) && decide (v ≤ hi)

/-- Every range of the table "Calibration record". -/
def calRanges (b : List Byte) : Bool :=
  inRange b 0x20 2 128 true (-128) 128 && inRange b 0x120 1 39 true (-10) 20 && inRange b 0x160 4 224 false 1 0xFFFFFF &&
  inRange b 0x4E0 2 1024 false 0 4095 && inRange b 0xCE0 2 512 false 0 20000

/-- The reserved bytes of a calibration record. -/
def calReserved (b : List Byte) : Bool := zeroAt b 0x0B 1 && zeroAt b 0x147 25 && zeroAt b 0x10E0 3868

/-- Why a calibration record is refused, in the order of 19 R426. -/
def State.calRefusal (s : State) (b : List Byte) (g : Sigs) : Nat :=
  if s.lifecycle = 0 ∨ s.lifecycle = 4 then 3
  else if b.length ≠ 11116 then 1
  else if !g.ecdsa || !g.lms then 2
  else if b.take 8 ≠ calMagic ∨ bf b 8 2 ≠ 1 then 1
  else if (b.drop 0x10).take 16 ≠ s.sec.serial then 6
  else if bf b 0x1FFC 4 ≠ crc32c (b.take 0x1FFC) then 1
  else if !calRanges b then 7
  else if !calReserved b then 1 else 0

/-- The record as it is written: ORIGIN by signer, WRITES, and a new CRC (19 R426). -/
def State.calRecord (s : State) (b : List Byte) : List Byte :=
  let w := (if s.cal.stored.isEmpty then 0 else bf s.cal.stored 0x0C 4) + 1
  let body := b.take 0x0A ++ bytesOf 1 (if s.lifecycle = 2 then 1 else 0) ++ zeros 1 ++ bytesOf 4 w ++ (b.drop 0x10).take 0x1FEC
  body ++ bytesOf 4 (crc32c body)

/-- CAL_WRITE (19 R426): `stored` tells whether the write to the store succeeds. -/
def execCalWrite (sigs : Sigs) (stored : Bool) (s : State) : Host.Outcome State Fault Refusal :=
  secRow 3 (fun b s =>
    let r := s.calRefusal b sigs
    if r = 0 then
      (if stored then ({ s with cal := { s.cal with stored := s.calRecord b, pending := true } } : State).endSec 0 []
       else s.endSec 9 [])
    else (if r = 2 then s.secEvent 3 2 else s).endSec r []) s

/-! ### DEBUG_TOKEN (19 R422; 20 R439) -/

/-- "TV88DBGT" -/
def tokenMagic : List Byte := beBytes 8 0x5456383844424754

/-- DEBUG_FLAGS and MAX_LEVEL in force for tokens: of the running Manifest; with none, no token is accepted. -/
def State.tokenRefusal (s : State) (b : List Byte) (g : Sigs) : Nat :=
  let l := bf b 8 1
  if b.length ≠ 2988 ∨ b.take 8 ≠ tokenMagic ∨ l = 0 ∨ 3 < l ∨ !zeroAt b 9 7 then 1
  else if s.lifecycle = 0 ∨ s.lifecycle = 4 then 3
  else if (b.drop 16).take 16 ≠ s.sec.serial ∨ (b.drop 32).take 32 ≠ s.sec.challenge then 6
  else if !g.ecdsa || !g.lms then 2
  else if s.mft.running.isNone ∨ bf (s.mrec 0x0A) 1 1 % 2 = 0 ∨ bf (s.mrec 0x0A) 0 1 < l ∨ (s.lifecycle = 1 ∧ 2 < l) then 0x0A
  else 0

/-- DEBUG_TOKEN (19 R422): the challenge is drawn anew after every submission. -/
def execDebugToken (sigs : Sigs) (s : State) : Host.Outcome State Fault Refusal :=
  secRow 5 (fun b s =>
    let r := s.tokenRefusal b sigs
    let c := s.freeBytes 32
    let s : State := { c.2 with sec := { c.2.sec with challenge := c.1, token := if r = 0 then some (bf b 8 1) else c.2.sec.token } }
    (if r = 0 ∨ r = 2 then s.secEvent 5 r else s).endSec r []) s

end Sys2Proof.Machine
end

