-- ==== Sys2Proof/Machine/Observation.lean ====
section
/-! DEFINITION. Counters that timing drives, all-stop and scan-out (20 R432 to R434, R445 to R450), and the JTAG and I3C
ports (22 R482, R483). -/

namespace Sys2Proof.Machine

open Sys2Proof

/-! ### Counters (20 R434) -/

/-- START of MON_CTL: the MON_UNIT counters of the die restart together. -/
def State.monStart (d : Nat) (s : State) : State := s.modMon d fun m => { m with units := [], interval := m.time }

/-- MON_CTL_START (20 R434). -/
def execMonCtlStart (die : Nat) (s : State) : Host.Outcome State Fault Refusal :=
  .next (if s.fwActs ∧ (s.die die).state ≠ 0 then s.monStart die else s)

/-- The units of a die's MON block (20 "MON units"). -/
def monUnits (d : Nat) : Nat := if d < 8 then 38 else if d < 0x14 then 20 else 41

/-- What a unit's counter advances by in a tick: ticks with the island awake are counted, and an asleep island counts
nothing; elsewhere what timing decides, a free amount (20 "MON units", R432). -/
def State.unitStep (s : State) (d i free : Nat) : Nat :=
  if d < 8 ∧ i < 36 ∧ (s.cluster (d * 12 + i % 12)).asleep then 0
  else if d < 8 ∧ 24 ≤ i ∧ i < 36 then 1
  else if d = 0x21 ∧ i = 32 then 0
  else (Config.freeWord free i).toNat % 2 ^ 20

/-- Core cycles in a tick: 100, or 95 while REFCLK is lost (18 R381, R383).
(DESIGN CHOICE, log entry 69.) -/
def State.tickCycles (s : State) : Nat := if s.aon.osc then 95 else 100

/-- A tick of a die that runs: MON_TIME; the lane errors its gangways have detected; the cycles in which a seam FIFO of a
compute die was full, at most those of the tick; and the cycle and busy counters: what timing and silicon decide are free
amounts (01 R37; 20 R432).
(DESIGN CHOICE, log entry 66.) -/
def State.tickDie (s : State) (d : Nat) : State :=
  let n := s.free
  let amount (i : Nat) : Nat := (Config.freeWord n i).toNat % 2 ^ 20
  let step (i : Nat) : Nat := s.unitStep d i n
  let s : State := { s with free := n + 1 }
  s.modDie d fun x =>
    let u := (List.range (monUnits d)).foldl (fun t i => tset 0 t i ((tget 0 t i + step i) % 2 ^ 64)) x.mon.units
    let full (i n : Nat) : Nat := if d < 8 then satAdd n (amount i % (s.tickCycles + 1)) else n
    { x with mon := { x.mon with time := (x.mon.time + 1) % 2 ^ 64, units := u },
             dbg := { x.dbg with stamp := (x.dbg.stamp + 100) % 2 ^ 64 },
             laneErr := satAdd x.laneErr (amount 66),
             seamW2E := full 64 x.seamW2E, seamE2W := full 65 x.seamE2W }

/-! ### All-stop (20 R445 to R449) -/

/-- DBG_CTL_STOP (20 R445): firmware writes STOP on a die, on a mailbox command. -/
def execDbgCtlStop (die : Nat) (s : State) : Host.Outcome State Fault Refusal :=
  .next (if s.fwActs then s.triggerStop die else s)

/-- The logic of XD0 is powered (22 R482). -/
def State.xd0On (s : State) : Bool := s.rst.power && !s.aon.moored

/-- JTAG_ALLSTOP (20 R445; 22 R482): while D3 is engaged; otherwise as BYPASS. -/
def execJtagAllstop (s : State) : Host.Outcome State Fault Refusal :=
  .next (if s.xd0On ∧ s.running then s.triggerStop 0x20 else s)

/-- ALLSTOP_BROADCAST (20 R446 to R449): XD0 broadcasts the first request; every die that runs stops within 12 cycles.
(DESIGN CHOICE, log entry 42.) -/
def execAllstopBroadcast (s : State) : Host.Outcome State Fault Refusal :=
  .next (if !s.stopAsked ∨ s.stopped then s
    else
      let n := s.free
      let lag (d : Nat) : Nat := (Config.freeWord n d).toNat % 13
      let s : State := { s with stopped := true, stopAsked := false, free := n + 1 }
      ((List.range 8) ++ [0x10, 0x11, 0x12, 0x13, 0x20, 0x21]).foldl (fun (s : State) d => s.modDie d fun x =>
        let g := x.dbg
        { x with dbg := { g with
          seen := g.stamp, osc := g.osc || s.aon.osc, stopped := true,
          stop := if g.stopped then g.stop else (g.stamp + lag d) % 2 ^ 64 } }) s)

/-- DBG_STATUS of a die (20 R451). -/
def State.dbgStatus (s : State) (d : Nat) : Nat :=
  let g := (s.die d).dbg
  s.debugLevel + 4 * b2n s.engaged + 8 * b2n g.stopped + 16 * b2n g.origin + 32 * b2n g.osc

/-- A section of a scan record (20 R450). -/
def scanSection (ty unit : Nat) (b : List Byte) : List Byte := bytesOf 2 ty ++ bytesOf 2 unit ++ bytesOf 4 b.length ++ zeros 8 ++ b

/-- The sections of types 1 to 10 of a die's scan record: the spec gives neither their words nor how many there are, so they
are free bytes of a free length, the same at every reading (DESIGN CHOICE, log entry 31). -/
def State.capturedSections (s : State) (d : Nat) : List Byte :=
  (List.range ((Config.freeWord s.free (2 ^ 32 + d)).toNat % 2 ^ 32)).map fun i => Config.freeByte s.free (2 ^ 64 * (d + 1) + i)

/-- The scan record of a die: header, captured sections, MON section and DBG section (20 R450). The fields of the header stand in
their order, 8 bytes each, and the registers of a block in theirs (DESIGN CHOICE, log entry 31). -/
def State.scanRecord (s : State) (d : Nat) : List Byte :=
  let g := (s.die d).dbg
  let m := (s.die d).mon
  let w (n : Nat) : List Byte := bytesOf 8 n
  let array := s.capturedSections d
  let mon := scanSection 11 0 (w m.time ++ w 0 ++ w m.interval ++ w m.csErr ++
    w (b2n m.ovf + m.count * 256 + m.lastOff * 65536) ++ (List.range 64).flatMap fun u => w (tget 0 m.units u))
  let dbg := scanSection 12 0 (w (s.dbgStatus d) ++ w (2 * b2n g.trigFault) ++ w g.stamp ++ w g.trig ++ w g.seen ++ w g.stop)
  w d ++ w g.trig ++ w g.seen ++ w g.stop ++ w (s.dbgStatus d) ++ w (64 + array.length + mon.length + dbg.length) ++ zeros 16 ++
    array ++ mon ++ dbg

/-- SCAN_OUT (20 R450): a die's captured state, once every die has stopped.
(DESIGN CHOICE, log entry 31.) -/
def execScanOut (die : Nat) (s : State) : Host.Outcome State Fault Refusal :=
  .next (if s.stopped ∧ (die < 8 ∨ (0x10 ≤ die ∧ die < 0x14) ∨ die = 0x20 ∨ die = 0x21) then s.say (.pinsOut 2 (s.scanRecord die)) else s)

/-! ### JTAG (22 R482) -/

/-- JTAG_BYPASS: the bypass register alone; nothing of the device is touched. -/
def execJtagBypass (s : State) : Host.Outcome State Fault Refusal := .next (if s.xd0On then s.say (.pinsOut 0 []) else s)

/-- JTAG_IDCODE. -/
def execJtagIdcode (s : State) : Host.Outcome State Fault Refusal :=
  .next (if s.xd0On then s.say (.pinsOut 0 (bytesOf 4 0x188004F3)) else s)

/-- JTAG_SAMPLE_PRELOAD: the levels sampled on the sideband pins. -/
def execJtagSamplePreload (s : State) : Host.Outcome State Fault Refusal :=
  .next (if s.xd0On then s.say (.pinsOut 0 (bytesOf 2 s.aon.pinLevel)) else s)

/-- JTAG_EXTEST: at D3 the pins are driven from the boundary register; below it acts as BYPASS (20 R440). -/
def execJtagExtest (s : State) : Host.Outcome State Fault Refusal :=
  .next (if !s.xd0On then s else if s.debugLevel = 3 then s.say (.pinsOut 3 []) else s.say (.pinsOut 0 []))

/-! ### I3C (22 R483) -/

/-- The hottest of the readings, °C. -/
def State.hotJunction (s : State) : Nat := s.dies.foldl (fun m p => max m p.2.pwr.fig.tj) 0
def State.hotStack (s : State) : Nat := (List.range 8).foldl (fun m k => max m (s.stack k).temp) 0

/-- I3C_STATUS_READ: the status bytes in the order of the list of 22 R483 (DESIGN CHOICE, log entry 31). -/
def execI3cStatusRead (s : State) : Host.Outcome State Fault Refusal :=
  .next (if s.rst.vddAon ∧ (s.rst.power ∨ s.aon.tripped) then
    s.say (.pinsOut 1 (bytesOf 1 s.powerState ++ bytesOf 1 s.hotJunction ++ bytesOf 1 s.hotStack ++ bytesOf 2 (s.pwr.total / 16) ++
      bytesOf 1 (b2n s.aon.tripped) ++ bytesOf 2 s.aon.shortLow ++ bytesOf 2 s.aon.shortHigh))
    else s)

end Sys2Proof.Machine
end

