-- ==== Sys2Proof/Machine/Pinset.lean ====
section
/-! DEFINITION. Supplies, reset, sideband pins, the thermal trip and cooling (21 R464; 22 R474 to R479, R486). -/

namespace Sys2Proof.Machine

open Sys2Proof

/-! ### Sideband outputs (22 R475, R476; 21 R464; 02 R47) -/

/-- An event of a category keeps its pins asserted: unacknowledged, or asserted for less than 10 µs. -/
def State.evtOn (s : State) (c : Nat) : Bool := s.evtOpen.testBit c || decide (s.tick < tget 0 s.aon.evtUntil c)

/-- PINS[c] of the running Manifest's EVENT_ROUTE; no pin where there is none. -/
def State.route (s : State) (c : Nat) : Nat := bf (s.mrec 0x0B) (4 * c) 2

/-- ALIVE_OUT_N: asserted when ready, in all-stop and when moored. -/
def State.alive (s : State) : Bool := s.rst.power && !s.aon.tripped && s.failed.isNone && (s.rst.ready || s.aon.moored)

/-- The outputs that the device asserts, by pin index. -/
def State.pinAsserted (s : State) (n : Nat) : Bool :=
  if n = 0 then s.alive
  else if n = 2 then s.aon.tripped
  else if n < 11 then
    let b := if n = 1 then 8 else n - 3
    (List.range 8).any fun c => s.evtOn c && (s.route c).testBit b
  else false

def State.assertedPins (s : State) : Nat := (below 11 s.pinAsserted).foldl (fun m n => m + 2 ^ n) 0

/-- The categories of a bitmap are acknowledged. -/
def State.ackEvents (cats : Nat) (s : State) : State := { s with evtOpen := (below 8 fun c => s.evtOpen.testBit c && !cats.testBit c).foldl (fun m c => m + 2 ^ c) 0 }

/-- AON_EVT_ACK (22 R476). -/
def execAonEvtAck (cats : Nat) (s : State) : Host.Outcome State Fault Refusal := .next (if s.fwActs then s.ackEvents cats else s)

/-- A counter of mismatching samples; ten in a row are found once. -/
def runStep (bad : Bool) (r : Nat) : Nat := if bad then min 10 (r + 1) else 0

/-- PIN_SHORT_SAMPLE (22 R477): the levels of the pins, bit n of pin n, against what the device asserts.
(DEDUCED, log entry 61.) -/
def execPinShortSample (level : Nat) (s : State) : Host.Outcome State Fault Refusal :=
  .next (if !s.rst.vddAon ∨ !(s.rst.power || s.aon.tripped) then s
    else
      let a := s.aon
      let lowBad (n : Nat) := !s.pinAsserted n && !level.testBit n
      let highBad (n : Nat) := s.pinAsserted n && level.testBit n
      let low := (List.range 11).foldl (fun t n => tset 0 t n (runStep (lowBad n) (tget 0 t n))) a.runLow
      let high := (List.range 11).foldl (fun t n => tset 0 t n (runStep (highBad n) (tget 0 t n))) a.runHigh
      let bits (t : Tbl Nat) : Nat := (below 11 fun n => tget 0 t n == 10).foldl (fun m n => m + 2 ^ n) 0
      let sl := a.shortLow ||| bits low
      let sh := a.shortHigh ||| bits high
      let s : State := { s with aon := { a with pinLevel := level % 4096, runLow := low, runHigh := high, shortLow := sl, shortHigh := sh } }
      if sl = a.shortLow ∧ sh = a.shortHigh then s
      else s.raiseEvent { code := 0x1A, category := 0, die := 0x20, detail := sl + sh * 65536 })

/-! ### Supplies and reset (21 R452, R459, R460; 22 R474, R475) -/

/-- POWER_GOOD (22 R474, R478): a boot is to follow, with AON_TICK at 0, unless the trip latch is set. -/
def execPowerGood (s : State) : Host.Outcome State Fault Refusal :=
  .next (if s.rst.power then s
    else { s with tick := 0, rst := { s.rst with power := true, vddAon := true, pending := true, cause := 0 },
                  aon := { s.aon with refclkGood := if s.aon.osc then some 0 else none } })

/-- Everything that is lost with the supplies. -/
def State.powerDown (s : State) : State :=
  let s := s.coldReset 0
  { s with mbx := {}, rst := { s.rst with power := false } }

/-- POWER_GOOD_LOST (22 R474, 21 R460). -/
def execPowerGoodLost (s : State) : Host.Outcome State Fault Refusal := .next (if s.rst.power then s.powerDown else s)

/-- RESET_IN_N (21 R460; 22 R475, R479): asserted, it holds a cold reset; released, boot may begin. The trip latch is not
touched by it. -/
def execResetInN (asserted : Bool) (s : State) : Host.Outcome State Fault Refusal :=
  .next (if asserted then
      (if s.rst.power then
        let t := s.coldReset 1
        { t with rst := { t.rst with resetIn := true } }
       else { s with rst := { s.rst with resetIn := true } })
    else { s with rst := { s.rst with resetIn := false } })

/-- THERMAL_TRIP (22 R478): the latch sets; every fast PLL stops, every transmitter is dark, and firmware does not run. -/
def execThermalTrip (junction stack : Bool) (s : State) : Host.Outcome State Fault Refusal :=
  .next (if !s.rst.vddAon ∨ !s.rst.power ∨ !(junction || stack) then s
    else
      let a := s.aon
      let s : State := { s with
        aon := { a with tripped := true, tripJunction := a.tripJunction || junction, tripStack := a.tripStack || stack },
        rst := { s.rst with fwUp := false, ready := false, watchdog := none } }
      s.darkAll)

/-- VDD_AON_REMOVAL (22 R478): the trip latch clears; nothing is powered. -/
def execVddAonRemoval (s : State) : Host.Outcome State Fault Refusal :=
  .next (let t := s.powerDown
    { t with aon := {}, rst := { t.rst with vddAon := false, resetIn := false } })

/-! ### Cooling (22 R486) -/

/-- COOLANT_EVALUATION: the means of the inlet and outlet rows, in 1/16 °C, once every 1 s while PWR_TOTAL exceeds
1,000 W. -/
def execCoolantEvaluation (inlet outlet : Nat) (s : State) : Host.Outcome State Fault Refusal :=
  .next (if !s.running ∨ !s.rst.power ∨ s.pwr.total ≤ 16000 ∨ s.tick < s.aon.coolTick + 10000000 then s
    else
      let a := s.aon
      let toward := if a.reversed then decide (inlet + 32 ≤ outlet) else decide (outlet + 32 ≤ inlet)
      let n := if toward then a.coolRun + 1 else 0
      let flip := n == 10
      let s : State := { s with aon := { a with
        coolTick := s.tick, inletRow := inlet, outletRow := outlet, coolRun := if flip then 0 else n, reversed := a.reversed != flip } }
      if flip then s.raiseEvent { code := 0x11, category := 2, die := 0x20, detail := b2n (!a.reversed) } else s)

end Sys2Proof.Machine
end

