-- ==== Sys2Proof/Machine/Regs.lean ====
section
/-! DEFINITION. The registers of control space as they are read (00 R3 to R6; 01 R34 to R39) and every chapter's table of
registers. -/

namespace Sys2Proof.Machine

open Sys2Proof

/-! ### Finding a register (01 R34) -/

/-- Entry `i` of `n` places of a size from a start on, and what is left of an offset. -/
def placeIn (start size n off : Nat) : Option (Nat × Nat) :=
  if start ≤ off ∧ off < start + size * n then some ((off - start) / size, (off - start) % size) else none

/-- The block that stands at an offset of a die's window, and the register offset in it. A block reaches to the next
block's place, or 1 MiB, or SES 2 MiB (DESIGN CHOICE, log entry 32).
(DEDUCED, log entry 62.) -/
def locate (d off : Nat) : Option (Blk × Nat) :=
  let one (b : Blk) (start size : Nat) : Option (Blk × Nat) := (placeIn start size 1 off).map fun p => (b, p.2)
  let many (b : Nat → Blk) (start size n : Nat) : Option (Blk × Nat) := (placeIn start size n off).map fun p => (b p.1, p.2)
  let all := [one .die 0 0x10000, one .pwr 0x10000 0x10000, one .mon 0x20000 0x10000, one .rpr 0x30000 0x10000,
    one .gwy 0x40000 0x10000, one .dbg 0x60000 0x10000]
  let cd := [one .noc 0x50000 0x10000, many .clu 0x100000 0x10000 12, many .cor 0x200000 0x4000 108, one .stw 0x400000 0x100000]
  let md := [one .noc 0x50000 0x10000, many .llc 0x100000 0x1000 64, one .dir 0x200000 0x100000, many .hbm 0x300000 0x80000 2,
    many .set 0x400000 0x10000 8]
  let xd := [one .bth 0x200000 0x100000, many .xpt 0x300000 0x2000 32, one .eth 0x400000 0x100000, one .lpx 0x500000 0x100000]
  let x0 := [one .prf 0x100000 0x100000, one .sec 0x600000 0x100000, one .aon 0x700000 0x100000, one .mft 0x800000 0x100000,
    one .cal 0x900000 0x100000, one .rst 0xA00000 0x100000, one .ses 0xB00000 0x200000]
  (all ++ (if d < 8 then cd else if d < 0x20 then md else if d = 0x20 then xd ++ x0 else xd)).findSome? id

/-- A die code names a die. -/
def isDie (d : Nat) : Bool := decide (d < 8) || (decide (0x10 ≤ d) && decide (d < 0x14)) || d == 0x20 || d == 0x21

/-- Fields put together, each at its lowest bit. -/
def pk (fs : List (Nat × Nat)) : Nat := fs.foldl (fun n f => n + f.2 * 2 ^ f.1) 0

/-- Eight bytes of a string of bytes, as a register shows them. -/
def word8 (b : List Byte) (i : Nat) : Nat := bf b (8 * i) 8

/-! ### Blocks of every die -/

/-- DIE (01 R14). -/
def State.dieReg (s : State) (d off : Nat) : Nat :=
  let x := s.die d
  match off with
  | 0 => pk [(0, d), (8, if d < 8 then 1 else if d < 0x20 then 2 else 3), (12, 2)]
  | 8 => pk [(0, x.state), (4, if d < 8 then x.pwr.west else 0), (6, if d < 8 then x.pwr.east else 0), (8, b2n x.csErr)]
  | _ => 0

/-- The domains of a die that are powered, by code (18 R385): a memory-side die's second is that of its set engines, an I/O
die's are its logic, its two groups of ports, and XD0's always-on logic.
(DEDUCED, log entry 63.) -/
def State.domains (s : State) (d : Nat) : Nat :=
  let lit (x lo : Nat) : Bool := (List.range 16).any fun p => (s.port (x * 32 + lo + p)).mode != 0
  if (s.die d).state = 0 then 0
  else if d < 8 then (s.die d).pwr.on
  else if d < 0x20 then 1 + 2 * b2n ((List.range 8).any fun e => (s.engine ((d - 0x10) * 8 + e)).inService)
  else 1 + 2 * b2n (lit (d - 0x20) 0) + 4 * b2n (lit (d - 0x20) 16) + (if d = 0x20 then 8 else 0)

/-- PWR (18 R402). A register stands only on the dies that its row names. -/
def State.pwrReg (s : State) (d off : Nat) : Nat :=
  let x := (s.die d).pwr
  let w := s.pwr
  let on := s.domains d
  match off with
  | 0x000 => pk [(0, on), (8, if d < 8 then x.pll else on)]
  | 0x008 => if d < 8 then (below 12 fun n => (s.cluster (d * 12 + n)).asleep).foldl (fun m n => m + 2 ^ n) 0 else 0
  | 0x010 => if d < 8 then pk [(0, if x.islandIdle = 0 then 1 else x.islandIdle), (16, x.halfIdle)] else 0
  | 0x020 => if d < 8 then pk [(0, b2n x.rising.isSome), (1, b2n x.refused)] else 0
  | 0x028 => x.fig.tj % 256
  | 0x030 => x.est % 2 ^ 20
  | 0x038 => pk [(0, w.bulk), (8, w.std), (16, w.asr)]
  | _ =>
    if d ≠ 0x20 then 0
    else match off with
      | 0x100 => pk [(0, s.powerState), (3, b2n w.excess), (4, b2n w.telemetryLost), (5, b2n w.margin)]
      | 0x108 => pk [(0, s.capNow), (16, s.capLimits.1), (32, s.capLimits.2), (48, w.estimator)]
      | 0x110 => pk [(0, w.total % 2 ^ 20), (32, w.measured % 2 ^ 20)]
      | 0x118 => w.gain
      | 0x120 => w.overCount
      | 0x128 => w.emerg
      | 0x800 => if w.estimator = 1 then s.capNow else 0
      | 0x808 => if w.estimator = 1 then pk [(0, w.measured / 16 % 65536), (16, min 65535 ((s.tick - w.readTick) / 10))] else 0
      | 0x810 => if w.estimator = 1 then pk [(0, b2n (w.bulk + w.std + w.asr != 0)), (1, b2n w.rejected)] else 0
      | _ => 0

/-- MON (20 R435). -/
def State.monReg (s : State) (d off : Nat) : Nat :=
  let m := (s.die d).mon
  match off with
  | 0x000 => m.time
  | 0x010 => m.interval
  | 0x018 => m.csErr
  | 0x020 => pk [(0, b2n m.ovf), (8, m.count), (16, m.lastOff)]
  | _ => (placeIn 0x100 8 64 off).elim 0 fun p => tget 0 m.units p.1

/-- A cluster holds a good slot that no logical index is bound to (17 R360). -/
def State.hasSpare (s : State) (n : Nat) : Bool :=
  (List.range 9).any fun j => !s.nv.failedSlots.contains (n * 9 + j) && (s.core (n * 9 + j)).bound.isNone

/-- RPR_CLU_MAP (17 R380). -/
def State.cluMap (s : State) (n : Nat) : Nat :=
  let slot (i : Nat) : Option Nat := (List.range 9).find? fun j => (s.core (n * 9 + j)).bound == some i
  let failed := below 9 fun j => s.nv.failedSlots.contains (n * 9 + j)
  pk ((List.range 8).map (fun i => (4 * i, (slot i).getD 0)) ++ failed.map (fun j => (32 + j, 1)) ++
    [(41, b2n !s.hasSpare n), (42, b2n ((List.range 8).all fun i => (slot i).isSome))])

/-- Entries of the field repair map for a die (17 R359). -/
def State.fieldEntries (s : State) (d : Nat) : Nat :=
  let v := s.nv
  if d < 8 then
    (v.failedSlots.filter (dieOf · == d)).length + (v.bindings.filter (dieOf ·.1 == d)).length + tget 0 v.arrays d
  else if d < 0x20 then (v.mappedPcs.filter (· % 4 + 0x10 == d)).length + (v.failedSlices.filter (· % 4 + 0x10 == d)).length
  else 0

/-- RPR (17 R380). -/
def State.rprReg (s : State) (d off : Nat) : Nat :=
  let r := (s.die d).rpr
  let v := s.nv
  match off with
  | 0x000 => pk [(0, if d < 8 then countBelow 12 fun n => s.hasSpare (d * 12 + n) else 0), (4, if d = 0x20 then b2n v.listFull else 0),
      (16, s.fieldEntries d % 65536)]
  | 0x008 => if d < 8 then pk [(0, r.cluster), (5, b2n ((List.range 12).any fun n => (s.cluster (d * 12 + n)).test.isSome)), (6, r.result)] else 0
  | 0x010 => r.refetch
  | 0x018 => r.lost
  | 0x020 => if d < 8 then r.replays else 0
  | 0x028 => if d = 0x20 then pk [(0, v.listed.length), (32, v.bootOnly)] else 0
  | 0x030 => if d = 0x20 then fatalWord v.fatalCause v.fatalDie else 0
  | _ => if d < 8 then (placeIn 0x100 8 12 off).elim 0 fun p => s.cluMap (d * 12 + p.1) else 0

/-- GWY (01 R37). -/
def State.gwyReg (s : State) (d off : Nat) : Nat :=
  let x := s.die d
  if off = 0x1000 then x.laneErr else (placeIn 0 8 512 off).elim 0 fun p => (tget 0 x.binds p.1).toNat

/-- NOC (01 R37). -/
def State.nocReg (s : State) (d off : Nat) : Nat :=
  let x := s.die d
  match off with
  | 0 => pk [(0, x.w2), (4, x.w3)]
  | 8 => pk [(0, x.seamW2E), (32, x.seamE2W)]
  | _ => 0

/-- DBG (20 R451). -/
def State.dbgReg (s : State) (d off : Nat) : Nat :=
  let g := (s.die d).dbg
  match off with
  | 0x00 => s.dbgStatus d
  | 0x08 => 2 * b2n g.trigFault
  | 0x10 => g.stamp
  | 0x18 => g.trig
  | 0x20 => g.seen
  | 0x28 => g.stop
  | _ => 0

/-! ### Blocks of compute dies -/

/-- CLU (09 R223). -/
def State.cluReg (s : State) (n off : Nat) : Nat :=
  let c := s.cluster n
  let ps := c.parts.filterMap (·.2)
  match off with
  | 0x000 => pk [(0, 32 - ps.foldl (fun m p => m + p.scrBanks + p.cacheBanks) 0), (6, ps.length), (10, b2n c.asleep)]
  | 0x040 => c.bankWait
  | 0x048 => c.mcHold
  | 0x050 => c.trayMiss
  | _ =>
    match (placeIn 0x100 8 8 off).bind fun p => tget none c.parts p.1 with
    | some p => pk [(0, p.ctx), (10, 1), (16, p.scrFirst), (21, p.scrBanks), (32, p.cacheFirst), (37, p.cacheBanks)]
    | none => 0

/-- COR (05 R130). A failed slot whose work waits for another core shows that work in COR_OCC.
(DESIGN CHOICE, log entry 75.) -/
def State.corReg (s : State) (i off : Nat) : Nat :=
  let c := s.core i
  let n := clusterOf i
  let w := c.work
  match off with
  | 0x00 => pk [(0, c.slotState), (2, b2n (s.cluster n).asleep), (3, b2n c.bound.isSome), (4, c.bound.elim 0 fun b => n * 8 + b)]
  | 0x08 => pk [(0, countBelow 32 fun g => (w.group g).isSome), (6, (w.blocks.filter (·.2.isSome)).length), (12, w.laneRegs),
      (29, countBelow 32 fun t => (tget {} w.tokens t).busy)]
  | 0x10 => pk [(0, c.cause), (8, c.faultGroup), (13, b2n c.faultNew), (16, c.faultPc.toNat % 2 ^ 48)]
  | 0x18 => if (c.ctx.bind s.ctx).elim false Ctx.switchedIn ∧ c.slotState = 1 then pk [(0, c.ctx.getD 0), (10, 1)] else 0
  | _ => 0

/-- STW (21 R471). -/
def State.stwReg (s : State) (d off : Nat) : Nat :=
  let p := (s.die d).pwr
  match off with
  | 0x00 => pk [(0, b2n p.steward), (1, p.running)]
  | 0x28 => p.freq
  | _ => 0

/-! ### Blocks of memory-side dies -/

/-- Lines with a pin that a slice holds, of the berths that `p` names. -/
def State.pinnedIn (s : State) (sl : Nat) (p : Nat → Bool) : List Nat :=
  (s.lines.filter fun e => s.home e.1 == sl && e.2.pin.elim false p).map Prod.fst

/-- The most ways pinned in a set of a slice. -/
def State.maxPinned (s : State) (sl : Nat) (p : Nat → Bool) : Nat :=
  (s.pinnedIn sl p).foldl (fun n ln => max n (s.pinnedWays ln p)) 0

/-- LLC (10 R246). -/
def State.llcReg (s : State) (sl off : Nat) : Nat :=
  let x := s.slice sl
  match off with
  | 0x00 => pk [(0, b2n x.inService), (1, s.maxPinned sl fun _ => true), (8, s.pendingOf sl)]
  | 0x08 => x.lookups
  | 0x10 => x.misses
  | 0x18 => x.nacks
  | 0x20 => x.prioTaken
  | 0x28 => x.redMc
  | 0x30 => x.pinFail
  | 0x38 => (s.pinnedIn sl fun _ => true).length
  | _ => (placeIn 0x100 8 16 off).elim 0 fun q =>
      pk [(0, s.maxPinned sl fun b => s.poolOf b == q.1), (4, (s.pinnedIn sl fun b => s.poolOf b == q.1).length)]

/-- DIR (10 R247). -/
def State.dirReg (s : State) (md off : Nat) : Nat :=
  let x := s.mdDie md
  match off with
  | 0x00 => x.dieOn
  | 0x08 => x.bcast
  | 0x10 => x.fwd
  | 0x18 => x.ovf
  | _ => 0

/-- HBM of stack `k` (12 R278). -/
def State.hbmReg (s : State) (k off : Nat) : Nat :=
  let x := s.stack k
  match off with
  | 0x00 => pk [(0, x.state), (2, x.therm), (4, x.rate), (8, b2n x.sensorLost), (16, x.temp % 256), (32, s.stackGib)]
  | 0x08 => x.mapout.toNat
  | 0x10 => x.pcFail.toNat
  | 0x18 => x.ce
  | 0x20 => x.ue
  | 0x28 => pk [(0, x.ueDpa % 2 ^ 48), (48, x.uePc)]
  | 0x30 => x.parity
  | 0x38 => ((tkeys s.berths).foldl (fun n b => n + (s.berth b).grant.assured) 0) * s.hbmCredit (k / 2) % 2 ^ 20
  | 0x40 => x.nocredit
  | _ => 0

/-- SET of engine `e` (14 R318). -/
def State.setReg (s : State) (e off : Nat) : Nat :=
  let x := s.engine e
  let run := s.descs.find? fun d => d.engine == some e
  match off with
  | 0x00 => pk [(0, b2n x.inService), (1, b2n run.isSome), (2, run.elim 0 fun d => d.who.ctx),
      (12, b2n (s.mdDie (e / 8)).half)]
  | 0x08 => s.queueDepth (e / 8)
  | 0x10 => x.done
  | 0x18 => x.units
  | 0x20 => x.statusErr
  | 0x28 => x.faults
  | _ => 0

/-! ### Blocks of I/O dies -/

/-- PRF_B of a berth (04 R106). -/
def State.prfBerth (s : State) (b off : Nat) : Nat :=
  let y := s.berth b
  match off with
  | 0x00 => y.horizon
  | 0x08 => pk [(0, ((s.ordersOf b).filter fun o => (s.order o).elim false fun x => x.hdr.cls == 0).length),
      (16, b2n (y.state != 0 && (s.poolShort y.grant.pool || s.pwr.margin)))]
  | 0x10 => pk [(0, y.stdDone), (32, y.stdLate)]
  | 0x18 => pk [(0, y.ifx.index), (9, y.ifx.shares.getD 0 0), (18, y.ifx.shares.getD 1 0), (27, y.ifx.shares.getD 2 0),
      (36, y.ifx.shares.getD 3 0), (45, b2n y.ifx.valid)]
  | 0x20 => y.ifx.threshold
  | 0x28 => y.refused
  | _ => 0

/-- PRF (04 R106). -/
def State.prfReg (s : State) (off : Nat) : Nat :=
  match off with
  | 0x00 => s.prf.queue.length
  | 0x08 => s.inflight
  | 0x10 => s.prf.decided
  | 0x18 => s.prf.busyRefused
  | 0x20 => pk [(0, 0x2328), (16, 0x14), (32, 0x14), (48, 0x55), (56, 0x46)]
  | _ => (placeIn 0x1000 0x40 256 off).elim 0 fun p => s.prfBerth p.1 p.2

/-- BTH_B of a berth (03 R80). -/
def State.bthBerth (s : State) (b off : Nat) : Nat :=
  let y := s.berth b
  match off with
  | 0x00 => y.grant.word 0 + pk [(0, y.state), (3, b2n y.admitHold), (4, b2n y.disableRec)]
  | 0x08 => y.grant.word 1
  | 0x10 => y.grant.word 2
  | 0x18 => y.grant.word 3
  | 0x20 => y.grant.word 4
  | 0x28 => y.grant.word 5 + pk [(32, y.lastHb % 2 ^ 32)]
  | 0x30 => pk [(0, ceilDiv (s.mappedUnits b 0 stackEnd) 16), (24, ceilDiv (s.mappedUnits b lpxBase apBase) 16)]
  | 0x38 => y.evtPend.toNat
  | 0x40 => y.evtMask.toNat
  | _ => 0

/-- BTH (03 R80).
(DEDUCED, log entry 62.) -/
def State.bthReg (s : State) (off : Nat) : Nat :=
  let c := s.bth
  match off with
  | 0x40 => pk [(0, b2n c.running.isSome), (1, b2n c.done), (8, c.result), (16, c.resultBerth)]
  | 0x48 => c.msiAddr.toNat
  | 0x50 => c.msiData
  | _ =>
    match placeIn 8 8 6 off with
    | some p => (tget 0 c.args p.1).toNat
    | none => (placeIn 0x1000 0x80 256 off).elim 0 fun p => s.bthBerth p.1 p.2

/-- XPT of global port `p` (15 R338). -/
def State.xptReg (s : State) (p off : Nat) : Nat :=
  let x := s.port p
  match off with
  | 0x00 => pk [(0, x.state), (8, x.holdReason), (16, x.mode), (18, b2n x.light), (19, b2n x.laserOk)]
  | 0x08 => pk [(0, x.laneMap), (24, b2n x.remapped)]
  | 0x10 => x.partner.toNat
  | 0x18 => x.partnerPort
  | 0x20 => x.fecCe
  | 0x28 => x.fecUe
  | 0x30 => x.retry
  | 0x38 => pk [(0, x.loss), (32, x.lastCause)]
  | 0x40 => pk [(0, x.outbound.length), (16, countBelow x.inq.length fun i => decide ((x.inq.getD i {}).op < 0x81))]
  | _ => (placeIn 0x1000 8 128 off).elim 0 fun e => (tget 0 x.exports e.1).toNat

/-- ETH_I of interface `i` (16 R357). -/
def State.ethIface (s : State) (i off : Nat) : Nat :=
  let x := s.iface i
  match off with
  | 0x00 => pk [(0, x.mtu), (14, x.vlan), (26, b2n x.up)]
  | 0x08 => x.ip6Hi.toNat
  | 0x10 => x.ip6Lo.toNat
  | 0x18 => x.ip4
  | 0x20 => x.rx
  | 0x28 => x.drop
  | _ => 0

/-- ETH_B of a berth (16 R357). -/
def State.ethBerth (s : State) (b off : Nat) : Nat :=
  if off = 0x30 then (s.connsOf b).length
  else (placeIn 0 8 6 off).elim 0 fun p => (tget 0 (s.berth b).tkey p.1).toNat

/-- ETH (16 R357). -/
def State.ethReg (s : State) (d off : Nat) : Nat :=
  match off with
  | 0 => if d = 0x20 then countBelow 65536 fun n => (s.conn n).isSome else 0
  | 8 => tget 0 s.authFail d
  | _ =>
    match placeIn 0x1000 0x40 64 off with
    | some p => s.ethIface ((d - 0x20) * 64 + p.1) p.2
    | none => if d = 0x20 then (placeIn 0x8000 0x40 256 off).elim 0 fun p => s.ethBerth p.1 p.2 else 0

/-- LPX (12 R279). -/
def State.lpxReg (s : State) (x off : Nat) : Nat :=
  let y := s.lpxOf x
  let mine := s.packages.filter (· / 8 == x)
  match off with
  | 0x00 => pk ((0, y.state) :: mine.map (fun p => (2 + p % 8, 1)) ++ [(10, s.lpxCount), (15, s.lpxGib)])
  | 0x08 => y.ref
  | 0x10 => y.ce
  | 0x18 => y.ue
  | 0x20 => pk [(0, y.ueDpa % 2 ^ 48), (48, y.uePkg)]
  | 0x28 => y.parity
  | 0x30 => y.nocredit
  | 0x38 => y.keys.length
  | _ => 0

/-! ### Blocks of XD0 -/

/-- SEC (19 R430). -/
def State.secReg (s : State) (off : Nat) : Nat :=
  let c := s.sec
  match off with
  | 0x00 => pk [(0, s.lifecycle), (8, s.transitions), (16, b2n c.ready), (17, b2n c.running.isSome), (18, b2n s.ownerKeys.isSome),
      (19, b2n (c.ready && s.lmsOk)), (20, b2n c.token.isSome), (21, c.token.getD 0), (24, c.result), (32, b2n c.resultNew)]
  | 0x08 => c.src
  | 0x10 => c.len
  | 0x18 => c.dst
  | 0x90 => c.fwVersion
  | 0x98 => c.next
  | 0xC0 => c.bootId.toNat
  | _ =>
    match placeIn 0x40 8 2 off, placeIn 0x50 8 6 off, placeIn 0x80 8 2 off, placeIn 0xA0 8 4 off with
    | some p, _, _, _ => word8 c.serial p.1
    | _, some p, _, _ => if c.ready then word8 s.identity p.1 else 0
    | _, _, some p, _ => word8 s.ownerId p.1
    | _, _, _, some p => word8 c.challenge p.1
    | _, _, _, _ => 0

/-- AON with the sideband and cooling registers (18 R403; 22 R488). -/
def State.aonReg (s : State) (off : Nat) : Nat :=
  let a := s.aon
  match off with
  | 0x000 => s.tick
  | 0x008 => pk [(0, b2n a.osc), (1, b2n a.refclkLost), (16, a.oscPpm)]
  | 0x010 => b2n a.moored
  | 0x100 => a.pinLevel
  | 0x108 => s.assertedPins
  | 0x110 => pk [(0, a.shortLow), (16, a.shortHigh)]
  | 0x120 => pk [(0, bf (s.mrec 1) 2 1 % 4), (2, b2n a.reversed), (8, a.inletRow / 16 % 256), (16, a.outletRow / 16 % 256)]
  | 0x128 => pk [(0, b2n a.tripped), (1, b2n a.tripJunction), (2, b2n a.tripStack)]
  | _ => 0

/-- STORED_PENDING (02 R61). -/
def State.storedPending (s : State) : Bool :=
  match s.mft.running with
  | none => s.mft.stored
  | some m =>
    let b := (tget {} s.mft.slots (1 - s.mft.runSlot)).bytes
    headerOk b && decide (m.seq < (readMft b).seq)

/-- MFT (02 R61). -/
def State.mftReg (s : State) (off : Nat) : Nat :=
  let f := s.mft
  match off with
  | 0x00 => pk [(0, f.state), (2, b2n (f.phase != .idle)), (3, b2n s.storedPending), (4, f.runSlot), (8, f.lastResult),
      (16, b2n f.lastLive), (17, b2n f.resultNew)]
  | 0x08 => f.running.elim 0 Manifest.seq
  | 0x10 => f.floor
  | 0x18 => pk [(0, f.errOffset), (32, f.errType)]
  | 0x20 => pk [(0, f.slot0Result), (8, f.slot1Result)]
  | 0x80 => f.src
  | 0x88 => f.len
  | _ => (placeIn 0x40 8 6 off).elim 0 fun p => word8 f.digest p.1

/-- CAL (19 R431). -/
def State.calReg (s : State) (off : Nat) : Nat :=
  let c := s.cal
  match off with
  | 0 => pk [(0, b2n c.bad), (1, bf c.inForce 0x0A 1 % 2), (2, b2n c.pending), (16, bf c.stored 0x0C 4)]
  | 8 => s.calCrc
  | _ => 0

/-- RST (21 R470). -/
def State.rstReg (s : State) (off : Nat) : Nat :=
  let r := s.rst
  match off with
  | 0x00 => pk [(0, r.step), (4, b2n r.ready), (5, r.cause), (8, r.image), (9, b2n r.refused)]
  | 0x08 => pk [(0, r.prefer), (1, r.tries)]
  | 0x18 => if r.ready then r.readyTick else 0
  | _ => 0

/-- SES_B of a berth (13 R298). -/
def State.sesBerth (s : State) (b off : Nat) : Nat :=
  let t := s.store b
  let all (tier : Bool) := (t.framesBy fun f => f.tier == tier).length
  let used (tier : Bool) := all tier - (t.unused tier).length
  match off with
  | 0x00 => pk [(0, b2n t.spill), (16, (s.sessOf b).length)]
  | 0x08 => pk [(0, all false), (32, used false)]
  | 0x10 => pk [(0, s.resvOf b), (32, s.freeFrames b)]
  | 0x18 => pk [(0, all true), (32, used true)]
  | 0x20 => pk [(0, t.deferCount), (32, t.stallCount)]
  | _ => 0

/-- SES_S of a session (13 R298). -/
def State.sesSess (s : State) (k off : Nat) : Nat :=
  let x := s.sess k
  let inTier (f : Nat) : Bool := (tget none (s.store x.berth).frames f).elim false Frame.tier
  match off with
  | 0x00 => pk [(0, x.state), (2, b2n x.reserved), (3, if 2 ≤ x.state then x.batch else 0), (8, x.berth), (16, x.len)]
  | 0x08 => pk [(0, x.maxTokens), (32, x.tpt), (48, x.streams)]
  | 0x10 => pk [(0, x.rack.length), (32, x.resvLeft)]
  | 0x18 => (x.rack.filter inTier).length
  | _ => 0

/-- SES (13 R298). -/
def State.sesReg (s : State) (off : Nat) : Nat :=
  match off with
  | 0 => (s.sessions.filter fun p => p.2.state != 0).length
  | 8 => pk [(0, (tkeys s.stores).foldl (fun n b => n + s.freeFrames b) 0),
      (32, (tkeys s.stores).foldl (fun n b => n + ((s.store b).unused true).length) 0)]
  | _ =>
    match placeIn 0x1000 0x40 256 off with
    | some p => s.sesBerth p.1 p.2
    | none => (placeIn 0x100000 0x20 4096 off).elim 0 fun p => s.sesSess p.1 p.2

/-! ### Reading (00 R3, R5; 01 R39) -/

/-- The value of a register; an offset of a block where no register stands reads zero (DESIGN CHOICE, log entry 32). -/
def State.regValue (s : State) (d : Nat) (b : Blk) (off : Nat) : Nat :=
  match b with
  | .die => s.dieReg d off
  | .pwr => s.pwrReg d off
  | .mon => s.monReg d off
  | .rpr => s.rprReg d off
  | .gwy => s.gwyReg d off
  | .noc => s.nocReg d off
  | .dbg => s.dbgReg d off
  | .clu n => s.cluReg (d * 12 + n) off
  | .cor i => s.corReg (d * 108 + i) off
  | .stw => s.stwReg d off
  | .llc l => s.llcReg (l * 4 + (d - 0x10)) off
  | .dir => s.dirReg (d - 0x10) off
  | .hbm k => s.hbmReg ((d - 0x10) * 2 + k) off
  | .set e => s.setReg ((d - 0x10) * 8 + e) off
  | .prf => s.prfReg off
  | .bth => s.bthReg off
  | .xpt p => s.xptReg ((d - 0x20) * 32 + p) off
  | .eth => s.ethReg d off
  | .lpx => s.lpxReg (d - 0x20) off
  | .sec => s.secReg off
  | .aon => s.aonReg off
  | .mft => s.mftReg off
  | .cal => s.calReg off
  | .rst => s.rstReg off
  | .ses => s.sesReg off

/-- The RC fields of a register are cleared (00 R5). -/
def State.regClear (d : Nat) (b : Blk) (off : Nat) (s : State) : State :=
  match b, off with
  | .pwr, 0x120 => if d = 0x20 then { s with pwr := { s.pwr with overCount := 0 } } else s
  | .mon, 0x018 => s.modMon d fun m => { m with csErr := 0 }
  | .rpr, 0x010 => s.modDie d fun x => { x with rpr := { x.rpr with refetch := 0 } }
  | .rpr, 0x018 => s.modDie d fun x => { x with rpr := { x.rpr with lost := 0 } }
  | .rpr, 0x020 => s.modDie d fun x => { x with rpr := { x.rpr with replays := 0 } }
  | .noc, 8 => s.modDie d fun x => { x with seamW2E := 0, seamE2W := 0 }
  | .clu n, 0x040 => s.modCluster (d * 12 + n) fun c => { c with bankWait := 0 }
  | .clu n, 0x048 => s.modCluster (d * 12 + n) fun c => { c with mcHold := 0 }
  | .clu n, 0x050 => s.modCluster (d * 12 + n) fun c => { c with trayMiss := 0 }
  | .llc l, 0x18 => s.modSlice (l * 4 + (d - 0x10)) fun x => { x with nacks := 0 }
  | .llc l, 0x20 => s.modSlice (l * 4 + (d - 0x10)) fun x => { x with prioTaken := 0 }
  | .llc l, 0x28 => s.modSlice (l * 4 + (d - 0x10)) fun x => { x with redMc := 0 }
  | .llc l, 0x30 => s.modSlice (l * 4 + (d - 0x10)) fun x => { x with pinFail := 0 }
  | .dir, 0x08 => s.modMd (d - 0x10) fun x => { x with bcast := 0 }
  | .dir, 0x10 => s.modMd (d - 0x10) fun x => { x with fwd := 0 }
  | .dir, 0x18 => s.modMd (d - 0x10) fun x => { x with ovf := 0 }
  | .hbm k, 0x18 => s.modStack ((d - 0x10) * 2 + k) fun x => { x with ce := 0 }
  | .hbm k, 0x20 => s.modStack ((d - 0x10) * 2 + k) fun x => { x with ue := 0 }
  | .hbm k, 0x30 => s.modStack ((d - 0x10) * 2 + k) fun x => { x with parity := 0 }
  | .hbm k, 0x40 => s.modStack ((d - 0x10) * 2 + k) fun x => { x with nocredit := 0 }
  | .set e, 0x20 => s.modEngine ((d - 0x10) * 8 + e) fun x => { x with statusErr := 0 }
  | .set e, 0x28 => s.modEngine ((d - 0x10) * 8 + e) fun x => { x with faults := 0 }
  | .prf, 0x18 => { s with prf := { s.prf with busyRefused := 0 } }
  | .prf, o =>
    (match placeIn 0x1000 0x40 256 o with
     | some (b, 0x10) => s.modBerth b fun y => { y with stdDone := 0, stdLate := 0 }
     | some (b, 0x28) => s.modBerth b fun y => { y with refused := 0 }
     | _ => s)
  | .xpt p, 0x20 => s.modPort ((d - 0x20) * 32 + p) fun x => { x with fecCe := 0 }
  | .xpt p, 0x28 => s.modPort ((d - 0x20) * 32 + p) fun x => { x with fecUe := 0 }
  | .xpt p, 0x30 => s.modPort ((d - 0x20) * 32 + p) fun x => { x with retry := 0 }
  | .xpt p, 0x38 => s.modPort ((d - 0x20) * 32 + p) fun x => { x with loss := 0 }
  | .eth, 8 => { s with authFail := tset 0 s.authFail d 0 }
  | .eth, o =>
    (match placeIn 0x1000 0x40 64 o with
     | some (i, 0x28) => s.modIface ((d - 0x20) * 64 + i) fun x => { x with drop := 0 }
     | _ => s)
  | .lpx, 0x10 => s.modLpx (d - 0x20) fun x => { x with ce := 0 }
  | .lpx, 0x18 => s.modLpx (d - 0x20) fun x => { x with ue := 0 }
  | .lpx, 0x28 => s.modLpx (d - 0x20) fun x => { x with parity := 0 }
  | .lpx, 0x30 => s.modLpx (d - 0x20) fun x => { x with nocredit := 0 }
  | .ses, o =>
    (match placeIn 0x1000 0x40 256 o with
     | some (b, 0x20) => s.modStore b fun t => { t with deferCount := 0, stallCount := 0 }
     | _ => s)
  | _, _ => s

/-- The die that an access without effect is charged to (01 R39). -/
def csOwner (d : Nat) : Nat := if isDie d then d else 0x20

/-- A read at an offset of a die's window: the value, and the RC fields cleared; an access that meets nothing reads zero
and is counted (00 R3, 01 R39). -/
def State.regRead (d off bytes : Nat) (s : State) : Nat × State :=
  let hit := if isDie d ∧ off % 8 = 0 ∧ bytes = 8 then locate d off else none
  match hit with
  | some (b, o) => (s.regValue d b o, s.regClear d b o)
  | none => (0, s.csError (csOwner d) true)

/-- The die code and the window offset of a DPA in control space. -/
def csSplit (a : Nat) : Nat × Nat := ((a - csBase) / 0x1000000, (a - csBase) % 0x1000000)

/-! ### The mailbox registers (21 R465) -/

/-- A mailbox register as the manager reads it. -/
def State.mbxReg (s : State) (off : Nat) : Nat :=
  let m := s.mbx
  match off with
  | 0x3008 => pk [(0, b2n m.req.isSome), (1, b2n m.respReady), (2, b2n (s.fwUp && !s.aon.moored)), (3, b2n s.rst.recovery),
      (4, b2n s.aon.moored), (5, b2n m.evtLost)]
  | 0x3010 => m.head
  | 0x3018 => m.tail
  | 0x3020 => m.dropped
  | _ => 0

/-- RC_READ (00 R5, R6): a register is read, its RC fields are returned and cleared. A read that reaches nothing is zero and
sets CS_ERR (01 R30); what a partner or a lost place answers is a free value. Firmware and the security controller read
control space; the manager reads the mailbox registers while its link is up.
(DESIGN CHOICE, log entry 76.) -/
def execRcRead (reg : RegAt) (s : State) : Host.Outcome State Fault Refusal :=
  .next (match reg with
    | .dpa die a bytes =>
      if !s.fwUp then s
      else if csBase ≤ a ∧ a < csBase + csSize then
        let r := s.regRead (csSplit a).1 (csSplit a).2 bytes
        r.2.say (.value (BitVec.ofNat 64 r.1))
      else match s.dpaLoc a with
        | .mem _ => s.say (.value (BitVec.ofNat 64 (ofBytes (s.peekN a (min 8 bytes)))))
        | .nothing => (s.csError die false).say (.value 0)
        | l =>
          let v := (s.countLostReads [l]).draw
          v.2.say (.value v.1)
    | .bar off =>
      if !s.mbx.linkUp ∨ !s.rst.power then s
      else
        let v := s.mbxReg off
        (if off = 0x3020 then { s with mbx := { s.mbx with dropped := 0 } } else s).say (.value (BitVec.ofNat 64 v)))

end Sys2Proof.Machine
end

