-- ==== Sys2Proof/Machine/RegWrite.lean ====
section
/-! DEFINITION. Writes of registers under their access codes (00 R3 to R6; 01 R36, R38, R39; every chapter's table of
registers), and the rows that write one named register. -/

namespace Sys2Proof.Machine

open Sys2Proof

/-! ### Blocks of every die -/

/-- PWR_CMD: HALVES, then STEWARD (18 R402). -/
def State.pwrCmd (d : Nat) (v : Word) (s : State) : State :=
  let s := match fld 0 2 v with
    | 1 => (match s.powerOff d with
        | some t => t
        | none => s.modPwr d fun p => { p with refused := true })
    | 2 => s.powerOn d
    | _ => s
  if bitAt 2 v then (s.toggleSteward d).getD s else s

/-- PWR6_CAP in compatibility mode (18 R401). -/
def State.pwr6Cap (w : Nat) (s : State) : State :=
  if s.pwr.estimator ≠ 1 then s
  else match s.setCap w with
    | some t => { t with pwr := { t.pwr with rejected := false } }
    | none => { s with pwr := { s.pwr with rejected := true } }

/-- A write to the PWR block (18 R402). -/
def State.pwrWrite (d off : Nat) (v : Word) (s : State) : State :=
  if d < 8 ∧ off = 0x010 then s.modPwr d fun p => { p with islandIdle := fld 0 10 v, halfIdle := fld 16 10 v }
  else if d < 8 ∧ off = 0x018 then s.pwrCmd d v
  else if d < 8 ∧ off = 0x020 then (if bitAt 1 v then s.modPwr d fun p => { p with refused := false } else s)
  else if d = 0x20 ∧ off = 0x800 then s.pwr6Cap (fld 0 16 v)
  else if d = 0x20 ∧ off = 0x810 then
    (if bitAt 1 v ∧ s.pwr.estimator = 1 then { s with pwr := { s.pwr with rejected := false } } else s)
  else s

/-- A write to the MON block (20 R434, R435): clearing OVF returns COUNT to 0. -/
def State.monWrite (d off : Nat) (v : Word) (s : State) : State :=
  match off with
  | 0x008 => if bitAt 0 v then s.monStart d else s
  | 0x020 => if bitAt 0 v then s.modMon d fun m => { m with ovf := false, count := 0 } else s
  | _ => s

/-- A write to RPR_SELFTEST (17 R362, R380). -/
def State.selftestWrite (d : Nat) (v : Word) (s : State) : State :=
  let s := s.modDie d fun x => { x with rpr := { x.rpr with cluster := fld 0 4 v } }
  if bitAt 4 v ∧ fld 0 4 v < 12 then s.startTest (d * 12 + fld 0 4 v) else s

/-- A write to DBG_CTL (20 R445, R451). -/
def State.dbgWrite (d : Nat) (v : Word) (s : State) : State :=
  let s := s.modDie d fun x => { x with dbg := { x.dbg with trigFault := bitAt 1 v } }
  if bitAt 0 v then s.triggerStop d else s

/-- A write to STW (21 R471). -/
def State.stwWrite (d off : Nat) (v : Word) (s : State) : State :=
  if off = 0x28 then s.modPwr d fun p => { p with freq := min 25 (fld 0 5 v) }
  else match placeIn 8 8 4 off with
    | some n => if (s.die d).pwr.steward then s.modPwr d fun p => { p with running := p.running ||| 2 ^ n.1 } else s
    | none => s

/-! ### Blocks of I/O dies and of XD0 -/

/-- A write to BTH (03 R79, R80). -/
def State.bthWrite (off : Nat) (v : Word) (s : State) : State :=
  match off with
  | 0x00 => s.berthCmd { op := fld 0 4 v, berth := fld 8 8 v, args := (List.range 6).map fun i => tget 0 s.bth.args i } false
  | 0x40 => if bitAt 1 v then { s with bth := { s.bth with done := false } } else s
  | 0x48 => { s with bth := { s.bth with msiAddr := v } }
  | 0x50 => { s with bth := { s.bth with msiData := fld 0 32 v } }
  | _ => match placeIn 8 8 6 off with
    | some p => { s with bth := { s.bth with args := tset 0 s.bth.args p.1 v } }
    | none => s

/-- ETH_B_TKEY is written only while the berth is CREATED or DISABLED (16 R357). -/
def State.tkeyWrite (b j : Nat) (v : Word) (s : State) : State :=
  if (s.berth b).state = 1 ∨ (s.berth b).state = 6 then s.modBerth b fun y => { y with tkey := tset 0 y.tkey j v } else s

/-- A write to ETH (16 R357). -/
def State.ethWrite (d off : Nat) (v : Word) (s : State) : State :=
  match placeIn 0x1000 0x40 64 off with
  | some (i, o) =>
    s.modIface ((d - 0x20) * 64 + i) fun x => match o with
      | 0x00 => { x with mtu := fld 0 14 v, vlan := fld 14 12 v }
      | 0x08 => { x with ip6Hi := v }
      | 0x10 => { x with ip6Lo := v }
      | 0x18 => { x with ip4 := fld 0 32 v }
      | _ => x
  | none =>
    if d = 0x20 then
      (match placeIn 0x8000 0x40 256 off with
       | some (b, o) => (placeIn 0 8 6 o).elim s fun j => s.tkeyWrite b j.1 v
       | none => s)
    else s

/-- A write to XPT (15 R336, R338). -/
def State.xptWrite (p off : Nat) (v : Word) (s : State) : State :=
  if off = 0x80 then (if bitAt 0 v then s.portReset p else s)
  else match placeIn 0x1000 8 128 off with
    | some e => s.exportWrite p e.1 v
    | none => s

/-- A write to SEC (19 R429, R430). -/
def State.secWrite (off : Nat) (v : Word) (s : State) : State :=
  match off with
  | 0x00 => if bitAt 32 v then { s with sec := { s.sec with resultNew := false } } else s
  | 0x08 => { s with sec := { s.sec with src := fld 0 48 v } }
  | 0x10 => { s with sec := { s.sec with len := fld 0 16 v } }
  | 0x18 => { s with sec := { s.sec with dst := fld 0 48 v } }
  | 0x20 => if s.sec.ready then s.fwSec (fld 0 4 v) else s
  | _ => s

/-- A write to AON (18 R403; 22 R476, R488). -/
def State.aonWrite (off : Nat) (v : Word) (s : State) : State :=
  match off with
  | 0x008 => if bitAt 1 v then { s with aon := { s.aon with refclkLost := false } } else s
  | 0x110 => { s with aon := { s.aon with shortLow := s.aon.shortLow &&& (2047 - fld 0 11 v), shortHigh := s.aon.shortHigh &&& (2047 - fld 16 11 v) } }
  | 0x118 => s.ackEvents (fld 0 8 v)
  | _ => s

/-- A write to MFT (02 R55, R61, R62). -/
def State.mftWrite (off : Nat) (v : Word) (s : State) : State :=
  match off with
  | 0x00 => if bitAt 17 v then { s with mft := { s.mft with resultNew := false } } else s
  | 0x80 => { s with mft := { s.mft with src := fld 0 48 v } }
  | 0x88 => { s with mft := { s.mft with len := fld 0 21 v } }
  | 0x90 =>
    if bitAt 0 v then s.mftSubmit (if s.inSteward s.mft.src s.mft.len then s.peekN s.mft.src s.mft.len else []) else s
  | _ => s

/-- A write to RST (21 R457, R460, R461, R470). -/
def State.rstWrite (off : Nat) (v : Word) (s : State) : State :=
  match off with
  | 0x00 => if bitAt 9 v then { s with rst := { s.rst with refused := false } } else s
  | 0x08 => { s with rst := { s.rst with prefer := fld 0 1 v } }
  | 0x10 =>
    let s : State := if bitAt 1 v then s.markReady else s
    let s := if bitAt 2 v then (s.dieReset (fld 8 8 v)).getD { s with rst := { s.rst with refused := true } } else s
    if bitAt 0 v then s.coldReset 2 else s
  | _ => s

/-! ### Any register (00 R4, R5; 01 R38) -/

/-- A write to a register; fields that no access code lets be written keep their values. XD1's copy of the BTH block takes no
write (03 R80).
(DEDUCED, log entry 62.) -/
def State.regWrite (d : Nat) (b : Blk) (off : Nat) (v : Word) (s : State) : State :=
  match b with
  | .die => if off = 8 ∧ bitAt 8 v then s.modDie d fun x => { x with csErr := false } else s
  | .pwr => s.pwrWrite d off v
  | .mon => s.monWrite d off v
  | .rpr => if d < 8 ∧ off = 8 then s.selftestWrite d v else s
  | .dbg => if off = 8 then s.dbgWrite d v else s
  | .cor i => if off = 0x10 ∧ bitAt 13 v then s.modCore (d * 108 + i) fun c => { c with faultNew := false } else s
  | .stw => s.stwWrite d off v
  | .dir => if off = 0 then s.modMd (d - 0x10) fun x => { x with dieOn := fld 0 8 v } else s
  | .bth => if d = 0x20 then s.bthWrite off v else s
  | .xpt p => s.xptWrite ((d - 0x20) * 32 + p) off v
  | .eth => s.ethWrite d off v
  | .sec => s.secWrite off v
  | .aon => s.aonWrite off v
  | .mft => s.mftWrite off v
  | .rst => s.rstWrite off v
  | .gwy | .noc | .clu _ | .llc _ | .hbm _ | .set _ | .prf | .lpx | .cal | .ses => s

/-- A store of firmware or of the security controller to a DPA: a register, memory, a partner's memory, or nothing (00 R3;
01 R30, R39; DESIGN CHOICE, log entry 76). In the failed state firmware runs on for COLD alone (17 R378). -/
def State.dpaWrite (die a bytes : Nat) (v : Word) (s : State) : State :=
  if csBase ≤ a ∧ a < csBase + csSize then
    let p := csSplit a
    match if isDie p.1 ∧ p.2 % 8 = 0 ∧ bytes = 8 then locate p.1 p.2 else none with
    | some (b, o) =>
      if s.fwActs then s.regWrite p.1 b o v
      else if b = .rst ∧ o = 0x10 ∧ bitAt 0 v then s.coldReset 2 else s
    | none => s.csError (csOwner p.1) true
  else match s.dpaLoc a with
    | .mem _ => if s.fwActs then s.deviceWrite noCtx (.mem a) (bytesOf (min 8 bytes) v.toNat) else s
    | .nothing => s.csError die false
    | .remote p off =>
      if s.fwActs ∧ s.linkUp p then
        s.sendReq p { ctx := noCtx, core := coreSlots, msg := wrMsg off (bytesOf (min 8 bytes) v.toNat), waiter := .record }
      else s
    | _ => s

/-- A write of the manager to a mailbox register (21 R465): RESP_READY and EVT_LOST are cleared by 1, TAIL is set. GO is
written by the rows of the mailbox. -/
def State.barWrite (off : Nat) (v : Word) (s : State) : State :=
  match off with
  | 0x3008 => { s with mbx := { s.mbx with respReady := s.mbx.respReady && !bitAt 1 v, evtLost := s.mbx.evtLost && !bitAt 5 v } }
  | 0x3018 => { s with mbx := { s.mbx with tail := fld 0 7 v } }
  | _ => s

/-- REGISTER_WRITE (00 R4, R5, R6). -/
def execRegisterWrite (reg : RegAt) (v : Word) (s : State) : Host.Outcome State Fault Refusal :=
  .next (match reg with
    | .dpa die a bytes => if s.fwUp then s.dpaWrite die a bytes v else s
    | .bar off => if s.mbx.linkUp ∧ s.rst.power then s.barWrite off v else s)

/-! ### Rows of one register -/

/-- RPR_SELFTEST_START (17 R362). -/
def execRprSelftestStart (die cluster : Nat) (s : State) : Host.Outcome State Fault Refusal :=
  .next (if s.fwActs ∧ die < 8 ∧ cluster < 12 then s.startTest (die * 12 + cluster) else s)

/-- XPT_CTL_RESET (15 R328). -/
def execXptCtlReset (port : Nat) (s : State) : Host.Outcome State Fault Refusal :=
  .next (if s.fwActs ∧ port < 64 then s.portReset port else s)

/-- XPT_EXPORT_WRITE (15 R336). -/
def execXptExportWrite (port entry : Nat) (v : Word) (s : State) : Host.Outcome State Fault Refusal :=
  .next (if s.fwActs ∧ port < 64 ∧ entry < 128 then s.exportWrite port entry v else s)

/-- ETH_B_TKEY_WRITE (16 R357).
(DEDUCED, log entry 64.) -/
def execEthBTkeyWrite (berth ix : Nat) (v : Word) (s : State) : Host.Outcome State Fault Refusal :=
  .next (if s.fwActs ∧ berth < 256 ∧ ix < 6 then s.tkeyWrite berth ix v else s)

end Sys2Proof.Machine
end

