-- ==== Sys2Proof/Machine/Mailbox.lean ====
section
/-! DEFINITION. The management mailbox: who serves it, and the meaning of every command (21 R465 to R469). A row is a
doorbell with that command's request in the request window. -/

namespace Sys2Proof.Machine

open Sys2Proof

/-! ### Who serves (21 R467, R458; 17 R378) -/

/-- The opcodes that a controller serves in the present state; none where nothing serves and the doorbell is ignored.
(DESIGN CHOICE, log entry 67.) -/
def State.serves (s : State) : Option (Nat → Bool) :=
  if !s.rst.power || !s.mbx.linkUp || s.stopped || s.aon.tripped then none
  else if s.aon.moored then some fun op => op == 0x01 || op == 0x81
  else if s.failed.isSome then
    (if s.rst.fwUp then some fun op => op == 0x01 || op == 0x52 || op == 0x72
     else if s.rst.recovery then some fun op => op == 0x01 || op == 0x72 else none)
  else if s.rst.recovery then some fun op => op == 0x01 || op == 0x70 || op == 0x72
  else if s.rst.fwUp then some fun _ => true
  else none

/-- A doorbell: ignored where nothing serves, counted while BUSY, answered UNKNOWN_OP where the command is not served and
BAD_ARG where a reserved field is set or the body has another length; else the command is carried out (21 R465 to R467).
(DESIGN CHOICE, log entry 67.) -/
def State.doorbell (op len : Nat) (r : MbxReq) (f : State → State) (s : State) : State :=
  match s.serves with
  | none => s
  | some ok =>
    if s.mbx.req.isSome then { s with mbx := { s.mbx with dropped := satAdd s.mbx.dropped 1 } }
    else if !ok op then s.respond op r.tag 1 0 []
    else if !r.clean || r.body.length != len then s.respond op r.tag 2 0 []
    else f s

/-- A request waits for its subsystem: BUSY until the response (21 R465, R467). -/
def State.await (op : Nat) (r : MbxReq) (w : MbxWait) (s : State) : State :=
  { s with mbx := { s.mbx with req := some (op, r.tag, w, r.dmaOut) } }

/-- A number of a request's body. -/
def MbxReq.num (r : MbxReq) (off n : Nat) : Nat := bf r.body off n

/-- The bytes that the request's DMA delivers: none where the host address is not 8-byte aligned or cannot be read. -/
def MbxReq.input (r : MbxReq) (addrOff lenOff : Nat) : Option (List Byte) :=
  if r.num addrOff 8 % 8 = 0 then r.dma.bind fun b => if b.length = r.num lenOff 4 then some b else none else none

/-! ### Reports (21 R467) -/

/-- INFO. The four bytes between FW_VERSION and BOOT_ID, which the spec does not name, are free (DESIGN CHOICE, log entry 33). -/
def State.infoBody (s : State) : List Byte × State :=
  let g := s.freeBytes 4
  (bytesOf 1 s.lifecycle ++ bytesOf 1 s.powerState ++ bytesOf 1 s.mft.state ++ bytesOf 1 (b2n s.rst.ready) ++ bytesOf 1 s.rst.image ++
    zeros 3 ++ bytesOf 4 s.sec.fwVersion ++ g.1 ++ bytesOf 8 s.sec.bootId.toNat ++ s.identity ++ bytesOf 8 s.tick, g.2)

/-- INFO. -/
def execInfo (r : MbxReq) (s : State) : Host.Outcome State Fault Refusal :=
  .next (s.doorbell 0x01 0 r fun s => (s.infoBody.2).respond 0x01 r.tag 0 0 s.infoBody.1)

/-- Registers in a row from an offset of a die's window on, read with the effect of the reads. -/
def State.readRow (d : Nat) (offs : List Nat) (s : State) : List Byte × State :=
  offs.foldl (fun (p : List Byte × State) o =>
    let r := p.2.regRead d o 8
    (p.1 ++ bytesOf 8 r.1, r.2)) ([], s)

/-- `n` offsets, 8 apart. -/
def rowOf (start n : Nat) : List Nat := (List.range n).map fun i => start + 8 * i

/-- MFT_QUERY: the MFT registers from 0x000 to 0x078. -/
def execMftQuery (r : MbxReq) (s : State) : Host.Outcome State Fault Refusal :=
  .next (s.doorbell 0x11 0 r fun s => s.respond 0x11 r.tag 0 0 ((rowOf 0 16).flatMap fun o => bytesOf 8 (s.mftReg o)))

/-- The per-berth registers of a berth in the BTH, PRF, SES and ETH blocks, by window offset (03 R80; 04 R106; 13 R298;
16 R357).
(DESIGN CHOICE, log entry 33.) -/
def berthRegs (b : Nat) : List Nat :=
  rowOf (0x201000 + b * 0x80) 9 ++ rowOf (0x101000 + b * 0x40) 6 ++ rowOf (0xB01000 + b * 0x40) 5 ++ rowOf (0x408000 + b * 0x40) 7

/-- BERTH_QUERY: the registers in that order; their RC fields are cleared by the read (DESIGN CHOICE, log entry 33). -/
def execBerthQuery (r : MbxReq) (s : State) : Host.Outcome State Fault Refusal :=
  .next (s.doorbell 0x22 1 r fun s =>
    let p := s.readRow 0x20 (berthRegs (r.num 0 1))
    p.2.respond 0x22 r.tag 0 0 p.1)

/-- The debug level at which the manager may read a register: 1 for the counters' blocks, 3 for DBG (20 R440). -/
def readLevel (d off : Nat) : Nat :=
  match locate d off with
  | some (.mon, _) | some (.cor _, _) | some (.clu _, _) | some (.llc _, _) | some (.dir, _) | some (.noc, _) | some (.set _, _) => 1
  | some (.dbg, _) => 3
  | _ => 0

/-- REG_READ (20 R440). -/
def execRegRead (r : MbxReq) (s : State) : Host.Outcome State Fault Refusal :=
  .next (s.doorbell 0x52 10 r fun s =>
    let d := r.num 0 1
    let n := r.num 8 2
    let offs := rowOf (r.num 4 4) n
    if r.num 1 3 ≠ 0 ∨ n = 0 ∨ 256 < n then s.respond 0x52 r.tag 2 0 []
    else if offs.any fun o => decide (s.debugLevel < readLevel d o) then s.respond 0x52 r.tag 4 0 []
    else
      let p := s.readRow d offs
      p.2.respond 0x52 r.tag 0 0 p.1)

/-! ### The Manifest (02 R52 to R62) -/

/-- MFT_SUBMIT: firmware puts the candidate into steward memory, at an address of its own choice, and submits it.
(DESIGN CHOICE, log entry 47.) -/
def execMftSubmit (r : MbxReq) (s : State) : Host.Outcome State Fault Refusal :=
  .next (s.doorbell 0x10 12 r fun s =>
    match r.input 0 8 with
    | none => s.respond 0x10 r.tag 5 0 []
    | some b =>
      if s.mft.phase ≠ .idle then (s.mftSubmit b).respond 0x10 r.tag 3 0x0C []
      else
        let src := (Config.freeWord s.free 0).toNat % (s.stewardTop / 8) * 8
        let s : State := { s with free := s.free + 1, mft := { s.mft with src := src, len := b.length % 2 ^ 21 } }
        (s.mftSubmit b).await 0x10 r .manifest)

/-! ### Berths and exports (03 R79; 15 R333, R336; 16 R357) -/

/-- BERTH. -/
def execBerth (r : MbxReq) (s : State) : Host.Outcome State Fault Refusal :=
  .next (s.doorbell 0x20 56 r fun s =>
    if 15 < r.num 0 1 ∨ r.num 2 6 ≠ 0 then s.respond 0x20 r.tag 2 0 []
    else
      let args : List Word := (List.range 6).map fun i => BitVec.ofNat 64 (r.num (8 + 8 * i) 8)
      let s : State := { s with bth := { s.bth with args := putArgs args s.bth.args } }
      (s.await 0x20 r .berth).berthCmd { op := r.num 0 1, berth := r.num 1 1, args := args } true)

/-- BERTH_KEY: outside CREATED and DISABLED the write has no effect (16 R357).
(DEDUCED, log entry 64.) -/
def execBerthKey (r : MbxReq) (s : State) : Host.Outcome State Fault Refusal :=
  .next (s.doorbell 0x21 56 r fun s =>
    if r.num 1 7 ≠ 0 then s.respond 0x21 r.tag 2 0 []
    else ((List.range 6).foldl (fun s j => s.tkeyWrite (r.num 0 1) j (BitVec.ofNat 64 (r.num (8 + 8 * j) 8))) s).respond 0x21 r.tag 0 0 [])

/-- EXPORT: refused where the port is not the berth's; else the write, which may wait for the entry's requests (15 R336).
(DESIGN CHOICE, log entry 67.) -/
def execExportEntry (r : MbxReq) (s : State) : Host.Outcome State Fault Refusal :=
  .next (s.doorbell 0x23 8 r fun s =>
    let p := r.num 0 1
    let e := r.num 1 1
    if 64 ≤ p ∨ 128 ≤ e ∨ 4 ≤ r.num 2 1 ∨ 2 ^ 18 ≤ r.num 4 4 then s.respond 0x23 r.tag 2 0 []
    else if r.num 2 1 % 2 = 1 ∧ !bitAt p (s.berth (r.num 3 1)).grant.ports then s.respond 0x23 r.tag 3 1 []
    else (s.await 0x23 r (.exportEntry p e)).exportWrite p e (BitVec.ofNat 64 (r.num 2 1 + r.num 3 1 * 256 + r.num 4 4 * 2 ^ 30)))

/-! ### Power (18 R386 to R394) -/

/-- SET_CAP (18 R394). -/
def execSetCap (r : MbxReq) (s : State) : Host.Outcome State Fault Refusal :=
  .next (s.doorbell 0x30 2 r fun s =>
    match s.setCap (r.num 0 2) with
    | some t => t.respond 0x30 r.tag 0 0 []
    | none => s.respond 0x30 r.tag 3 0 [])

/-- A rail gets a margin, or loses it at an offset of 0; the first one holds every pool, which vector 6 tells (18 R392, 04
R99). -/
def State.setMargin (rail off : Nat) (s : State) : State :=
  let was := s.pwr.margin
  let s : State := { s with pwr := { s.pwr with rails := tset 0 s.pwr.rails rail off } }
  let s := s.say (.pinsOut 4 (bytesOf 1 rail ++ bytesOf 1 off))
  if s.pwr.margin && !was then (below 256 fun b => (s.berth b).state != 0).foldl (fun s b => s.raiseVector b 6) s else s

/-- MARGIN (18 R392): only in RETURN, within 30 mV.
(DESIGN CHOICE, log entry 67.) -/
def execMargin (r : MbxReq) (s : State) : Host.Outcome State Fault Refusal :=
  .next (s.doorbell 0x31 2 r fun s =>
    let o := r.num 1 1
    if 14 ≤ r.num 0 1 then s.respond 0x31 r.tag 2 0 []
    else if s.lifecycle ≠ 3 ∨ 30 < (signed 8 o).natAbs then s.respond 0x31 r.tag 3 0 []
    else (s.setMargin (r.num 0 1) o).respond 0x31 r.tag 0 0 [])

/-- HALVES (18 R389, R390): on is answered once every island is awake. -/
def execHalves (r : MbxReq) (s : State) : Host.Outcome State Fault Refusal :=
  .next (s.doorbell 0x32 2 r fun s =>
    let d := r.num 0 1
    if 8 ≤ d then s.respond 0x32 r.tag 2 0 []
    else match r.num 1 1 with
      | 1 => (match s.powerOff d with
          | some t => t.respond 0x32 r.tag 0 0 []
          | none => (s.modPwr d fun p => { p with refused := true }).respond 0x32 r.tag 3 0 [])
      | 2 =>
        let t := s.powerOn d
        if (t.die d).pwr.rising.isSome then t.await 0x32 r (.halves d) else t.respond 0x32 r.tag 0 0 []
      | _ => s.respond 0x32 r.tag 2 0 [])

/-- STEWARD (18 R386). -/
def execSteward (r : MbxReq) (s : State) : Host.Outcome State Fault Refusal :=
  .next (s.doorbell 0x33 2 r fun s =>
    let d := r.num 0 1
    if 8 ≤ d ∨ 1 < r.num 1 1 then s.respond 0x33 r.tag 2 0 []
    else if (s.die d).pwr.steward = (r.num 1 1 == 1) then s.respond 0x33 r.tag 0 0 []
    else match s.toggleSteward d with
      | some t => t.respond 0x33 r.tag 0 0 []
      | none => s.respond 0x33 r.tag 3 0 [])

/-! ### Interfaces, ports, events, counters, tests -/

/-- IF_CONFIG (16 R339, R357): the interface is global port × 2 + half.
(DEDUCED, log entry 71.) -/
def execIfConfig (r : MbxReq) (s : State) : Host.Outcome State Fault Refusal :=
  .next (s.doorbell 0x40 28 r fun s =>
    let mtu := r.num 2 2
    if 128 ≤ r.num 0 2 ∨ mtu < 1280 ∨ 9000 < mtu ∨ 4096 ≤ r.num 4 2 ∨ r.num 6 2 ≠ 0 then s.respond 0x40 r.tag 2 0 []
    else (s.modIface (r.num 0 2) fun x => { x with
      mtu := mtu, vlan := r.num 4 2, ip6Hi := BitVec.ofNat 64 (r.num 8 8), ip6Lo := BitVec.ofNat 64 (r.num 16 8),
      ip4 := r.num 24 4 }).respond 0x40 r.tag 0 0 [])

/-- PORT_RESET (15 R328; 21 R460): a crossing port, or one interface of an Ethernet port. -/
def execPortReset (r : MbxReq) (s : State) : Host.Outcome State Fault Refusal :=
  .next (s.doorbell 0x41 2 r fun s =>
    let p := r.num 0 1
    if 64 ≤ p ∨ 1 < r.num 1 1 then s.respond 0x41 r.tag 2 0 []
    else (if (s.port p).mode < 2 then s.portReset p
      else s.modIface (2 * p + r.num 1 1) fun x => { x with up := false }).respond 0x41 r.tag 0 0 [])

/-- EVT_ACK (22 R476). -/
def execEvtAck (r : MbxReq) (s : State) : Host.Outcome State Fault Refusal :=
  .next (s.doorbell 0x50 1 r fun s => (s.ackEvents (r.num 0 1)).respond 0x50 r.tag 0 0 [])

/-- MON_START (20 R434). -/
def execMonStart (r : MbxReq) (s : State) : Host.Outcome State Fault Refusal :=
  .next (s.doorbell 0x51 1 r fun s =>
    if isDie (r.num 0 1) then (s.monStart (r.num 0 1)).respond 0x51 r.tag 0 0 [] else s.respond 0x51 r.tag 2 0 [])

/-- SELFTEST (17 R362): answered when the test ends; refused where no test can start.
(DESIGN CHOICE, log entry 67.) -/
def execSelftest (r : MbxReq) (s : State) : Host.Outcome State Fault Refusal :=
  .next (s.doorbell 0x53 2 r fun s =>
    let n := r.num 0 1 * 12 + r.num 1 1
    if 8 ≤ r.num 0 1 ∨ 12 ≤ r.num 1 1 then s.respond 0x53 r.tag 2 0 []
    else if (s.cluster n).test.isSome then s.respond 0x53 r.tag 3 0 []
    else
      let t := s.startTest n
      if (t.cluster n).test.isSome then t.await 0x53 r (.selftest n) else s.respond 0x53 r.tag 3 0 [])

/-! ### Security and debug (19 R429; 20 R441, R445) -/

/-- SEC: OP, then where the input stands and where the output goes; a command without input names no bytes. -/
def execSec (r : MbxReq) (s : State) : Host.Outcome State Fault Refusal :=
  .next (s.doorbell 0x60 28 r fun s =>
    if r.num 1 7 ≠ 0 then s.respond 0x60 r.tag 2 0 []
    else
      let input := if r.num 16 4 = 0 then some [] else r.input 8 16
      match input with
      | none => s.respond 0x60 r.tag 5 0 []
      | some b => (s.await 0x60 r .security).startSec (r.num 0 1) b true)

/-- ENGAGE (20 R441). -/
def State.mayEngage (s : State) : Bool :=
  min s.grantLevel s.maxLevel == 3 && (List.range 256).all (fun b => (s.berth b).state == 0) && s.mft.phase == .idle

/-- ENGAGE (20 R441). -/
def execEngage (r : MbxReq) (s : State) : Host.Outcome State Fault Refusal :=
  .next (s.doorbell 0x61 0 r fun s =>
    if s.mayEngage then ({ s with engaged := true } : State).respond 0x61 r.tag 0 0 [] else s.respond 0x61 r.tag 4 0 [])

/-- ALLSTOP (20 R445).
(DESIGN CHOICE, log entry 67.) -/
def execAllstop (r : MbxReq) (s : State) : Host.Outcome State Fault Refusal :=
  .next (s.doorbell 0x62 0 r fun s =>
    if s.engaged then (s.triggerStop 0x20).respond 0x62 r.tag 0 0 [] else s.respond 0x62 r.tag 4 0 [])

/-! ### Images and resets (19 R406, R407; 21 R457 to R461) -/

/-- "TV88FWIM" -/
def imageMagic : List Byte := beBytes 8 0x545638384657494D

/-- A firmware image stands as 19 R406 lays it out. -/
def imageFormat (b : List Byte) : Bool :=
  let n := bf b 0x10 4
  b.take 8 == imageMagic && bf b 8 2 == 1 && decide (bf b 0x0A 1 < 4) && zeroAt b 0x0B 1 && decide (1 ≤ n) &&
  decide (n ≤ 67108864) && zeroAt b 0x14 12 && zeroAt b 0x81 3 && zeroAt b 0xBC 4 && b.length == 192 + n + 2924

/-- Why an image is not written, 0 where it is; the verdict on the ECDSA signature includes the ROM digest of its key slot
(19 R407, log entry 30). -/
def State.imageRefusal (s : State) (i : Nat) (b : List Byte) (g : Sigs) : Nat :=
  if !s.rst.recovery && i == s.rst.image then 3
  else if !imageFormat b then 1
  else if s.sec.revoked.testBit (bf b 0x0A 1) then 0x0A
  else if !g.ecdsa || !g.lms then 2 else 0

/-- IMAGE_WRITE (19 R407; 21 R457, R458): `sigs` are the verdicts on the image. -/
def execImageWrite (r : MbxReq) (sigs : Sigs) (s : State) : Host.Outcome State Fault Refusal :=
  .next (s.doorbell 0x70 20 r fun s =>
    let i := r.num 0 1
    if 1 < i ∨ r.num 1 7 ≠ 0 then s.respond 0x70 r.tag 2 0 []
    else match r.input 8 16 with
      | none => s.respond 0x70 r.tag 5 0 []
      | some b =>
        let c := s.imageRefusal i b sigs
        if c ≠ 0 then (if c = 2 then s.secEvent 0 2 else s).respond 0x70 r.tag 3 c []
        else
          let m : Image := { keyIx := bf b 0x0A 1, version := bf b 0x0C 4, digest := sha384 (b.take (192 + bf b 0x10 4)) }
          ({ s with rst := { s.rst with firmwares := tset none s.rst.firmwares i (some m) } } : State).respond 0x70 r.tag 0 0 [])

/-- PREFER (21 R457). -/
def execPrefer (r : MbxReq) (s : State) : Host.Outcome State Fault Refusal :=
  .next (s.doorbell 0x71 1 r fun s =>
    if 1 < r.num 0 1 then s.respond 0x71 r.tag 2 0 []
    else ({ s with rst := { s.rst with prefer := r.num 0 1 } } : State).respond 0x71 r.tag 0 0 [])

/-- COLD_RESET (21 R460): no response; the reset follows. -/
def execColdReset (r : MbxReq) (s : State) : Host.Outcome State Fault Refusal :=
  .next (s.doorbell 0x72 0 r fun s => s.coldReset 2)

/-- DIE_RESET (21 R461): answered when the die is back.
(DESIGN CHOICE, log entry 67.) -/
def execDieReset (r : MbxReq) (s : State) : Host.Outcome State Fault Refusal :=
  .next (s.doorbell 0x73 1 r fun s =>
    let d := r.num 0 1
    if !isDie d then s.respond 0x73 r.tag 2 0 []
    else match s.dieReset d with
      | some t => t.await 0x73 r (.dieReset d)
      | none => ({ s with rst := { s.rst with refused := true } } : State).respond 0x73 r.tag 3 0 [])

/-! ### MOORED (18 R393; 19 R423; 20 R444; 21 R459) -/

/-- The entry to MOORED: only the always-on domain keeps its state; memory is lost and keys are zeroised. The debug level
is kept, and so is what an UNMOOR boot does not read anew. -/
def State.moor (s : State) : State :=
  let t := s.coldReset s.rst.cause
  { t with
    nv := s.nv, cal := s.cal, mbx := s.mbx, evtOpen := s.evtOpen, retired := s.retired, engaged := s.engaged,
    sec := { s.sec with running := none, input := [], viaMbx := false, reserving := false, report := [] },
    mft := { s.mft with phase := .idle, candidate := [], before := none, slots := t.mft.slots },
    aon := { s.aon with moored := true },
    rst := { t.rst with pending := false } }

/-- MOOR (18 R393).
(DEDUCED, log entry 65.) -/
def execMoor (r : MbxReq) (s : State) : Host.Outcome State Fault Refusal :=
  .next (s.doorbell 0x80 0 r fun s =>
    if (List.range 256).all fun b => (s.berth b).state == 0 then s.moor.respond 0x80 r.tag 0 0 [] else s.respond 0x80 r.tag 3 0 [])

/-- UNMOOR (21 R459): a boot from step 5 is to follow. A device that is not MOORED denies it.
(DEDUCED, log entry 65.) -/
def execUnmoor (r : MbxReq) (s : State) : Host.Outcome State Fault Refusal :=
  .next (s.doorbell 0x81 0 r fun s =>
    if s.aon.moored then
      ({ s with aon := { s.aon with moored := false }, rst := { s.rst with pending := true, bootFrom5 := true, cause := 5 } } : State).respond
        0x81 r.tag 0 0 []
    else s.respond 0x81 r.tag 4 0 [])

/-! ### Unlisted opcodes and the link (21 R467, R469) -/

/-- The opcodes of "Mailbox commands". -/
def mbxOps : List Nat :=
  [0x01, 0x10, 0x11, 0x20, 0x21, 0x22, 0x23, 0x30, 0x31, 0x32, 0x33, 0x40, 0x41, 0x50, 0x51, 0x52, 0x53, 0x60, 0x61, 0x62, 0x70, 0x71, 0x72,
   0x73, 0x80, 0x81]

/-- MBX_UNKNOWN_OP (21 R466, R467). -/
def execMbxUnknownOp (op : Nat) (r : MbxReq) (s : State) : Host.Outcome State Fault Refusal :=
  .next (if mbxOps.contains (op % 65536) then s
    else s.doorbell (op % 65536) r.body.length { r with clean := true } fun s => s.respond (op % 65536) r.tag 1 0 [])

/-- PCIE_LINK_DOWN (21 R469). -/
def execPcieLinkDown (s : State) : Host.Outcome State Fault Refusal := .next { s with mbx := { s.mbx with linkUp := false } }

/-- PCIE_LINK_UP (21 R469): submissions and MSI-X resume. -/
def execPcieLinkUp (s : State) : Host.Outcome State Fault Refusal :=
  .next (if s.rst.power then { s with mbx := { s.mbx with linkUp := true } } else s)

end Sys2Proof.Machine
end

