-- ==== Sys2Proof/Machine/Matrix.lean ====
section
/-! DEFINITION. The matrix instructions and the events of the matrix unit (05 R121 to R123; 07 R164 to R189). -/

namespace Sys2Proof.Machine

open Sys2Proof

/-- The lowest free token slot (05 R123). -/
def CoreWork.freeToken (k : CoreWork) : Option Nat := firstBelow 32 fun t => !(tget {} k.tokens t).busy

/-- The matrix unit can accept a command: queue room, a token slot, and no tile in progress that overlaps its tile
without being identical to it (07 R167, 05 R123). -/
def CoreWork.matrixRoom (k : CoreWork) (w : Word) : Option Nat :=
  if k.mq.length < 32 && k.mq.all fun q => !tilesOverlap q.w w || tilesIdentical q.w w then k.freeToken else none

/-- The generation of a slot's next command: one more than the last, modulo 2,047 (05 R122); the first is a free value.
(DESIGN CHOICE, log entry 16.) -/
def TokenSlot.next (n : Nat) (t : TokenSlot) : TokenSlot :=
  { gen := if t.used then (t.gen + 1) % 2047 else (Config.freeWord n 0).toNat % 2047, busy := true, used := true }

/-- A command is accepted: its token goes to ST and the group goes on (05 R121, R122). -/
def State.matrixTake (c : CoreAt) (g : Group) (x : Ctx) (w sA sB sC : Word) (slot : Nat) (s : State) : State :=
  ({ s with free := s.free + 1 } : State).modWork c.core fun k =>
    let t := (tget {} k.tokens slot).next s.free
    { k with
      tokens := tset {} k.tokens slot t,
      mq := k.mq ++ [{ w := w, sA := sA, sB := sB, sC := sC, grp := c.grp, slot := slot, pc := g.pc, snap := x.scratch }],
      groups := tset none k.groups c.grp (some (g.setS (fXD w) (BitVec.ofNat 64 (t.gen * 32 + slot))).goOn) }

/-- A matrix command other than mwait (05 R121, R123; 07 R187). -/
def matrixForm (c : CoreAt) (w : Word) (s : State) : State :=
  issue c w (fun _ x g s =>
    if g.m0 = 0 then s.setGroup c (g.setS (fXD w) 0xFFFF).advance
    else
      let sA := g.sreg (fXA w)
      let sB := g.sreg (fXB w)
      let sC := g.sreg (fXC w)
      let cause := matrixCause (s.scrBytes x) w sA sB sC
      if cause != 0 then s.coreFault c cause
      else
        match (s.core c.core).work.matrixRoom w with
        | some slot => s.matrixTake c g x w sA sB sC slot
        | none => s.setGroup c { g with hold := some (.matrix w sA sB sC) }) s

/-- The command that a token names has not completed (05 R122). -/
def CoreWork.tokenOpen (k : CoreWork) (tok : Nat) : Bool :=
  let t := tget {} k.tokens (tok % 32)
  tok != 0xFFFF && t.busy && t.gen == tok / 32

/-- mma (07 R172). -/
def execMma (c : CoreAt) (w : Rest) (s : State) : Host.Outcome State Fault Refusal :=
  .next (matrixForm c (wordOf 0xA0 w) s)

/-- mout (07 R178). -/
def execMout (c : CoreAt) (w : Rest) (s : State) : Host.Outcome State Fault Refusal :=
  .next (matrixForm c (wordOf 0xA1 w) s)

/-- mclr (07 R175). -/
def execMclr (c : CoreAt) (w : Rest) (s : State) : Host.Outcome State Fault Refusal :=
  .next (matrixForm c (wordOf 0xA2 w) s)

/-- mtsum (07 R183). -/
def execMtsum (c : CoreAt) (w : Rest) (s : State) : Host.Outcome State Fault Refusal :=
  .next (matrixForm c (wordOf 0xA3 w) s)

/-- The group that issued a command has passed the mwait on its token: the outputs count as its own writes (07 R186; 11 R254). -/
def State.tokenPassed (id : GroupId) (tok : Nat) (s : State) : State := s.renameMarks (id.ofToken tok) id

/-- mwait (05 R122): held until the command that the token names has completed. A token is the low 16 bits of the register;
the others are not looked at.
(DESIGN CHOICE, log entry 75.) -/
def execMwait (c : CoreAt) (w : Rest) (s : State) : Host.Outcome State Fault Refusal :=
  let w := wordOf 0xA8 w
  .next (issue c w (fun _ _ g s =>
    let tok := fld 0 16 (g.sreg (fXA w))
    if (s.core c.core).work.tokenOpen tok then s.setGroup c { g with hold := some (.token tok) }
    else (s.setGroup c g.advance).tokenPassed (s.idAt c) tok) s)

/-! ### Events of the matrix unit -/

/-- MATRIX_COMMAND_ACCEPT: a group held for room is let in once there is some (05 R123, 07 R167). -/
def execMatrixAccept (c : CoreAt) (s : State) : Host.Outcome State Fault Refusal :=
  .next (match s.heldGroup c with
    | some (_, x, g, .matrix w sA sB sC) =>
      (match (s.core c.core).commitDue, (s.core c.core).work.matrixRoom w with
       | false, some slot => s.matrixTake c g x w sA sB sC slot
       | _, _ => s)
    | _ => s)

/-- The accepted command at position `i` of the queue may start (07 R184). -/
def mayStart (mq : List MatrixCmd) (i : Nat) : Bool :=
  match mq[i]? with
  | none => false
  | some cmd =>
    !cmd.started &&
    (mq.take i).all fun e =>
      (onArray e.w != onArray cmd.w || e.started) &&
      (!tilesOverlap e.w cmd.w || (opc e.w == 0xA0 && opc cmd.w == 0xA0 && tilesIdentical e.w cmd.w))

/-- The command at position `i` may complete: it runs, and an mma adds its groups after those of every earlier mma to
its tile (07 R184, R185). -/
def mayComplete (mq : List MatrixCmd) (i : Nat) : Bool :=
  match mq[i]? with
  | none => false
  | some cmd => cmd.started && (mq.take i).all fun e => !tilesOverlap e.w cmd.w

/-- The command that holds a token slot. -/
def queueIx (mq : List MatrixCmd) (slot : Nat) : Nat := mq.findIdx fun q => q.slot == slot

/-- MATRIX_COMMAND_START (07 R184).
(DESIGN CHOICE, log entry 2.) -/
def execMatrixStart (core slot : Nat) (s : State) : Host.Outcome State Fault Refusal :=
  .next (if (s.liveCore core).isSome && mayStart (s.core core).work.mq (queueIx (s.core core).work.mq slot) then
      s.modWork core fun k => { k with mq := k.mq.modify (queueIx k.mq slot) fun q => { q with started := true } }
    else s)

/-- The tile after a command on the array (07 R172, R175). -/
def arrayResult (f : Nat) (x : Ctx) (rank : Nat) (cmd : MatrixCmd) (acc : Tbl Lane) : Tbl Lane :=
  match opc cmd.w with
  | 0xA0 => mmaTile (readUnit f cmd.snap x.scratch) rank cmd acc
  | 0xA2 => setTile cmd.w (fun _ _ => 0) acc
  | _ => acc

/-- A group that waits for a token goes on (05 R122). -/
def Group.tokenDone (tok : Nat) (g : Group) : Group := if g.hold = some (.token tok) then g.goOn else g

/-- A command completes: its effect, its token, the groups that wait for it, and a commit point that waited for the
unit (07 R186, 05 R122, 17 R365). -/
def State.matrixDone (i k : Nat) (x : Ctx) (ix : Nat) (cmd : MatrixCmd) (s : State) : State :=
  let cluster := clusterOf i
  let f := s.free
  let work := (s.core i).work
  let ws := matrixWrites (readUnit f cmd.snap x.scratch) (x.rank cluster) cmd work.acc
  let t := tget {} work.tokens cmd.slot
  let s := { s with free := f + 1 }
  let s := s.modWork i fun w =>
    { w with
      acc := arrayResult f x (x.rank cluster) cmd w.acc,
      mq := w.mq.eraseIdx ix,
      tokens := tset {} w.tokens cmd.slot { t with busy := false } }
  let tok := t.gen * 32 + cmd.slot
  let id := s.idAt { core := i, grp := cmd.grp }
  let waits := ((s.core i).work.group cmd.grp).elim false fun g => g.hold == some (.token tok)
  let s := s.modWork i fun w => w.modAll (Group.tokenDone tok)
  let r := s.matrixStore k x i (if waits then id else id.ofToken tok) ws
  if r.2 then
    if (r.1.core i).commitDue && (r.1.core i).work.mq.isEmpty then r.1.takeCommit i else r.1
  else (r.1.recordFault i cmd.grp cmd.pc 0x06).tearDownFrom (dieOf i) k 7 0x06

/-- MATRIX_COMMAND_COMPLETE (07 R186).
(DEDUCED, log entry 20.) -/
def execMatrixComplete (core slot : Nat) (s : State) : Host.Outcome State Fault Refusal :=
  let mq := (s.core core).work.mq
  let ix := queueIx mq slot
  .next (match s.liveCore core, mq[ix]? with
    | some (k, x), some cmd => if mayComplete mq ix then s.matrixDone core k x ix cmd else s
    | _, _ => s)

/-- Every accepted command of a core completes, in the order of acceptance (07 R188, 17 R365). -/
def State.matrixDrainGo : Nat → Nat → State → State
  | 0, _, s => s
  | n + 1, i, s =>
    match (s.core i).ctx, (s.core i).work.mq with
    | some k, cmd :: _ =>
      (match s.ctx k with
       | some x => (s.matrixDone i k x 0 cmd).matrixDrainGo n i
       | none => s)
    | _, _ => s
def State.matrixDrain (i : Nat) (s : State) : State := s.matrixDrainGo (s.core i).work.mq.length i

end Sys2Proof.Machine
end

