-- ==== Sys2Proof/Machine/VecScalar.lean ====
section
/-! DEFINITION. The vector–scalar and scalar instructions (06 R140, R141). -/

namespace Sys2Proof.Machine

open Sys2Proof


/-- vadd.s: b is the operand in every lane (06 R141). -/
def execVaddS (c : CoreAt) (w : Rest) (s : State) : Host.Outcome State Fault Refusal :=
  .next (vsForm c (wordOf 0x41 w) laneAdd s)

/-- vsub.s: b is the operand in every lane (06 R141). -/
def execVsubS (c : CoreAt) (w : Rest) (s : State) : Host.Outcome State Fault Refusal :=
  .next (vsForm c (wordOf 0x42 w) laneSub s)

/-- vmul.s: b is the operand in every lane (06 R141). -/
def execVmulS (c : CoreAt) (w : Rest) (s : State) : Host.Outcome State Fault Refusal :=
  .next (vsForm c (wordOf 0x43 w) laneMul s)

/-- vfma.s: b is the operand in every lane (06 R141). -/
def execVfmaS (c : CoreAt) (w : Rest) (s : State) : Host.Outcome State Fault Refusal :=
  .next (vsForm c (wordOf 0x44 w) laneFma s)

/-- vmin.s: b is the operand in every lane (06 R141). -/
def execVminS (c : CoreAt) (w : Rest) (s : State) : Host.Outcome State Fault Refusal :=
  .next (vsForm c (wordOf 0x45 w) laneMin s)

/-- vmax.s: b is the operand in every lane (06 R141). -/
def execVmaxS (c : CoreAt) (w : Rest) (s : State) : Host.Outcome State Fault Refusal :=
  .next (vsForm c (wordOf 0x46 w) laneMax s)

/-- vand.s: b is the operand in every lane (06 R141). -/
def execVandS (c : CoreAt) (w : Rest) (s : State) : Host.Outcome State Fault Refusal :=
  .next (vsForm c (wordOf 0x47 w) laneAnd s)

/-- vor.s: b is the operand in every lane (06 R141). -/
def execVorS (c : CoreAt) (w : Rest) (s : State) : Host.Outcome State Fault Refusal :=
  .next (vsForm c (wordOf 0x48 w) laneOr s)

/-- vxor.s: b is the operand in every lane (06 R141). -/
def execVxorS (c : CoreAt) (w : Rest) (s : State) : Host.Outcome State Fault Refusal :=
  .next (vsForm c (wordOf 0x49 w) laneXor s)

/-- vshl.s: b is the operand in every lane (06 R141). -/
def execVshlS (c : CoreAt) (w : Rest) (s : State) : Host.Outcome State Fault Refusal :=
  .next (vsForm c (wordOf 0x4A w) laneShl s)

/-- vshr.s: b is the operand in every lane (06 R141). -/
def execVshrS (c : CoreAt) (w : Rest) (s : State) : Host.Outcome State Fault Refusal :=
  .next (vsForm c (wordOf 0x4B w) laneShr s)

/-- vmov: the operand in each active lane (06 R141). -/
def execVmov (c : CoreAt) (w : Rest) (s : State) : Host.Outcome State Fault Refusal :=
  .next (issueGroup c (wordOf 0x5C w) (fun g => g.setLanes (fVD (wordOf 0x5C w)) fun _ =>
    (vsOperand g (wordOf 0x5C w)).setWidth 32) s)

/-- vext: the value of VA in lane IMM[5:0], zero-extended, whatever m0 holds (06 R141, R154). -/
def execVext (c : CoreAt) (w : Rest) (s : State) : Host.Outcome State Fault Refusal :=
  .next (issueGroup c (wordOf 0x5D w) (fun g => g.setS (fVD (wordOf 0x5D w))
    ((g.lane (fVA (wordOf 0x5D w)) (fld 0 6 (wordOf 0x5D w))).setWidth 64)) s)

/-- vlid: each active lane receives its index (06 R141). -/
def execVlid (c : CoreAt) (w : Rest) (s : State) : Host.Outcome State Fault Refusal :=
  .next (issueGroup c (wordOf 0x5E w) (fun g => g.setLanes (fVD (wordOf 0x5E w)) fun t => BitVec.ofNat 32 t) s)

/-- sadd (06 R141). -/
def execSadd (c : CoreAt) (w : Rest) (s : State) : Host.Outcome State Fault Refusal :=
  .next (scForm c (wordOf 0x60 w) scAdd s)

/-- ssub (06 R141). -/
def execSsub (c : CoreAt) (w : Rest) (s : State) : Host.Outcome State Fault Refusal :=
  .next (scForm c (wordOf 0x61 w) scSub s)

/-- smul (06 R141). -/
def execSmul (c : CoreAt) (w : Rest) (s : State) : Host.Outcome State Fault Refusal :=
  .next (scForm c (wordOf 0x62 w) scMul s)

/-- sand (06 R141). -/
def execSand (c : CoreAt) (w : Rest) (s : State) : Host.Outcome State Fault Refusal :=
  .next (scForm c (wordOf 0x63 w) scAnd s)

/-- sor (06 R141). -/
def execSor (c : CoreAt) (w : Rest) (s : State) : Host.Outcome State Fault Refusal :=
  .next (scForm c (wordOf 0x64 w) scOr s)

/-- sxor (06 R141). -/
def execSxor (c : CoreAt) (w : Rest) (s : State) : Host.Outcome State Fault Refusal :=
  .next (scForm c (wordOf 0x65 w) scXor s)

/-- sshl (06 R141). -/
def execSshl (c : CoreAt) (w : Rest) (s : State) : Host.Outcome State Fault Refusal :=
  .next (scForm c (wordOf 0x66 w) scShl s)

/-- sshr (06 R141). -/
def execSshr (c : CoreAt) (w : Rest) (s : State) : Host.Outcome State Fault Refusal :=
  .next (scForm c (wordOf 0x67 w) scShr s)

/-- ssra (06 R141). -/
def execSsra (c : CoreAt) (w : Rest) (s : State) : Host.Outcome State Fault Refusal :=
  .next (scForm c (wordOf 0x68 w) scSra s)

/-- smin (06 R141). -/
def execSmin (c : CoreAt) (w : Rest) (s : State) : Host.Outcome State Fault Refusal :=
  .next (scForm c (wordOf 0x69 w) scMin s)

/-- smax (06 R141). -/
def execSmax (c : CoreAt) (w : Rest) (s : State) : Host.Outcome State Fault Refusal :=
  .next (scForm c (wordOf 0x6A w) scMax s)

/-- sslt (06 R141). -/
def execSslt (c : CoreAt) (w : Rest) (s : State) : Host.Outcome State Fault Refusal :=
  .next (scForm c (wordOf 0x6B w) scSlt s)

/-- ssltu (06 R141). -/
def execSsltu (c : CoreAt) (w : Rest) (s : State) : Host.Outcome State Fault Refusal :=
  .next (scForm c (wordOf 0x6C w) scSltu s)

/-- smov (06 R141). -/
def execSmov (c : CoreAt) (w : Rest) (s : State) : Host.Outcome State Fault Refusal :=
  .next (scForm c (wordOf 0x6D w) scMov s)

/-- sorhi (06 R141). -/
def execSorhi (c : CoreAt) (w : Rest) (s : State) : Host.Outcome State Fault Refusal :=
  .next (scForm c (wordOf 0x6E w) scOrHi s)

end Sys2Proof.Machine
end

