-- ==== Sys2Proof/Machine/Vector.lean ====
section
/-! DEFINITION. The vector–vector instructions (06 R135 to R139). -/

namespace Sys2Proof.Machine

open Sys2Proof


/-- vadd: d = a + b (06 R137). -/
def execVadd (c : CoreAt) (w : Rest) (s : State) : Host.Outcome State Fault Refusal :=
  .next (vvForm c (wordOf 0x01 w) laneAdd s)

/-- vsub: d = a − b (06 R137). -/
def execVsub (c : CoreAt) (w : Rest) (s : State) : Host.Outcome State Fault Refusal :=
  .next (vvForm c (wordOf 0x02 w) laneSub s)

/-- vmul: d = a × b (06 R137). -/
def execVmul (c : CoreAt) (w : Rest) (s : State) : Host.Outcome State Fault Refusal :=
  .next (vvForm c (wordOf 0x03 w) laneMul s)

/-- vfma: d = a × b + c, one rounding for floats (06 R137). -/
def execVfma (c : CoreAt) (w : Rest) (s : State) : Host.Outcome State Fault Refusal :=
  .next (vvForm c (wordOf 0x04 w) laneFma s)

/-- vmin (06 R137). -/
def execVmin (c : CoreAt) (w : Rest) (s : State) : Host.Outcome State Fault Refusal :=
  .next (vvForm c (wordOf 0x05 w) laneMin s)

/-- vmax (06 R137). -/
def execVmax (c : CoreAt) (w : Rest) (s : State) : Host.Outcome State Fault Refusal :=
  .next (vvForm c (wordOf 0x06 w) laneMax s)

/-- vand (06 R137). -/
def execVand (c : CoreAt) (w : Rest) (s : State) : Host.Outcome State Fault Refusal :=
  .next (vvForm c (wordOf 0x07 w) laneAnd s)

/-- vor (06 R137). -/
def execVor (c : CoreAt) (w : Rest) (s : State) : Host.Outcome State Fault Refusal :=
  .next (vvForm c (wordOf 0x08 w) laneOr s)

/-- vxor (06 R137). -/
def execVxor (c : CoreAt) (w : Rest) (s : State) : Host.Outcome State Fault Refusal :=
  .next (vvForm c (wordOf 0x09 w) laneXor s)

/-- vshl: d = a << b[4:0] (06 R137). -/
def execVshl (c : CoreAt) (w : Rest) (s : State) : Host.Outcome State Fault Refusal :=
  .next (vvForm c (wordOf 0x0A w) laneShl s)

/-- vshr: logical for u32, arithmetic for s32 (06 R137). -/
def execVshr (c : CoreAt) (w : Rest) (s : State) : Host.Outcome State Fault Refusal :=
  .next (vvForm c (wordOf 0x0B w) laneShr s)

/-- vsel: a or b by bit t of mask VC (06 R137). -/
def execVsel (c : CoreAt) (w : Rest) (s : State) : Host.Outcome State Fault Refusal :=
  .next (issueGroup c (wordOf 0x0C w) (fun g => g.setLanes (fVD (wordOf 0x0C w)) fun t =>
    if bitAt t (g.mreg (fVC (wordOf 0x0C w))) then g.lane (fVA (wordOf 0x0C w)) t
    else g.lane (fVB (wordOf 0x0C w)) t) s)

/-- vshfl: the value of VA in lane b mod g, active or not (06 R137). -/
def execVshfl (c : CoreAt) (w : Rest) (s : State) : Host.Outcome State Fault Refusal :=
  .next (issueGroup c (wordOf 0x0D w) (fun g => g.setLanes (fVD (wordOf 0x0D w)) fun t =>
    g.lane (fVA (wordOf 0x0D w)) ((g.lane (fVB (wordOf 0x0D w)) t).toNat % g.width)) s)

/-- vcmp: bit t of the destination mask is the comparison in an active lane, 0 in an inactive one (06 R139). -/
def execVcmp (c : CoreAt) (w : Rest) (s : State) : Host.Outcome State Fault Refusal :=
  .next (issueGroup c (wordOf 0x10 w) (fun g => g.setM (fVD (wordOf 0x10 w)) (maskOf g.width fun t =>
    g.active t && laneCmp (modsVV (wordOf 0x10 w)) (fld 12 4 (wordOf 0x10 w)) (g.lane (fVA (wordOf 0x10 w)) t)
      (g.lane (fVB (wordOf 0x10 w)) t))) s)

/-- vrcp, correctly rounded (06 R138). -/
def execVrcp (c : CoreAt) (w : Rest) (s : State) : Host.Outcome State Fault Refusal :=
  .next (vuForm c (wordOf 0x18 w) laneRcp s)

/-- vrsqrt, correctly rounded (06 R138). -/
def execVrsqrt (c : CoreAt) (w : Rest) (s : State) : Host.Outcome State Fault Refusal :=
  .next (vuForm c (wordOf 0x19 w) laneRsqrt s)

/-- vexp2, correctly rounded (06 R138). -/
def execVexp2 (c : CoreAt) (w : Rest) (s : State) : Host.Outcome State Fault Refusal :=
  .next (vuForm c (wordOf 0x1A w) laneExp2 s)

/-- vlog2, correctly rounded (06 R138). -/
def execVlog2 (c : CoreAt) (w : Rest) (s : State) : Host.Outcome State Fault Refusal :=
  .next (vuForm c (wordOf 0x1B w) laneLog2 s)

end Sys2Proof.Machine
end

