-- ==== Sys2Proof/Machine/Dispatch.lean ====
section
/-! DEFINITION. The dispatch: one arm per command. -/

namespace Sys2Proof.Machine

open Sys2Proof

/-- A command's effect on everything but the queue: one call of its meaning. -/
def exec (i : Instr) (s : State) : Host.Outcome State Fault Refusal :=
  match i with
  | .vadd c w => Sys2Proof.Machine.execVadd c w s
  | .vsub c w => Sys2Proof.Machine.execVsub c w s
  | .vmul c w => Sys2Proof.Machine.execVmul c w s
  | .vfma c w => Sys2Proof.Machine.execVfma c w s
  | .vmin c w => Sys2Proof.Machine.execVmin c w s
  | .vmax c w => Sys2Proof.Machine.execVmax c w s
  | .vand c w => Sys2Proof.Machine.execVand c w s
  | .vor c w => Sys2Proof.Machine.execVor c w s
  | .vxor c w => Sys2Proof.Machine.execVxor c w s
  | .vshl c w => Sys2Proof.Machine.execVshl c w s
  | .vshr c w => Sys2Proof.Machine.execVshr c w s
  | .vsel c w => Sys2Proof.Machine.execVsel c w s
  | .vshfl c w => Sys2Proof.Machine.execVshfl c w s
  | .vcmp c w => Sys2Proof.Machine.execVcmp c w s
  | .vrcp c w => Sys2Proof.Machine.execVrcp c w s
  | .vrsqrt c w => Sys2Proof.Machine.execVrsqrt c w s
  | .vexp2 c w => Sys2Proof.Machine.execVexp2 c w s
  | .vlog2 c w => Sys2Proof.Machine.execVlog2 c w s
  | .vaddS c w => Sys2Proof.Machine.execVaddS c w s
  | .vsubS c w => Sys2Proof.Machine.execVsubS c w s
  | .vmulS c w => Sys2Proof.Machine.execVmulS c w s
  | .vfmaS c w => Sys2Proof.Machine.execVfmaS c w s
  | .vminS c w => Sys2Proof.Machine.execVminS c w s
  | .vmaxS c w => Sys2Proof.Machine.execVmaxS c w s
  | .vandS c w => Sys2Proof.Machine.execVandS c w s
  | .vorS c w => Sys2Proof.Machine.execVorS c w s
  | .vxorS c w => Sys2Proof.Machine.execVxorS c w s
  | .vshlS c w => Sys2Proof.Machine.execVshlS c w s
  | .vshrS c w => Sys2Proof.Machine.execVshrS c w s
  | .vmov c w => Sys2Proof.Machine.execVmov c w s
  | .vext c w => Sys2Proof.Machine.execVext c w s
  | .vlid c w => Sys2Proof.Machine.execVlid c w s
  | .sadd c w => Sys2Proof.Machine.execSadd c w s
  | .ssub c w => Sys2Proof.Machine.execSsub c w s
  | .smul c w => Sys2Proof.Machine.execSmul c w s
  | .sand c w => Sys2Proof.Machine.execSand c w s
  | .sor c w => Sys2Proof.Machine.execSor c w s
  | .sxor c w => Sys2Proof.Machine.execSxor c w s
  | .sshl c w => Sys2Proof.Machine.execSshl c w s
  | .sshr c w => Sys2Proof.Machine.execSshr c w s
  | .ssra c w => Sys2Proof.Machine.execSsra c w s
  | .smin c w => Sys2Proof.Machine.execSmin c w s
  | .smax c w => Sys2Proof.Machine.execSmax c w s
  | .sslt c w => Sys2Proof.Machine.execSslt c w s
  | .ssltu c w => Sys2Proof.Machine.execSsltu c w s
  | .smov c w => Sys2Proof.Machine.execSmov c w s
  | .sorhi c w => Sys2Proof.Machine.execSorhi c w s
  | .vld c w => Sys2Proof.Machine.execVld c w s
  | .vst c w => Sys2Proof.Machine.execVst c w s
  | .sld c w => Sys2Proof.Machine.execSld c w s
  | .sst c w => Sys2Proof.Machine.execSst c w s
  | .atomCas c w => Sys2Proof.Machine.execAtomCas c w s
  | .atomAdd c w => Sys2Proof.Machine.execAtomAdd c w s
  | .atomFadd c w => Sys2Proof.Machine.execAtomFadd c w s
  | .atomMin c w => Sys2Proof.Machine.execAtomMin c w s
  | .atomMax c w => Sys2Proof.Machine.execAtomMax c w s
  | .atomAnd c w => Sys2Proof.Machine.execAtomAnd c w s
  | .atomOr c w => Sys2Proof.Machine.execAtomOr c w s
  | .atomXor c w => Sys2Proof.Machine.execAtomXor c w s
  | .atomExch c w => Sys2Proof.Machine.execAtomExch c w s
  | .br c w => Sys2Proof.Machine.execBr c w s
  | .brmAny c w => Sys2Proof.Machine.execBrmAny c w s
  | .brmAll c w => Sys2Proof.Machine.execBrmAll c w s
  | .bz c w => Sys2Proof.Machine.execBz c w s
  | .bnz c w => Sys2Proof.Machine.execBnz c w s
  | .call c w => Sys2Proof.Machine.execCall c w s
  | .jr c w => Sys2Proof.Machine.execJr c w s
  | .mif c w => Sys2Proof.Machine.execMif c w s
  | .melse c w => Sys2Proof.Machine.execMelse c w s
  | .mjoin c w => Sys2Proof.Machine.execMjoin c w s
  | .mloop c w => Sys2Proof.Machine.execMloop c w s
  | .mbrk c w => Sys2Proof.Machine.execMbrk c w s
  | .mskip c w => Sys2Proof.Machine.execMskip c w s
  | .mresume c w => Sys2Proof.Machine.execMresume c w s
  | .mand c w => Sys2Proof.Machine.execMand c w s
  | .mor c w => Sys2Proof.Machine.execMor c w s
  | .mxor c w => Sys2Proof.Machine.execMxor c w s
  | .mandn c w => Sys2Proof.Machine.execMandn c w s
  | .mnot c w => Sys2Proof.Machine.execMnot c w s
  | .mmov c w => Sys2Proof.Machine.execMmov c w s
  | .ms2m c w => Sys2Proof.Machine.execMs2m c w s
  | .mm2s c w => Sys2Proof.Machine.execMm2s c w s
  | .cvt c w => Sys2Proof.Machine.execCvt c w s
  | .amaxr c w => Sys2Proof.Machine.execAmaxr c w s
  | .mma c w => Sys2Proof.Machine.execMma c w s
  | .mout c w => Sys2Proof.Machine.execMout c w s
  | .mclr c w => Sys2Proof.Machine.execMclr c w s
  | .mtsum c w => Sys2Proof.Machine.execMtsum c w s
  | .mwait c w => Sys2Proof.Machine.execMwait c w s
  | .nop c w => Sys2Proof.Machine.execNop c w s
  | .exitLanes c w => Sys2Proof.Machine.execExitLanes c w s
  | .barSync c w => Sys2Proof.Machine.execBarSync c w s
  | .barArrive c w => Sys2Proof.Machine.execBarArrive c w s
  | .fenceAcqRel c w => Sys2Proof.Machine.execFenceAcqRel c w s
  | .fenceAcquire c w => Sys2Proof.Machine.execFenceAcquire c w s
  | .fenceRelease c w => Sys2Proof.Machine.execFenceRelease c w s
  | .evt c w => Sys2Proof.Machine.execEvt c w s
  | .srd c w => Sys2Proof.Machine.execSrd c w s
  | .crangePrefetch c w => Sys2Proof.Machine.execCrangePrefetch c w s
  | .crangeFlush c w => Sys2Proof.Machine.execCrangeFlush c w s
  | .crangeInvalidate c w => Sys2Proof.Machine.execCrangeInvalidate c w s
  | .commitIntervalExpiry core => Sys2Proof.Machine.execCommitIntervalExpiry core s
  | .matrixAccept c => Sys2Proof.Machine.execMatrixAccept c s
  | .matrixStart core slot => Sys2Proof.Machine.execMatrixStart core slot s
  | .matrixComplete core slot => Sys2Proof.Machine.execMatrixComplete core slot s
  | .blockResident core => Sys2Proof.Machine.execBlockResident core s
  | .launchEntry ctx => Sys2Proof.Machine.execLaunchEntry ctx s
  | .streamStart c slot => Sys2Proof.Machine.execStreamStart c slot s
  | .streamStop c slot => Sys2Proof.Machine.execStreamStop c slot s
  | .credit c slot n => Sys2Proof.Machine.execCredit c slot n s
  | .wait c slot rd => Sys2Proof.Machine.execWait c slot rd s
  | .streamEntryBegin core slot => Sys2Proof.Machine.execStreamEntryBegin core slot s
  | .streamEntryComplete core slot entry => Sys2Proof.Machine.execStreamEntryComplete core slot entry s
  | .followersArmed core slot => Sys2Proof.Machine.execFollowersArmed core slot s
  | .pin c => Sys2Proof.Machine.execPin c s
  | .unpin c => Sys2Proof.Machine.execUnpin c s
  | .pinResult c rd => Sys2Proof.Machine.execPinResult c rd s
  | .storeAdd berth => Sys2Proof.Machine.execStoreAdd berth s
  | .storeRemove berth => Sys2Proof.Machine.execStoreRemove berth s
  | .policy berth => Sys2Proof.Machine.execPolicy berth s
  | .openSession berth => Sys2Proof.Machine.execOpenSession berth s
  | .closeSession berth => Sys2Proof.Machine.execCloseSession berth s
  | .stepBatch berth => Sys2Proof.Machine.execStepBatch berth s
  | .lookup berth => Sys2Proof.Machine.execLookup berth s
  | .sesResult c rd => Sys2Proof.Machine.execSesResult c rd s
  | .sesRet c rd => Sys2Proof.Machine.execSesRet c rd s
  | .seSubmit c bva => Sys2Proof.Machine.execSeSubmit c bva s
  | .seWait c rd => Sys2Proof.Machine.execSeWait c rd s
  | .sort engine => Sys2Proof.Machine.execSort engine s
  | .merge engine => Sys2Proof.Machine.execMerge engine s
  | .intersect engine => Sys2Proof.Machine.execIntersect engine s
  | .union engine => Sys2Proof.Machine.execUnion engine s
  | .gather engine => Sys2Proof.Machine.execGather engine s
  | .scatter engine => Sys2Proof.Machine.execScatter engine s
  | .nwalk engine => Sys2Proof.Machine.execNwalk engine s
  | .segred engine => Sys2Proof.Machine.execSegred engine s
  | .topk engine => Sys2Proof.Machine.execTopk engine s
  | .hash engine => Sys2Proof.Machine.execHash engine s
  | .descriptorSliceEnd engine => Sys2Proof.Machine.execDescriptorSliceEnd engine s
  | .descriptorComplete engine => Sys2Proof.Machine.execDescriptorComplete engine s
  | .resSend c => Sys2Proof.Machine.execResSend c s
  | .resSendLast c => Sys2Proof.Machine.execResSendLast c s
  | .resWait c rd => Sys2Proof.Machine.execResWait c rd s
  | .result berth => Sys2Proof.Machine.execResult berth s
  | .crossClear c v => Sys2Proof.Machine.execCrossClear c v s
  | .create args => Sys2Proof.Machine.execCreate args s
  | .enable berth => Sys2Proof.Machine.execEnable berth s
  | .disableDrain berth limit => Sys2Proof.Machine.execDisableDrain berth limit s
  | .disableWithdraw berth => Sys2Proof.Machine.execDisableWithdraw berth s
  | .destroy berth => Sys2Proof.Machine.execDestroy berth s
  | .mapWrite berth arg0 arg1 arg2 => Sys2Proof.Machine.execMapWrite berth arg0 arg1 arg2 s
  | .mapClear berth arg0 arg1 arg2 => Sys2Proof.Machine.execMapClear berth arg0 arg1 arg2 s
  | .berthBadOp op berth => Sys2Proof.Machine.execBerthBadOp op berth s
  | .heldCommandRelease => Sys2Proof.Machine.execHeldCommandRelease s
  | .drainComplete berth => Sys2Proof.Machine.execDrainComplete berth s
  | .drainLimitExpiry berth => Sys2Proof.Machine.execDrainLimitExpiry berth s
  | .withdrawComplete berth => Sys2Proof.Machine.execWithdrawComplete berth s
  | .heartbeatTimeout berth => Sys2Proof.Machine.execHeartbeatTimeout berth s
  | .berthResetComplete berth => Sys2Proof.Machine.execBerthResetComplete berth s
  | .destroyComplete berth => Sys2Proof.Machine.execDestroyComplete berth s
  | .headerArrival port => Sys2Proof.Machine.execHeaderArrival port s
  | .headerDecision => Sys2Proof.Machine.execHeaderDecision s
  | .orderDispatch order => Sys2Proof.Machine.execOrderDispatch order s
  | .budgetExpiry order => Sys2Proof.Machine.execBudgetExpiry order s
  | .completionReport order => Sys2Proof.Machine.execCompletionReport order s
  | .interferenceIntervalEnd => Sys2Proof.Machine.execInterferenceIntervalEnd s
  | .quantumExpiry ctx => Sys2Proof.Machine.execQuantumExpiry ctx s
  | .contextSwitchOut ctx => Sys2Proof.Machine.execContextSwitchOut ctx s
  | .contextSwitchIn ctx cores => Sys2Proof.Machine.execContextSwitchIn ctx cores s
  | .parkedResponse port => Sys2Proof.Machine.execParkedResponse port s
  | .openReq pkt => Sys2Proof.Machine.execOpenReq pkt s
  | .btpClose pkt => Sys2Proof.Machine.execBtpClose pkt s
  | .ack pkt => Sys2Proof.Machine.execAck pkt s
  | .heartbeat pkt => Sys2Proof.Machine.execHeartbeat pkt s
  | .windowWrite pkt => Sys2Proof.Machine.execWindowWrite pkt s
  | .order pkt => Sys2Proof.Machine.execOrder pkt s
  | .eventMask pkt => Sys2Proof.Machine.execEventMask pkt s
  | .ifxThreshold pkt => Sys2Proof.Machine.execIfxThreshold pkt s
  | .install pkt => Sys2Proof.Machine.execInstall pkt s
  | .remove pkt => Sys2Proof.Machine.execRemove pkt s
  | .event berth => Sys2Proof.Machine.execEvent berth s
  | .deviceHeartbeat => Sys2Proof.Machine.execDeviceHeartbeat s
  | .btpResend conn seq => Sys2Proof.Machine.execBtpResend conn seq s
  | .sessionSilenceLoss conn => Sys2Proof.Machine.execSessionSilenceLoss conn s
  | .neighborDiscovery iface frame => Sys2Proof.Machine.execNeighborDiscovery iface frame s
  | .arp iface frame => Sys2Proof.Machine.execArp iface frame s
  | .icmpv6Echo iface frame => Sys2Proof.Machine.execIcmpv6Echo iface frame s
  | .laneMarker port ms => Sys2Proof.Machine.execLaneMarker port ms s
  | .hello port digest => Sys2Proof.Machine.execHello port digest s
  | .chain port ok identity => Sys2Proof.Machine.execChain port ok identity s
  | .share port ok => Sys2Proof.Machine.execShare port ok s
  | .finish port ok => Sys2Proof.Machine.execFinish port ok s
  | .bringupRetry port => Sys2Proof.Machine.execBringupRetry port s
  | .darkPeriodEnd port => Sys2Proof.Machine.execDarkPeriodEnd port s
  | .dataFlit port f => Sys2Proof.Machine.execDataFlit port f s
  | .heartbeatFlit port f => Sys2Proof.Machine.execHeartbeatFlit port f s
  | .idleFlit port f => Sys2Proof.Machine.execIdleFlit port f s
  | .nak port f => Sys2Proof.Machine.execNak port f s
  | .heartbeatFlitSend port => Sys2Proof.Machine.execHeartbeatFlitSend port s
  | .noFlitTimeout port => Sys2Proof.Machine.execNoFlitTimeout port s
  | .lossOfLight port => Sys2Proof.Machine.execLossOfLight port s
  | .keyEpochChange port => Sys2Proof.Machine.execKeyEpochChange port s
  | .keyExchangeTimeout port => Sys2Proof.Machine.execKeyExchangeTimeout port s
  | .crossRd port => Sys2Proof.Machine.execCrossRd port s
  | .crossWr port => Sys2Proof.Machine.execCrossWr port s
  | .crossAtm port => Sys2Proof.Machine.execCrossAtm port s
  | .crossRed port => Sys2Proof.Machine.execCrossRed port s
  | .crossData port => Sys2Proof.Machine.execCrossData port s
  | .wack port => Sys2Proof.Machine.execWack port s
  | .arsp port => Sys2Proof.Machine.execArsp port s
  | .crossFault port => Sys2Proof.Machine.execCrossFault port s
  | .laserFault block => Sys2Proof.Machine.execLaserFault block s
  | .laserInsert block => Sys2Proof.Machine.execLaserInsert block s
  | .cohRd req => Sys2Proof.Machine.execCohRd req s
  | .rdo req => Sys2Proof.Machine.execRdo req s
  | .upg req => Sys2Proof.Machine.execUpg req s
  | .own req => Sys2Proof.Machine.execOwn req s
  | .wb req => Sys2Proof.Machine.execWb req s
  | .nrd req => Sys2Proof.Machine.execNrd req s
  | .nwr req => Sys2Proof.Machine.execNwr req s
  | .cohAtm req => Sys2Proof.Machine.execCohAtm req s
  | .cohRed req => Sys2Proof.Machine.execCohRed req s
  | .fwdS line cluster => Sys2Proof.Machine.execFwdS line cluster s
  | .fwdX line cluster => Sys2Proof.Machine.execFwdX line cluster s
  | .inv line cluster => Sys2Proof.Machine.execInv line cluster s
  | .cohReply line => Sys2Proof.Machine.execCohReply line s
  | .nackReissue slice => Sys2Proof.Machine.execNackReissue slice s
  | .pendingReductionPerform line => Sys2Proof.Machine.execPendingReductionPerform line s
  | .flitToAsleepIsland cluster srcDie ctx => Sys2Proof.Machine.execFlitToAsleepIsland cluster srcDie ctx s
  | .islandWakeComplete cluster => Sys2Proof.Machine.execIslandWakeComplete cluster s
  | .islandSleepEntry cluster => Sys2Proof.Machine.execIslandSleepEntry cluster s
  | .halfClockDown halfIx => Sys2Proof.Machine.execHalfClockDown halfIx s
  | .hbmFrameStart pc => Sys2Proof.Machine.execHbmFrameStart pc s
  | .lpxFrameStart pkg => Sys2Proof.Machine.execLpxFrameStart pkg s
  | .stackTemperatureSample stack reading => Sys2Proof.Machine.execStackTemperatureSample stack reading s
  | .stackRateStep stack => Sys2Proof.Machine.execStackRateStep stack s
  | .sliceClockThrottle md => Sys2Proof.Machine.execSliceClockThrottle md s
  | .uncorrectableRead dpa r => Sys2Proof.Machine.execUncorrectableRead dpa r s
  | .parityError p => Sys2Proof.Machine.execParityError p s
  | .pseudoChannelFailure pc => Sys2Proof.Machine.execPseudoChannelFailure pc s
  | .sliceFailure slice => Sys2Proof.Machine.execSliceFailure slice s
  | .coreFailure core badCkpt => Sys2Proof.Machine.execCoreFailure core badCkpt s
  | .replayResume core => Sys2Proof.Machine.execReplayResume core s
  | .resumeWithoutSpare core => Sys2Proof.Machine.execResumeWithoutSpare core s
  | .selftestComplete cluster r => Sys2Proof.Machine.execSelftestComplete cluster r s
  | .gangwayLaneFailure die => Sys2Proof.Machine.execGangwayLaneFailure die s
  | .xd0Loss => Sys2Proof.Machine.execXd0Loss s
  | .powerEstimate die f => Sys2Proof.Machine.execPowerEstimate die f s
  | .bubbleUpdate shares => Sys2Proof.Machine.execBubbleUpdate shares s
  | .gainUpdate m fault => Sys2Proof.Machine.execGainUpdate m fault s
  | .emergencyEntry regulator => Sys2Proof.Machine.execEmergencyEntry regulator s
  | .emergencyExit => Sys2Proof.Machine.execEmergencyExit s
  | .refclkLoss => Sys2Proof.Machine.execRefclkLoss s
  | .refclkReturn => Sys2Proof.Machine.execRefclkReturn s
  | .pwrCmdHalvesOff die => Sys2Proof.Machine.execPwrCmdHalvesOff die s
  | .pwrCmdHalvesOn die => Sys2Proof.Machine.execPwrCmdHalvesOn die s
  | .halvesOnComplete die => Sys2Proof.Machine.execHalvesOnComplete die s
  | .pwrCmdSteward die => Sys2Proof.Machine.execPwrCmdSteward die s
  | .pwr6CapWrite watts => Sys2Proof.Machine.execPwr6CapWrite watts s
  | .stwFreqWrite die step => Sys2Proof.Machine.execStwFreqWrite die step s
  | .stwStart die n entry => Sys2Proof.Machine.execStwStart die n entry s
  | .mftCmdSubmit => Sys2Proof.Machine.execMftCmdSubmit s
  | .mftValidationComplete sigs => Sys2Proof.Machine.execMftValidationComplete sigs s
  | .mftFlashWriteComplete ok => Sys2Proof.Machine.execMftFlashWriteComplete ok s
  | .lifecycle sigs => Sys2Proof.Machine.execLifecycle sigs s
  | .attest => Sys2Proof.Machine.execAttest s
  | .calWrite sigs stored => Sys2Proof.Machine.execCalWrite sigs stored s
  | .calRead => Sys2Proof.Machine.execCalRead s
  | .debugToken sigs => Sys2Proof.Machine.execDebugToken sigs s
  | .idCert => Sys2Proof.Machine.execIdCert s
  | .lmsTopReserve ok => Sys2Proof.Machine.execLmsTopReserve ok s
  | .lowerTreeBuild => Sys2Proof.Machine.execLowerTreeBuild s
  | .info r => Sys2Proof.Machine.execInfo r s
  | .mftSubmit r => Sys2Proof.Machine.execMftSubmit r s
  | .mftQuery r => Sys2Proof.Machine.execMftQuery r s
  | .berth r => Sys2Proof.Machine.execBerth r s
  | .berthKey r => Sys2Proof.Machine.execBerthKey r s
  | .berthQuery r => Sys2Proof.Machine.execBerthQuery r s
  | .exportEntry r => Sys2Proof.Machine.execExportEntry r s
  | .setCap r => Sys2Proof.Machine.execSetCap r s
  | .margin r => Sys2Proof.Machine.execMargin r s
  | .halves r => Sys2Proof.Machine.execHalves r s
  | .steward r => Sys2Proof.Machine.execSteward r s
  | .ifConfig r => Sys2Proof.Machine.execIfConfig r s
  | .portReset r => Sys2Proof.Machine.execPortReset r s
  | .evtAck r => Sys2Proof.Machine.execEvtAck r s
  | .monStart r => Sys2Proof.Machine.execMonStart r s
  | .regRead r => Sys2Proof.Machine.execRegRead r s
  | .selftest r => Sys2Proof.Machine.execSelftest r s
  | .sec r => Sys2Proof.Machine.execSec r s
  | .engage r => Sys2Proof.Machine.execEngage r s
  | .allstop r => Sys2Proof.Machine.execAllstop r s
  | .imageWrite r sigs => Sys2Proof.Machine.execImageWrite r sigs s
  | .prefer r => Sys2Proof.Machine.execPrefer r s
  | .coldReset r => Sys2Proof.Machine.execColdReset r s
  | .dieReset r => Sys2Proof.Machine.execDieReset r s
  | .moor r => Sys2Proof.Machine.execMoor r s
  | .unmoor r => Sys2Proof.Machine.execUnmoor r s
  | .pcieLinkDown => Sys2Proof.Machine.execPcieLinkDown s
  | .rstCtlCold => Sys2Proof.Machine.execRstCtlCold s
  | .rstCtlReady => Sys2Proof.Machine.execRstCtlReady s
  | .rstCtlDie die => Sys2Proof.Machine.execRstCtlDie die s
  | .bootWatchdogExpiry => Sys2Proof.Machine.execBootWatchdogExpiry s
  | .bootBegin r => Sys2Proof.Machine.execBootBegin r s
  | .rprSelftestStart die cluster => Sys2Proof.Machine.execRprSelftestStart die cluster s
  | .monCtlStart die => Sys2Proof.Machine.execMonCtlStart die s
  | .xptCtlReset port => Sys2Proof.Machine.execXptCtlReset port s
  | .xptExportWrite port entry v => Sys2Proof.Machine.execXptExportWrite port entry v s
  | .ethBTkeyWrite berth ix v => Sys2Proof.Machine.execEthBTkeyWrite berth ix v s
  | .aonEvtAck cats => Sys2Proof.Machine.execAonEvtAck cats s
  | .rcRead reg => Sys2Proof.Machine.execRcRead reg s
  | .registerWrite reg v => Sys2Proof.Machine.execRegisterWrite reg v s
  | .dbgCtlStop die => Sys2Proof.Machine.execDbgCtlStop die s
  | .jtagAllstop => Sys2Proof.Machine.execJtagAllstop s
  | .allstopBroadcast => Sys2Proof.Machine.execAllstopBroadcast s
  | .scanOut die => Sys2Proof.Machine.execScanOut die s
  | .jtagBypass => Sys2Proof.Machine.execJtagBypass s
  | .jtagIdcode => Sys2Proof.Machine.execJtagIdcode s
  | .jtagSamplePreload => Sys2Proof.Machine.execJtagSamplePreload s
  | .jtagExtest => Sys2Proof.Machine.execJtagExtest s
  | .i3cStatusRead => Sys2Proof.Machine.execI3cStatusRead s
  | .powerGood => Sys2Proof.Machine.execPowerGood s
  | .powerGoodLost => Sys2Proof.Machine.execPowerGoodLost s
  | .resetInN asserted => Sys2Proof.Machine.execResetInN asserted s
  | .pinShortSample level => Sys2Proof.Machine.execPinShortSample level s
  | .thermalTrip junction stack => Sys2Proof.Machine.execThermalTrip junction stack s
  | .vddAonRemoval => Sys2Proof.Machine.execVddAonRemoval s
  | .coolantEvaluation inlet outlet => Sys2Proof.Machine.execCoolantEvaluation inlet outlet s
  | .illegalEncoding c w => Sys2Proof.Machine.execIllegalEncoding c w s
  | .instructionFetchFault c => Sys2Proof.Machine.execInstructionFetchFault c s
  | .mbxUnknownOp op r => Sys2Proof.Machine.execMbxUnknownOp op r s
  | .memoryRequestComplete line work rep => Sys2Proof.Machine.execMemoryRequestComplete line work rep s
  | .noLaneMarkerTimeout port => Sys2Proof.Machine.execNoLaneMarkerTimeout port s
  | .lightDetected port => Sys2Proof.Machine.execLightDetected port s
  | .badFlit port ue => Sys2Proof.Machine.execBadFlit port ue s
  | .otherFrame iface frame => Sys2Proof.Machine.execOtherFrame iface frame s
  | .interfaceLinkChange iface up => Sys2Proof.Machine.execInterfaceLinkChange iface up s
  | .pcieLinkUp => Sys2Proof.Machine.execPcieLinkUp s
  | .dieResetComplete die => Sys2Proof.Machine.execDieResetComplete die s
  | .securityControllerFault => Sys2Proof.Machine.execSecurityControllerFault s

end Sys2Proof.Machine
end

