-- ==== Sys2Proof/Machine/Tick.lean ====
section
/-! DEFINITION. What a tick of 100 ns brings by itself: AON_TICK, cycle counters, budgets, idle times (18 R403; 04 R95,
R104; 18 R387, R388; 20 R432). Stall figures, which timing alone decides, advance by free amounts. -/

namespace Sys2Proof.Machine

open Sys2Proof

/-- A core's clock runs: its die is ready and not stopped, and its island is awake. -/
def State.coreClock (s : State) (i : Nat) : Bool :=
  s.dieRuns (dieOf i) && (s.die (dieOf i)).state == 2 && s.islandUp (clusterOf i)

/-- The cores of a context whose clocks run. -/
def State.clocked (s : State) (x : Ctx) : Nat := if x.switchedIn then (x.cores.filter s.coreClock).length else 0

/-- Core cycle counters (06 R153, 20 R432).
(DESIGN CHOICE, log entry 69.) -/
def State.tickCores (s : State) : State :=
  ((List.range coreSlots).filter s.coreClock).foldl (fun s i => s.modCore i fun c => { c with cycles := (c.cycles + s.tickCycles) % 2 ^ 64 }) s

/-- The core clock of a compute die runs: the die is ready and not stopped, and a half of it is awake (18 R388). -/
def State.dieClock (s : State) (d : Nat) : Bool :=
  s.dieRuns d && (s.die d).state == 2 && ((s.die d).pwr.west == 2 || (s.die d).pwr.east == 2)

/-- The copies of the budgets of dispatched orders (04 R95): a compute die that works for the order counts while its core
clock runs; a die that does not, and an I/O die, counts every tick, so that a copy that starts later is lowered by the
time that has passed.
(DESIGN CHOICE, log entry 69.) -/
def State.tickBudgets (s : State) : State :=
  (tkeys s.orders).foldl (fun s o => s.modOrder o fun x =>
    if x.dispatched.isSome then
      let work := s.budgetDies x
      { x with spent := (List.range 8 ++ [0x20, 0x21]).foldl (fun t d =>
          if d < 8 && work.contains d && !s.dieClock d then t else tset 0 t d (tget 0 t d + s.tickCycles)) x.spent }
    else x) s

/-- The cycles in which cores ran a berth's contexts, and the counters of contexts (04 R104, 20 R442); the cycles charged to
shared resources are free amounts within them. -/
def State.tickCtxs (s : State) : State :=
  let n := s.free
  let s0 : State := { s with free := n + 1 }
  (tkeys s.ctxs).foldl (fun s k =>
    match s.ctx k with
    | none => s
    | some x =>
      let c := s.clocked x * s.tickCycles
      (s.modBerth x.berth fun y => { y with ifx := { y.ifx with cycles := y.ifx.cycles + c } }).modCtx k fun x => { x with
        ctxCycles := (x.ctxCycles + c) % 2 ^ 64,
        ctxStall := (x.ctxStall + (Config.freeWord n k).toNat % (c + 1)) % 2 ^ 64 }) s0

/-- At a multiple of 100,000 ticks an interval ends: each berth's cycles are kept for its evaluation (04 R104). -/
def State.endInterval (s : State) : State :=
  if s.tick % 100000 ≠ 0 then s
  else
    (tkeys s.berths).foldl (fun s b => s.modBerth b fun y =>
      { y with ifx := { y.ifx with cycles := 0, ended := tset 0 y.ifx.ended (s.tick / 100000 - 1) y.ifx.cycles } }) s

/-- A 32-bit counter after `m` more events (20 R432, R433). -/
def State.bumpBy (d off m : Nat) (get : State → Nat) (set : Nat → State → State) (s : State) : State :=
  if allOnes32 ≤ get s then s
  else if allOnes32 ≤ get s + m then (set allOnes32 s).counterFull d off
  else set (get s + m) s

/-- A multicast that some member has room for and the slowest has not (09 R221). -/
def State.mcHeld (s : State) (i n : Nat) : Bool :=
  let t := s.stream i n
  t.state == 1 && !t.members.isEmpty && decide (t.begun < t.count) && decide (s.leastReturned i n + t.dist ≤ t.begun) &&
  (i :: t.members).any fun j => decide (t.begun < (s.stream j n).returned + t.dist)

/-- Waits for banks, and for the slowest target of a multicast, in a cluster (09 R207, R221).
(DESIGN CHOICE, log entry 9.) -/
def State.tickCluster (s : State) (n : Nat) : State :=
  let f := s.free
  let amount (i : Nat) : Nat := (Config.freeWord f i).toNat % 4096
  let off := 0x100000 + n % 12 * 0x10000
  let multi := (List.range 9).any fun j => (s.core (n * 9 + j)).work.streams.any fun e => s.mcHeld (n * 9 + j) e.1
  let s : State := { s with free := f + 1 }
  let s := s.bumpBy (n / 12) (off + 0x40) (amount 0) (fun s => (s.cluster n).bankWait) fun v s => s.modCluster n fun c => { c with bankWait := v }
  if multi then
    s.bumpBy (n / 12) (off + 0x48) (amount 1 % 101) (fun s => (s.cluster n).mcHold) fun v s => s.modCluster n fun c => { c with mcHold := v }
  else s

/-- The time of a tick, after a lifecycle transition that has begun is finished (19 R420); only AON_TICK counts while the
device is MOORED, stopped or without a running die (20 R432).
(DESIGN CHOICE, log entry 9.) -/
def State.tickTime (s : State) : State :=
  let s := if s.failed.isNone then s.finishMove else s
  let s : State := { s with tick := s.tick + 1 }
  if !s.running then s
  else
    let s := (((s.tickCores).tickBudgets).tickCtxs).endInterval
    let s := ((tkeys s.clusters).filter fun n => s.coreClock (n * 9) && !(s.cluster n).parts.isEmpty).foldl State.tickCluster s
    let s := ((List.range 8 ++ [0x10, 0x11, 0x12, 0x13, 0x20, 0x21]).filter fun d => (s.die d).state != 0 && s.dieRuns d).foldl State.tickDie s
    s.tickIslands

/-- One tick: teardowns that have begun are finished at the tick that ends (17 R374); then time passes.
(DESIGN CHOICE, log entry 1.)
(DESIGN CHOICE, log entry 9.) -/
def State.tickOn (s : State) : State :=
  if !s.rst.power then s else (if s.running then s.finishStops else s).tickTime

end Sys2Proof.Machine
end

