-- ==== Sys2Proof/Machine/Step.lean ====
section
/-! DEFINITION. One step of the block: the command at the front of the queue, or one tick where none waits. -/

namespace Sys2Proof.Machine

open Sys2Proof

/-- The state with the queue's rest. -/
def State.withPending (s : State) (q : List Instr) : State := { s with pending := q }

/-- Take the command at the front of the queue and run it; on an empty queue one tick of 100 ns passes.
(DESIGN CHOICE, log entry 1.) -/
def step (s : State) : Host.Outcome State Fault Refusal :=
  match s.pending with
  | [] => .next s.tickOn
  | i :: q => exec i (s.withPending q)

/-- The state with the command that a table word spells in front of its queue; unchanged where the word spells
none.
(DESIGN CHOICE, log entry 6.) -/
def State.withFetchWord (s : State) (nbits w : Nat) : State :=
  match decodeTableWord nbits w with
  | some i => s.withPending (i :: s.pending)
  | none => s

end Sys2Proof.Machine
end

