-- ==== Sys2Proof/Safety.lean ====
section
/-! DEFINITION. What claims mean by a safe state: the canonical form of memory. -/

namespace Sys2Proof.Machine

/-- The canonical form of memory: addresses strictly rising and no entry equal to what an unlisted address reads as. -/
abbrev Memory.wf (m : Tbl Byte) : Bool := Tbl.wf 0 m

/-- The bytes of coherent memory, and of memory itself where it differs, stand in canonical form.
(DESIGN CHOICE, log entry 4.) -/
def State.memOk (s : State) : Bool := Memory.wf s.mem && Tbl.wf none s.backing

end Sys2Proof.Machine
end

