-- ==== Sys2Proof/Safety/CoreTerms.lean ====
section
/-! DEFINITION. The words in which the statements about core instructions are written: when a group issues a word, what an
instruction leaves alone, and the value of an integer or float lane. -/

namespace Sys2Proof.Machine.Claims

open Sys2Proof

/-- Group `g` at place `c`, which context `k` with record `x` holds, issues word `w`: it may run (05 R109), its PC can be
fetched, the word is legal, and its vector registers are allocated (06 R156). -/
def Issues (s : State) (c : CoreAt) (w : Word) (k : Nat) (x : Ctx) (g : Group) : Prop :=
  s.runGroup c = some (k, x, g) ∧ s.fetchOk x.berth g.pc = true ∧ legalWord g.width w = true ∧ allocOk g.regs w = true

/-- An instruction answers a state that differs from the one before in the group at `c` alone, which is now `h`. -/
def GroupBecomes (i : Instr) (s : State) (c : CoreAt) (h : Group) : Prop :=
  exec i s = .next (s.setGroup c h) ∧ (s.setGroup c h).groupAt c = some h

/-- Everything of a group but its vector registers and PC. -/
def butV (g : Group) : Group := { g with v := [], pc := 0 }
/-- Everything of a group but its scalar registers and PC. -/
def butS (g : Group) : Group := { g with s := [], pc := 0 }
/-- Everything of a group but its mask registers and PC. -/
def butM (g : Group) : Group := { g with m := [], pc := 0 }

/-- Only vector register `r` and the PC differ, and the PC has moved to the next word. -/
def OnlyV (g h : Group) (r : Nat) : Prop :=
  butV h = butV g ∧ (∀ j, j ≠ r → h.vreg j = g.vreg j) ∧ h.pc = g.pc + 8

/-- Only scalar register `r` and the PC differ, and the PC has moved to the next word; the register holds `v`. -/
def OnlyS (g h : Group) (r : Nat) (v : Word) : Prop :=
  butS h = butS g ∧ (∀ j, h.sreg j = if j = r then v else g.sreg j) ∧ h.pc = g.pc + 8

/-- Only mask register `r` and the PC differ, and the PC has moved to the next word; bit `t` of the register is `p t`
below the width and 0 from the width on. -/
def OnlyM (g h : Group) (r : Nat) (p : Nat → Bool) : Prop :=
  butM h = butM g ∧ (∀ j, j ≠ r → h.mreg j = g.mreg j) ∧ h.pc = g.pc + 8 ∧
  ∀ t, t < 64 → bitAt t (h.mreg r) = (decide (t < g.width) && p t)

/-- Each lane of vector register `r` meets `p` where it is active, and keeps its value elsewhere. -/
def LanesMeet (g h : Group) (r : Nat) (p : Nat → Lane → Prop) : Prop :=
  ∀ t, t < 64 → if t < g.width ∧ bitAt t (g.mreg 0) then p t (h.lane r t) else h.lane r t = g.lane r t

/-! ### Lanes of the element types (06 R136) -/

/-- The integer a lane holds. -/
def laneVal : ElTy → Lane → Int
  | .s32, a => a.toInt
  | _, a => a.toNat

/-- The least and the greatest integer of an integer type. -/
def intMin : ElTy → Int
  | .s32 => -2147483648
  | _ => 0
def intMax : ElTy → Int
  | .s32 => 2147483647
  | _ => 4294967295

/-- The exact integer `v` arrives in a lane: wrapped modulo 2^32, or clamped to the type where SAT is 1. -/
def IntResult (m : Mods) (v : Int) (d : Lane) : Prop :=
  if m.sat then Claims.laneVal m.ty d = max (intMin m.ty) (min (intMax m.ty) v) else (d.toNat : Int) = v % 4294967296

/-- The value of a float element, negated where the modifier says so. -/
def elem (f : FFmt) (n : Bool) (code : Nat) : Num := negIf n (f.decode code)

/-- The elements of a float lane: one FP32 code, or two codes of 16 bits, element 0 lowest. -/
def elemsOf : ElTy → Lane → List Nat
  | .f32, a => [a.toNat]
  | _, a => [a.toNat % 65536, a.toNat / 65536]

/-- The format of a float type. -/
def fmtOfTy : ElTy → FFmt
  | .bf16x2 => bf16
  | .f16x2 => fp16
  | _ => fp32

/-- Each element of the lane is the exact result on the elements of the sources, rounded once to nearest with ties to
even in the element's format; NEG_A and NEG_C negate a and c. -/
def FloatResult (m : Mods) (op : Num → Num → Num → Num) (a b c d : Lane) : Prop :=
  let f := fmtOfTy m.ty
  ∀ e, e < (elemsOf m.ty d).length →
    (elemsOf m.ty d).getD e 0 = f.encode .near false
      (op (elem f m.negA ((elemsOf m.ty a).getD e 0)) (elem f false ((elemsOf m.ty b).getD e 0))
        (elem f m.negC ((elemsOf m.ty c).getD e 0)))

/-- A lane of an arithmetic operation. -/
def ArithResult (m : Mods) (iop : Int → Int → Int → Int) (fop : Num → Num → Num → Num) (a b c d : Lane) : Prop :=
  if m.ty.isFloat then FloatResult m fop a b c d
  else IntResult m (iop (Claims.laneVal m.ty a) (Claims.laneVal m.ty b) (Claims.laneVal m.ty c)) d

/-- A row of "VV operations" with its vector–scalar form. -/
structure ArithRow where
  vv : CoreAt → Rest → Instr
  vs : CoreAt → Rest → Instr
  op : Nat
  iop : Int → Int → Int → Int
  fop : Num → Num → Num → Num

/-- vadd, vsub, vmul, vfma, vmin and vmax (06 R137, R141). -/
def arithRows : List ArithRow :=
  [ ⟨.vadd, .vaddS, 0x01, fun a b _ => a + b, fun a b _ => a.add b⟩,
    ⟨.vsub, .vsubS, 0x02, fun a b _ => a - b, fun a b _ => a.add b.negate⟩,
    ⟨.vmul, .vmulS, 0x03, fun a b _ => a * b, fun a b _ => a.mul b⟩,
    ⟨.vfma, .vfmaS, 0x04, fun a b c => a * b + c, fun a b c => (a.mul b).add c⟩,
    ⟨.vmin, .vminS, 0x05, fun a b _ => min a b, fun a b _ => a.minNum b⟩,
    ⟨.vmax, .vmaxS, 0x06, fun a b _ => max a b, fun a b _ => a.maxNum b⟩ ]

/-- A row of a bitwise operation or shift with its vector–scalar form: bit `i` of the result from the two sources. -/
structure BitRow where
  vv : CoreAt → Rest → Instr
  vs : CoreAt → Rest → Instr
  op : Nat
  bit : ElTy → Lane → Lane → Nat → Bool

/-- vand, vor, vxor, vshl and vshr: shifts by b[4:0], right shifts of s32 copy the sign (06 R137, R141). -/
def bitRows : List BitRow :=
  [ ⟨.vand, .vandS, 0x07, fun _ a b i => a.getLsbD i && b.getLsbD i⟩,
    ⟨.vor, .vorS, 0x08, fun _ a b i => a.getLsbD i || b.getLsbD i⟩,
    ⟨.vxor, .vxorS, 0x09, fun _ a b i => a.getLsbD i != b.getLsbD i⟩,
    ⟨.vshl, .vshlS, 0x0A, fun _ a b i => decide (b.toNat % 32 ≤ i) && a.getLsbD (i - b.toNat % 32)⟩,
    ⟨.vshr, .vshrS, 0x0B, fun ty a b i =>
      if i + b.toNat % 32 < 32 then a.getLsbD (i + b.toNat % 32) else (ty == .s32) && a.getLsbD 31⟩ ]

/-- The operand of a vector–scalar word: the low 32 bits of the scalar register IMM[5:0], or IMM (06 R140). -/
def vsOp (g : Group) (w : Word) : Lane :=
  if bitAt 32 w then BitVec.ofNat 32 (fld 0 32 w) else (g.sreg (fld 0 6 w)).setWidth 32

/-- The operand of a scalar word: all 64 bits of the scalar register IMM[5:0], or IMM sign-extended (06 R140). -/
def scOp (g : Group) (w : Word) : Word :=
  if bitAt 32 w then (BitVec.ofNat 32 (fld 0 32 w)).signExtend 64 else g.sreg (fld 0 6 w)

/-- A row of the scalar operations: opcode, and what sD holds in terms of sA and the operand as unsigned numbers. -/
structure ScalarRow where
  con : CoreAt → Rest → Instr
  op : Nat
  val : Word → Word → Word → Prop

/-- The scalar operations (06 R141): 64-bit, wrapping; shifts by operand bits [5:0]. -/
def scalarRows : List ScalarRow :=
  [ ⟨.sadd, 0x60, fun a b d => d.toNat = (a.toNat + b.toNat) % 2 ^ 64⟩,
    ⟨.ssub, 0x61, fun a b d => (d.toNat + b.toNat) % 2 ^ 64 = a.toNat⟩,
    ⟨.smul, 0x62, fun a b d => d.toNat = a.toNat * b.toNat % 2 ^ 64⟩,
    ⟨.sand, 0x63, fun a b d => ∀ i, d.getLsbD i = (a.getLsbD i && b.getLsbD i)⟩,
    ⟨.sor, 0x64, fun a b d => ∀ i, d.getLsbD i = (a.getLsbD i || b.getLsbD i)⟩,
    ⟨.sxor, 0x65, fun a b d => ∀ i, d.getLsbD i = (a.getLsbD i != b.getLsbD i)⟩,
    ⟨.sshl, 0x66, fun a b d => d.toNat = a.toNat * 2 ^ (b.toNat % 64) % 2 ^ 64⟩,
    ⟨.sshr, 0x67, fun a b d => d.toNat = a.toNat / 2 ^ (b.toNat % 64)⟩,
    ⟨.ssra, 0x68, fun a b d => d.toInt = a.toInt / 2 ^ (b.toNat % 64)⟩,
    ⟨.smin, 0x69, fun a b d => d.toInt = min a.toInt b.toInt⟩,
    ⟨.smax, 0x6A, fun a b d => d.toInt = max a.toInt b.toInt⟩,
    ⟨.sslt, 0x6B, fun a b d => d.toNat = if a.toInt < b.toInt then 1 else 0⟩,
    ⟨.ssltu, 0x6C, fun a b d => d.toNat = if a.toNat < b.toNat then 1 else 0⟩,
    ⟨.smov, 0x6D, fun _ b d => d = b⟩,
    ⟨.sorhi, 0x6E, fun a b d => ∀ i, i < 64 →
      d.getLsbD i = (a.getLsbD i || (decide (32 ≤ i) && b.getLsbD (i - 32)))⟩ ]

/-- The comparison `cond` of two values of which `lt` and `gt` say how they are ordered (06 R139). -/
def holds (cond : Nat) (lt gt : Bool) : Bool :=
  match cond with
  | 0 => !lt && !gt
  | 1 => lt || gt
  | 2 => lt
  | 3 => !gt
  | 4 => gt
  | 5 => !lt
  | _ => lt || gt

/-- A float element comparison: with a NaN every condition but une is false. -/
def elemCmp (cond : Nat) (a b : Num) : Bool :=
  if a.isNan || b.isNan then decide (cond = 6) else holds cond (a.lt b) (b.lt a)

/-- The comparison of two lanes: integers as their type; every element of a float lane must meet the condition. -/
def lanesCmp (m : Mods) (cond : Nat) (a b : Lane) : Bool :=
  if m.ty.isFloat then
    ((elemsOf m.ty a).zip (elemsOf m.ty b)).all fun p =>
      elemCmp cond (elem (fmtOfTy m.ty) m.negA p.1) (elem (fmtOfTy m.ty) false p.2)
  else holds cond (decide (Claims.laneVal m.ty a < Claims.laneVal m.ty b))
    (decide (Claims.laneVal m.ty b < Claims.laneVal m.ty a))

/-! ### Conversions (08 R194, R199, R201, R202) -/

/-- Element `n` of a span of registers in lane form: element n mod P of register n div P (08 R194, R199). -/
def spanElem (f : Fmt) (reg : Nat → Lane) (base n : Nat) : Nat :=
  (reg (base + n / f.perLane)).toNat / 2 ^ (f.width * (n % f.perLane)) % 2 ^ f.width

/-- Does a conversion have a microscaling side (08 R201)? -/
def scaled (W : Word) : Bool := (decide (5 ≤ fFsrc W) && decide (fFsrc W ≤ 0xA)) || (decide (5 ≤ fFdst W) && decide (fFdst W ≤ 0xA))

/-- The value that cvt takes from a source element under the scale byte of a lane (08 R191, R201). -/
def cvtValue (W : Word) (f : Fmt) (scale : Lane) (code : Nat) : Num :=
  let e := scale.toNat % 256
  if scaled W && decide (e = 255) then .nan
  else if 5 ≤ fFsrc W ∧ fFsrc W ≤ 0xA then (f.decode code).scale ((e : Int) - 127) else f.decode code

/-- That value as it is rounded: divided by the scale for a microscaling destination (08 R201). -/
def descaled (W : Word) (scale : Lane) (v : Num) : Num :=
  if 5 ≤ fFdst W ∧ fFdst W ≤ 0xA then v.scale (127 - ((scale.toNat % 256 : Nat) : Int)) else v

/-- The magnitude of a value. -/
def magnitude : Num → Num
  | .nan => .nan
  | .inf _ => .inf false
  | .fin _ m e => .fin false m e

/-! ### Branches and the mask stack (05 R115, 06 R146) -/

/-- Ones in the bits below the group width (05 R114). -/
def ones (g : Group) : Word := BitVec.ofNat 64 (2 ^ g.width - 1)

/-- A branch target: the PC plus 8 × OFFSET, OFFSET signed (06 R146). -/
def target (g : Group) (W : Word) : Word := g.pc + BitVec.ofInt 64 (8 * (BitVec.ofNat 24 (fld 0 24 W)).toInt)

/-- Only the execution mask, the mask stack and the PC differ. -/
def MaskStep (g h : Group) (m0 : Word) (st : List MaskEntry) (pc : Word) : Prop :=
  ({ h with m := [], stack := [], pc := 0 } : Group) = { g with m := [], stack := [], pc := 0 } ∧
  (∀ j, j ≠ 0 → h.mreg j = g.mreg j) ∧ h.mreg 0 = m0 ∧ h.stack = st ∧ h.pc = pc

/-- Only the PC differs. -/
def OnlyPc (g h : Group) (pc : Word) : Prop := h = { g with pc := pc }

/-- The mask functions of mlog bit by bit: bit `t` of mA, mB and sA (06 R148). -/
def mlogBit (fn : Nat) (a b s : Bool) : Bool :=
  match fn with
  | 0 => a && b
  | 1 => a || b
  | 2 => a != b
  | 3 => a && !b
  | 4 => !a
  | 5 => a
  | _ => s

/-- mand, mor, mxor, mandn, mnot, mmov and ms2m with their MFN codes. -/
def mlogRows : List ((CoreAt → Rest → Instr) × Nat) :=
  [(.mand, 0), (.mor, 1), (.mxor, 2), (.mandn, 3), (.mnot, 4), (.mmov, 5), (.ms2m, 6)]

end Sys2Proof.Machine.Claims
end

