-- ==== Sys2Proof/Safety/MemTerms.lean ====
section
/-! DEFINITION. The words of the statements about memory instructions: lane addresses, places in memory or scratch, and what
an atomic leaves. -/

namespace Sys2Proof.Machine.Claims

open Sys2Proof

/-- Is lane `t` active? -/
def lane? (g : Group) (t : Nat) : Bool := decide (t < g.width) && bitAt t (g.mreg 0)

/-- The address of lane `t` under 06 R143: s + OFFSET plus t × n, v or v × n, modulo 2^64. -/
def address (g : Group) (W : Word) (t : Nat) : Nat :=
  let n := 2 ^ fld 22 2 W
  let off := (BitVec.ofNat 15 (fld 0 15 W)).toInt
  let v := (g.lane (fVA W) t).toNat
  let i : Int := match fld 24 2 W with
    | 0 => (t * n : Nat)
    | 1 => (v : Nat)
    | _ => (v * n : Nat)
  (((g.sreg (fld 26 6 W)).toNat + off + i) % 18446744073709551616).toNat

/-- The address of a scalar access (06 R144). -/
def scAddress (g : Group) (W : Word) : Nat :=
  (((g.sreg (fld 26 6 W)).toNat + (BitVec.ofNat 15 (fld 0 15 W)).toInt) % 18446744073709551616).toNat

/-- A place in the device's own memory, or in the context's scratch. -/
def isLocal : Loc → Bool
  | .mem _ => true
  | .scratch _ => true
  | _ => false

/-- The place `i` bytes further on. -/
def shift (i : Nat) : Loc → Loc
  | .mem a => .mem (a + i)
  | .scratch key => .scratch (key + i)
  | l => l

/-- The number of a place within its space. -/
def offsetOf : Loc → Nat
  | .mem a => a
  | .scratch key => key
  | _ => 0

/-- The byte at a place, for context `k`. -/
def byteAt (s : State) (k : Nat) : Loc → Byte
  | .mem a => s.byte a
  | .scratch key => ((s.ctx k).getD {}).scr key
  | _ => 0

/-- The little-endian number of `n` bytes from a place on. -/
def valueAt (s : State) (k n : Nat) (l : Loc) : Nat :=
  (List.range n).foldl (fun acc i => acc + (byteAt s k (shift i l)).toNat * 256 ^ i) 0

/-- The value of the one or two registers of lane `t` from register `r` on, the first lowest (06 R144). -/
def regValue (g : Group) (r n t : Nat) : Nat :=
  (g.lane r t).toNat + (if n = 8 then (g.lane (r + 1) t).toNat * 4294967296 else 0)

/-- A loaded number of `n` bytes as the group's register receives it: `m` bits, zero- or sign-extended. -/
def extended (n m : Nat) (sx : Bool) (v : Nat) : Nat :=
  if sx && decide (2 ^ (8 * n - 1) ≤ v) then 2 ^ m - 2 ^ (8 * n) + v else v

/-- Every active lane's address is a multiple of the size, below 2^48, and leads to memory or scratch of the device
(06 R143). -/
def LanesReach (s : State) (c : CoreAt) (x : Ctx) (g : Group) (W : Word) (acc : Acc) : Prop :=
  ∀ t, t < 64 → lane? g t = true → address g W t % 2 ^ fld 22 2 W = 0 ∧ address g W t < 281474976710656 ∧
    isLocal (s.engineLoc x (clusterOf c.core) acc (address g W t)) = true

/-- The place of lane `t`. -/
def place (s : State) (c : CoreAt) (x : Ctx) (g : Group) (W : Word) (acc : Acc) (t : Nat) : Loc :=
  s.engineLoc x (clusterOf c.core) acc (address g W t)

/-- The state once the pending reductions of the lines that the active lanes name have been performed (11 R253). -/
def settled (s : State) (c : CoreAt) (x : Ctx) (g : Group) (W : Word) (acc : Acc) : State :=
  s.settle (((List.range g.width).filter (lane? g)).map (place s c x g W acc))

/-- An access waits first for a partner's acknowledgements only as a release at crossing scope (11 R254). -/
def waitsFirst (s : State) (c : CoreAt) (W : Word) : Bool := fOrd W == 2 && fScope W == 5 && s.groupRemote c

/-- An access of the group at this scope (6: no atomic) and every access of other groups that no release and acquire has
separated from it are within each other's scopes, so none of them races (05 R125 to R127). -/
def WithinScopes (s : State) (c : CoreAt) (scope : Nat) : Prop :=
  ∀ m ∈ s.marks, m.who ≠ s.idAt c → m.rel < 7 → s.idAt c ∉ m.seen →
    (6 ≤ m.scope ∨ scopeHolds m.scope m.core m.who c.core (s.idAt c) = true) ∧
    (6 ≤ scope ∨ scopeHolds (if m.scr then min scope 2 else scope) c.core (s.idAt c) m.core m.who = true)

/-- A store of `id` on a core races with no atomic: no release and acquire has separated them, and the atomic's scope leaves the
store out, of none (05 R126). -/
def Unraced (s : State) (core : Nat) (id : GroupId) : Prop :=
  ∀ m ∈ s.marks, m.rel < 7 → 6 ≤ m.scope ∨ m.who = id ∨ id ∈ m.seen ∨ scopeHolds m.scope m.core m.who core id = true

/-- A row of the atomics: the opcode, and what is left of an old value by the operand and, for atom.cas, the new value,
both of `n` bytes (05 R124, 06 R144). -/
structure AtomRow where
  con : CoreAt → Rest → Instr
  op : Nat
  left : Word → Nat → Nat → Nat → Nat → Nat

/-- The order of an atomic minimum or maximum: signed where SX is 1. -/
def atomLe (W : Word) (n a b : Nat) : Bool :=
  if bitAt 16 W then decide (Machine.signed (8 * n) a ≤ Machine.signed (8 * n) b) else decide (a ≤ b)

def atomRows : List AtomRow :=
  [ ⟨.atomCas, 0x77, fun _ _ old arg new => if old = arg then new else old⟩,
    ⟨.atomAdd, 0x78, fun _ n old arg _ => (old + arg) % 2 ^ (8 * n)⟩,
    ⟨.atomFadd, 0x79, fun _ _ old arg _ => fp32.encode .near false ((fp32.decode old).add (fp32.decode arg))⟩,
    ⟨.atomMin, 0x7A, fun W n old arg _ => if atomLe W n old arg then old else arg⟩,
    ⟨.atomMax, 0x7B, fun W n old arg _ => if atomLe W n arg old then old else arg⟩,
    ⟨.atomAnd, 0x7C, fun _ _ old arg _ => Nat.land old arg⟩,
    ⟨.atomOr, 0x7D, fun _ _ old arg _ => Nat.lor old arg⟩,
    ⟨.atomXor, 0x7E, fun _ _ old arg _ => Nat.xor old arg⟩,
    ⟨.atomExch, 0x7F, fun _ _ _ arg _ => arg⟩ ]

/-- The operands of lane `t`: the value in VB and, for atom.cas, the new value in the next register of the span. -/
def atomArg (g : Group) (W : Word) (t : Nat) : Nat := regValue g (fVB W) (2 ^ fld 22 2 W) t
def atomNew (g : Group) (W : Word) (t : Nat) : Nat :=
  regValue g (fVB W + if fld 22 2 W = 3 then 2 else 1) (2 ^ fld 22 2 W) t

/-- What the lanes that `p` names leave, in ascending order, of a first value (05 R128). -/
def atomFold (r : AtomRow) (g : Group) (W : Word) (p : Nat → Bool) (init : Nat) : Nat :=
  ((List.range g.width).filter fun t => lane? g t && p t).foldl
    (fun v t => r.left W (2 ^ fld 22 2 W) v (atomArg g W t) (atomNew g W t)) init

end Sys2Proof.Machine.Claims
end

