-- ==== Sys2Proof/Safety/UnitTerms.lean ====
section
/-! DEFINITION. The words of the statements about matrix commands, barriers and the other units of a core. -/

namespace Sys2Proof.Machine.Claims

open Sys2Proof

/-- mma, mout, mclr and mtsum with their opcodes. -/
def matrixRows : List ((CoreAt → Rest → Instr) × Nat) := [(.mma, 0xA0), (.mout, 0xA1), (.mclr, 0xA2), (.mtsum, 0xA3)]

/-- `tok` may be the token of a command that takes slot `n`: slot in [4:0], generation in [15:5]; each further command of a
slot has the next generation modulo 2,047 (05 R122). The first generation is left open (DESIGN CHOICE, log entry 16). -/
def TokenFor (k : CoreWork) (n tok : Nat) : Prop :=
  tok % 32 = n ∧ tok / 32 < 2047 ∧ ((tget {} k.tokens n).used = true → tok / 32 = ((tget {} k.tokens n).gen + 1) % 2047)

/-- The outputs of a command, made under the name of its group or under that of its token, race with no atomic (05 R126;
07 R186). -/
def OutputsWithinScopes (s : State) (core : Nat) (cmd : MatrixCmd) : Prop :=
  let id := s.idAt ⟨core, cmd.grp⟩
  Unraced s core id ∧ Unraced s core (id.ofToken ((tget {} (s.core core).work.tokens cmd.slot).gen * 32 + cmd.slot))

/-- Slot `n` is the lowest free token slot (05 R123). -/
def lowestFree (k : CoreWork) (n : Nat) : Prop :=
  n < 32 ∧ (tget {} k.tokens n).busy = false ∧ ∀ m, m < n → (tget {} k.tokens m).busy = true

/-- The queue has a free entry and the tile of `W` overlaps no tile in progress but identical ones (07 R167). -/
def tileRoom (k : CoreWork) (W : Word) : Prop :=
  k.mq.length < 32 ∧ ∀ q ∈ k.mq, tilesOverlap q.w W = true → tilesIdentical q.w W = true

/-- One element of an mma under 07 R172: groups of `G` products added exactly in ascending K order to the accumulator's
value, one rounding a group. -/
def sumGroups (round : Num → Lane) (value : Lane → Num) (prod : Nat → Num) (G : Nat) : Nat → Nat → Lane → Lane
  | 0, _, acc => acc
  | q + 1, k0, acc =>
    sumGroups round value prod G q (k0 + G)
      (round ((List.range G).foldl (fun t k => t.add (prod (k0 + k))) (value acc)))

/-- The same for integer pairs, clamped or wrapped after each group (07 R174). -/
def sumGroupsInt (sat : Bool) (prod : Nat → Int) (G : Nat) : Nat → Nat → Lane → Lane
  | 0, _, acc => acc
  | q + 1, k0, acc =>
    let t := (List.range G).foldl (fun t k => t + prod (k0 + k)) acc.toInt
    sumGroupsInt sat prod G q (k0 + G)
      (BitVec.ofInt 32 (if sat then max (-2147483648) (min 2147483647 t) else t))

/-- Row `i` of an operand of `n` elements, as the context's scratch holds it. -/
def operandRow (x : Ctx) (rank : Nat) (r : Word) (code n i : Nat) : Nat := rowNumber x.scr rank r i (rowBytes code n)

/-- Element (i, j) of the tile of an mma after it (07 R172). -/
def mmaElement (x : Ctx) (rank : Nat) (cmd : MatrixCmd) (acc : Tbl Lane) (i j : Nat) : Lane :=
  let W := cmd.w
  let K := mmaK cmd.sC
  let G := 4 * 2 ^ fld 4 2 W
  let a := operandRow x rank cmd.sA (fFmtA W) K i
  let b := operandRow x rank cmd.sB (fFmtB W) K j
  let old : Lane := if bitAt 7 W then 0 else tget 0 acc (tileEntry W i j)
  if isIntClass (fFmtA W) then sumGroupsInt (bitAt 6 W) (fun k => rowInt (fFmtA W) a k * rowInt (fFmtB W) b k) G (K / G) 0 old
  else sumGroups f32enc f32dec (fun k => (rowElem (fFmtA W) K a k).mul (rowElem (fFmtB W) K b k)) G (K / G) 0 old

/-- The token of an accepted command is complete: its slot is free, it has left the queue, and every group of the core that
waited for it alone goes on at its next instruction (05 R122). -/
def TokenDone (s t : State) (core ix : Nat) (cmd : MatrixCmd) : Prop :=
  (t.core core).work.mq = (s.core core).work.mq.eraseIdx ix ∧
  (tget {} (t.core core).work.tokens cmd.slot).busy = false ∧
  (tget {} (t.core core).work.tokens cmd.slot).gen = (tget {} (s.core core).work.tokens cmd.slot).gen ∧
  ∀ n g, n < 32 → (s.core core).work.group n = some g →
    (t.core core).work.group n =
      some (if g.hold = some (.token ((tget {} (s.core core).work.tokens cmd.slot).gen * 32 + cmd.slot))
            then { g with hold := none, pc := g.pc + 8 } else g)


/-! ### Issue, barriers and system instructions -/

/-- Every core instruction with the word that its command stands for (06 R131, R132). -/
def wordRows : List ((CoreAt → Rest → Instr) × (Rest → Word)) := List.flatten [
  [(.vadd, fun w => wordOf 0x01 w),
   (.vsub, fun w => wordOf 0x02 w),
   (.vmul, fun w => wordOf 0x03 w),
   (.vfma, fun w => wordOf 0x04 w),
   (.vmin, fun w => wordOf 0x05 w),
   (.vmax, fun w => wordOf 0x06 w),
   (.vand, fun w => wordOf 0x07 w),
   (.vor, fun w => wordOf 0x08 w),
   (.vxor, fun w => wordOf 0x09 w),
   (.vshl, fun w => wordOf 0x0A w),
   (.vshr, fun w => wordOf 0x0B w),
   (.vsel, fun w => wordOf 0x0C w),
   (.vshfl, fun w => wordOf 0x0D w),
   (.vcmp, fun w => wordOf 0x10 w)],
  [(.vrcp, fun w => wordOf 0x18 w),
   (.vrsqrt, fun w => wordOf 0x19 w),
   (.vexp2, fun w => wordOf 0x1A w),
   (.vlog2, fun w => wordOf 0x1B w),
   (.vaddS, fun w => wordOf 0x41 w),
   (.vsubS, fun w => wordOf 0x42 w),
   (.vmulS, fun w => wordOf 0x43 w),
   (.vfmaS, fun w => wordOf 0x44 w),
   (.vminS, fun w => wordOf 0x45 w),
   (.vmaxS, fun w => wordOf 0x46 w),
   (.vandS, fun w => wordOf 0x47 w),
   (.vorS, fun w => wordOf 0x48 w),
   (.vxorS, fun w => wordOf 0x49 w),
   (.vshlS, fun w => wordOf 0x4A w)],
  [(.vshrS, fun w => wordOf 0x4B w),
   (.vmov, fun w => wordOf 0x5C w),
   (.vext, fun w => wordOf 0x5D w),
   (.vlid, fun w => wordOf 0x5E w),
   (.sadd, fun w => wordOf 0x60 w),
   (.ssub, fun w => wordOf 0x61 w),
   (.smul, fun w => wordOf 0x62 w),
   (.sand, fun w => wordOf 0x63 w),
   (.sor, fun w => wordOf 0x64 w),
   (.sxor, fun w => wordOf 0x65 w),
   (.sshl, fun w => wordOf 0x66 w),
   (.sshr, fun w => wordOf 0x67 w),
   (.ssra, fun w => wordOf 0x68 w),
   (.smin, fun w => wordOf 0x69 w)],
  [(.smax, fun w => wordOf 0x6A w),
   (.sslt, fun w => wordOf 0x6B w),
   (.ssltu, fun w => wordOf 0x6C w),
   (.smov, fun w => wordOf 0x6D w),
   (.sorhi, fun w => wordOf 0x6E w),
   (.vld, fun w => wordOf 0x70 w),
   (.vst, fun w => wordOf 0x71 w),
   (.sld, fun w => wordOf 0x72 w),
   (.sst, fun w => wordOf 0x73 w),
   (.atomCas, fun w => wordOf 0x77 w),
   (.atomAdd, fun w => wordOf 0x78 w),
   (.atomFadd, fun w => wordOf 0x79 w),
   (.atomMin, fun w => wordOf 0x7A w),
   (.atomMax, fun w => wordOf 0x7B w)],
  [(.atomAnd, fun w => wordOf 0x7C w),
   (.atomOr, fun w => wordOf 0x7D w),
   (.atomXor, fun w => wordOf 0x7E w),
   (.atomExch, fun w => wordOf 0x7F w),
   (.br, fun w => wordOf 0x80 w),
   (.brmAny, fun w => withField 46 1 0 (wordOf 0x81 w)),
   (.brmAll, fun w => withField 46 1 1 (wordOf 0x81 w)),
   (.bz, fun w => wordOf 0x82 w),
   (.bnz, fun w => wordOf 0x83 w),
   (.call, fun w => wordOf 0x84 w),
   (.jr, fun w => wordOf 0x85 w),
   (.mif, fun w => wordOf 0x88 w),
   (.melse, fun w => wordOf 0x89 w),
   (.mjoin, fun w => wordOf 0x8A w)],
  [(.mloop, fun w => wordOf 0x8B w),
   (.mbrk, fun w => wordOf 0x8C w),
   (.mskip, fun w => wordOf 0x8D w),
   (.mresume, fun w => wordOf 0x8E w),
   (.mand, fun w => withField 24 4 0 (wordOf 0x8F w)),
   (.mor, fun w => withField 24 4 1 (wordOf 0x8F w)),
   (.mxor, fun w => withField 24 4 2 (wordOf 0x8F w)),
   (.mandn, fun w => withField 24 4 3 (wordOf 0x8F w)),
   (.mnot, fun w => withField 24 4 4 (wordOf 0x8F w)),
   (.mmov, fun w => withField 24 4 5 (wordOf 0x8F w)),
   (.ms2m, fun w => withField 24 4 6 (wordOf 0x8F w)),
   (.mm2s, fun w => withField 24 4 7 (wordOf 0x8F w)),
   (.cvt, fun w => wordOf 0x90 w),
   (.amaxr, fun w => wordOf 0x91 w)],
  [(.mma, fun w => wordOf 0xA0 w),
   (.mout, fun w => wordOf 0xA1 w),
   (.mclr, fun w => wordOf 0xA2 w),
   (.mtsum, fun w => wordOf 0xA3 w),
   (.mwait, fun w => wordOf 0xA8 w),
   (.nop, fun w => wordOf 0xB0 w),
   (.exitLanes, fun w => wordOf 0xB1 w),
   (.barSync, fun w => wordOf 0xB2 w),
   (.barArrive, fun w => wordOf 0xB3 w),
   (.fenceAcqRel, fun w => withField 3 2 0 (wordOf 0xB4 w)),
   (.fenceAcquire, fun w => withField 3 2 1 (wordOf 0xB4 w)),
   (.fenceRelease, fun w => withField 3 2 2 (wordOf 0xB4 w)),
   (.evt, fun w => wordOf 0xB5 w),
   (.srd, fun w => wordOf 0xB6 w)],
  [(.crangePrefetch, fun w => withField 0 2 0 (wordOf 0xB7 w)),
   (.crangeFlush, fun w => withField 0 2 1 (wordOf 0xB7 w)),
   (.crangeInvalidate, fun w => withField 0 2 2 (wordOf 0xB7 w))]]

/-- A commit point of a core whose matrix unit is empty: its checkpoint is its work as it stands (17 R364, R365). -/
def Committed (t : State) (core : Nat) : Prop :=
  (t.core core).ckpt = some (t.core core).work ∧ (t.core core).lastCommit = (t.core core).cycles ∧
  (t.core core).commitDue = false

/-- The values of srd (06 R153). -/
def srdRows (s : State) (c : CoreAt) (x : Ctx) (g : Group) : List (Nat × Nat) :=
  let b := (tget none (s.core c.core).work.blocks g.block).getD {}
  [(0, (s.core c.core).cycles), (1, c.core / 9 * 8 + (s.core c.core).bound.getD 0), (2, c.grp), (3, b.num), (4, g.num),
   (5, g.width), (6, (x.order.bind s.order).elim 0 fun o => o.budget - tget 0 o.spent (dieOf c.core)), (7, x.clusters.findIdx (· == c.core / 9)),
   (8, x.clusters.length)]

/-- A mask-stack entry once the lanes `d` have ended (05 R117). -/
def without (d : Word) (e : MaskEntry) : MaskEntry := { e with outer := e.outer &&& ~~~d, rest := e.rest &&& ~~~d }

end Sys2Proof.Machine.Claims
end

