-- ==== Sys2Proof/Safety/WindowTerms.lean ====
section
/-! DEFINITION. The words of the statements about streams, pins, sessions, set engines and results. -/

namespace Sys2Proof.Machine.Claims

open Sys2Proof

/-- A load of a control-window word that may hold its group: the command, when it holds, the value it returns, and how the
group is held (10 R242, 13 R293, 14 R299, 16 R351). -/
structure WindowLoad where
  con : CoreAt → Nat → Instr
  busy : Group → Bool
  val : Group → Word
  hold : Nat → Hold

def windowLoads : List WindowLoad :=
  [ ⟨.pinResult, fun g => g.win.pinRun.isSome, fun g => g.win.pinResult, .pinResult⟩,
    ⟨.sesResult, fun g => g.win.sesRun, fun g => g.win.sesResult, .sesLoad false⟩,
    ⟨.sesRet, fun g => g.win.sesRun, fun g => g.win.sesRet, .sesLoad true⟩,
    ⟨.seWait, fun g => decide (g.win.done ≠ g.win.submitted), fun g => BitVec.ofNat 64 g.win.done, .seWait⟩,
    ⟨.resWait, fun g => g.win.resUnread, fun g => BitVec.ofNat 64 g.win.resLast, .resWait⟩ ]

/-- A member of a multicast: the core, its leader, or one of the leader's followers, armed or running (09 R220, R222). -/
def member (s : State) (core slot j : Nat) : Prop :=
  j = core ∨ j = s.leaderOf core slot ∨ j ∈ s.followers (s.leaderOf core slot) slot

/-- A context has begun to be torn down with a status and a cause: no core holds it, and its orders end their runs and record
the status (17 R374). -/
def TearsDown (s t : State) (k status cause : Nat) : Prop :=
  (∃ y die, t.ctx k = some y ∧ y.stopping = some (die, status, cause)) ∧ (∀ i, (t.core i).ctx ≠ some k) ∧
  ((tkeys s.orders).Nodup → ∀ o y, s.order o = some y → y.ctx = k →
    ∃ z, t.order o = some z ∧ z.runEnded = true ∧ z.causes = y.causes ++ [status])

/-- PRODUCED after an entry: every entry below it is fully written, and it itself is not (09 R214). -/
def producedAfter (st : Stream) (entry p : Nat) : Prop :=
  st.produced ≤ p ∧ (∀ e, st.produced ≤ e → e < p → e ∈ st.complete ∨ e = entry) ∧ p ∉ st.complete ∧ p ≠ entry

/-- A pin command has ended with a status after `n` lines: the group's words, and the load that it holds (10 R242). -/
def PinEnded (g h : Group) (status n : Nat) : Prop :=
  h.win.pinRun = none ∧ h.win.pinResult = BitVec.ofNat 64 (status + n * 4294967296) ∧
  ∀ rd, g.hold = some (.pinResult rd) → h.hold = none ∧ h.pc = g.pc + 8 ∧ h.sreg rd = h.win.pinResult

/-- A command of the allocator has answered its group with a status and a value: the words of the group's window, and the
load that it holds (13 R293). -/
def Answered (s t : State) (who : GroupId) (status ret : Nat) : Prop :=
  ∀ (c : CoreAt) (g : Group), c.grp < 32 → s.groupAt c = some g → (s.core c.core).ctx = some who.ctx → s.idAt c = who →
    (g.hold = none ∨ ∃ isRet rd, g.hold = some (.sesLoad isRet rd)) →
    ∃ h, t.groupAt c = some h ∧ h.win.sesRun = false ∧ h.win.sesResult.toNat % 4294967296 = status ∧
      h.win.sesRet = BitVec.ofNat 64 ret ∧
      ∀ isRet rd, g.hold = some (.sesLoad isRet rd) →
        h.hold = none ∧ h.pc = g.pc + 8 ∧ h.sreg rd = (if isRet then h.win.sesRet else h.win.sesResult)

/-- The head of a berth's intake is a command that waits for no partner's bytes (13 R295). -/
def Head (s : State) (b : Nat) (q : SesCmd) : Prop := s.running = true ∧ (s.store b).intake.head? = some q ∧ q.open_ = 0

/-- The head of a berth's intake is the command `code` with its arguments (13 R295). -/
def Heads (s : State) (b : Nat) (who : GroupId) (code : Nat) (a0 a1 : Word) : Prop :=
  ∃ num got, Head s b { who := who, code := code, arg0 := a0, arg1 := a1, num := num, got := got }

/-- FIRST and COUNT of STORE_ADD and STORE_REMOVE: whole frames, the words' other bits zero (13 R294). -/
def FrameRange (a0 a1 : Word) (f n : Nat) : Prop :=
  a0.toNat = f * 65536 ∧ f < 4294967296 ∧ a1.toNat = n ∧ 1 ≤ n ∧ n ≤ 8388608

/-- The places of chunks of bytes lie in the device's own memory or scratch, and apart from one another. -/
def Apart (loc : Nat → Loc) (ws : List (Nat × List Byte)) : Prop :=
  (∀ p ∈ ws, isLocal (loc p.1) = true) ∧
  ws.Pairwise fun p q => ∀ i j, i < p.2.length → j < q.2.length → shift i (loc p.1) ≠ shift j (loc q.1)

/-- The chunks' bytes stand in memory or scratch, and every other place is as it was. -/
def Written (s t : State) (k : Nat) (loc : Nat → Loc) (ws : List (Nat × List Byte)) : Prop :=
  (∀ p ∈ ws, ∀ i, i < p.2.length → byteAt t k (shift i (loc p.1)) = p.2.getD i 0) ∧
  ∀ q, isLocal q = true → (∀ p ∈ ws, ∀ i, i < p.2.length → shift i (loc p.1) ≠ q) → byteAt t k q = byteAt s k q

/-- The set operations with their OP codes (14 R305). -/
def setRows : List ((Nat → Instr) × Nat) :=
  [(.sort, 1), (.merge, 2), (.intersect, 3), (.union, 4), (.gather, 5), (.scatter, 6), (.nwalk, 7), (.segred, 8), (.topk, 9),
   (.hash, 10)]

/-- Element `x` ranks before element `y` under 14 R304; equal where neither does. -/
def before (kt : Nat) (desc : Bool) (x y : List Byte) : Bool := elemBefore kt desc x y
def same (kt : Nat) (desc : Bool) (x y : List Byte) : Bool := !before kt desc x y && !before kt desc y x

/-- A list of elements is ranked (14 R304). -/
def Ranked (kt : Nat) (desc : Bool) (xs : List (List Byte)) : Prop := xs.Pairwise fun x y => before kt desc y x = false

end Sys2Proof.Machine.Claims
end

