-- ==== Sys2Proof/Safety/PlatformTerms.lean ====
section
/-! DEFINITION. The words of the statements about berths and the platform. -/

namespace Sys2Proof.Machine.Claims

open Sys2Proof

/-- A berth command's result stands in BTH_CMD_STATUS, and no command runs (03 R79, R80). -/
def Posted (t : State) (b code : Nat) : Prop :=
  t.bth.done = true ∧ t.bth.result = code ∧ t.bth.resultBerth = b ∧ t.bth.running = none

/-- A berth is stopped by withdrawal: its contexts are being torn down and each of its orders without a final answer has the
cause recorded; once teardowns are finished the contexts are gone, and so is every such order but those whose last RESULT has
left (03 R68; 17 R374). -/
def Stopped (s t : State) (b : Nat) : Prop :=
  (∀ k x, s.ctx k = some x → x.berth = b → ∃ y, t.ctx k = some y ∧ y.stopping.isSome = true) ∧
  (∀ k x, t.finishStops.ctx k = some x → x.berth ≠ b) ∧
  ∀ o x c, s.order o = some x → x.hdr.berth = b → x.answered = false → s.ctx x.ctx = some c → c.berth = b →
    (∃ z, t.order o = some z ∧ z.runEnded = true ∧ 6 ∈ z.causes) ∧ (x.lastGone = false → t.finishStops.order o = none)

/-- A berth admits orders at a tick: its last change of admission at or before that tick opened it (03 R66). -/
def AdmitsAt (s : State) (b a : Nat) : Prop :=
  ∃ pre post t, (s.berth b).gates = pre ++ (t, true) :: post ∧ t ≤ a ∧ ∀ g ∈ pre, a < g.1

/-- Nothing of a berth is in flight: every order answered, contexts released, and no header undecided that arrived while
the berth admitted orders (03 R65, R66). -/
def Quiet (s : State) (b : Nat) : Prop :=
  (∀ o x, s.order o = some x → x.hdr.berth = b → x.answered = true) ∧ (∀ k x, s.ctx k = some x → x.berth ≠ b) ∧
  ∀ h ∈ s.prf.queue ++ s.prf.onWay, h.berth = b → ¬ AdmitsAt s b h.arrival

/-- The fields of a grant lie in their ranges and keep the pool's limits; capacity-tier berths keep the tier's share of
assured work (03 R63, 12 R275). -/
def GrantLegal (s : State) (g : Grant) (p : List Byte) : Prop :=
  g.assured ≤ 1536 ∧ 1 ≤ g.stdWeight ∧ 1 ≤ g.bulkWeight ∧ g.hbmMib % 2 = 0 ∧ g.lpxMib % 2 = 0 ∧ g.pinWays ≤ 12 ∧
  1 ≤ g.egressWeight ∧ g.sessions ≤ 4096 ∧ 1 ≤ g.contexts ∧ g.contexts ≤ 1024 ∧ 10 ≤ g.timeout ∧ g.timeout ≤ 100000 ∧
  s.poolSum g.pool Grant.assured + g.assured ≤ (poolClusters p).length * 16 * 98 / 100 ∧
  s.poolSum g.pool Grant.hbmMib + g.hbmMib ≤ poolHbmGib p * 1024 ∧
  s.poolSum g.pool Grant.lpxMib + g.lpxMib ≤ poolLpxGib p * 1024 ∧ g.pinWays ≤ poolPinWays p ∧
  s.poolSum g.pool Grant.sessions + g.sessions ≤ poolSessions p ∧
  s.poolSum g.pool Grant.contexts + g.contexts ≤ poolContexts p ∧
  (g.lpxMib ≠ 0 → g.assured ≠ 0 →
    ((List.range 256).filter fun b => decide ((s.berth b).state ≠ 0 ∧ 0 < (s.berth b).grant.lpxMib)).foldl
      (fun n b => n + (s.berth b).grant.assured) 0 + g.assured ≤ 96 * s.lpxCount)

/-! ### The proofer (04) -/

/-- A quantity of a cost sheet at a SIZE (04 R82). -/
def amount (q : Quant) (size : Nat) : Nat := q.base + size * q.per

/-- The least number of whole units that covers `a / b`. -/
def up (a b : Nat) : Nat := if b = 0 ∨ a % b = 0 then a / b else a / b + 1

/-- The span of an assured order in ticks (04 R91): R the berth's ASSURED, w its EGRESS_WEIGHT, W the sum of those of the
port, rate the port egress rate, wake the start wake. -/
def span (c : CostSheet) (size R w W rate wake : Nat) (switchedIn : Bool) : Nat :=
  let phase (p : Phase) : Nat :=
    let m := min R (2 * amount p.width size)
    max (max (up (amount p.issue size * 40) (17 * m)) (up (amount p.hbm size) (7 * R))) (up (amount p.lpx size * 100) (49 * R)) +
      amount p.dep size * 9000
  let exec := (c.phases.map phase).sum
  let start := 20000 + wake + if switchedIn then 0 else min (1000000 + 10000 * amount c.ws size) 4000000
  up (start + exec + up (amount c.egress size * W) (w * rate) + (20000 + amount c.commit size)) 100

/-- The answer of an order leaves on the session that carried its header, where that session is live, has room and its
interface is up (16 R346, R350, R354). -/
def Answers (s t : State) (h : Header) (status reason time completion : Nat) : Prop :=
  ∀ c, s.conn h.conn = some c → c.unacked.length + 1 < 4096 → (s.iface c.iface).up = true →
    ∃ seq sealed, Out.packet h.conn c.iface c.peer 0x20 seq
      (bytesOf 4 h.tag ++ bytesOf 1 status ++ bytesOf 1 reason ++ [0, 0] ++ bytesOf 8 h.arrival ++ bytesOf 8 time ++
        bytesOf 8 completion) sealed ∈ t.out

/-- The checks 2 to 10 of 04 R89 that a header fails, each with its reason, in their order. -/
def failed (s : State) (h : Header) : List Nat :=
  let g := (s.berth h.berth).grant
  let y := s.berth h.berth
  let assured := decide (h.cls = 0)
  let crossing := (s.program h.berth h.program).elim false fun p => p.cost.crossing
  let checks : List (Bool × Nat) :=
    [ (!((y.gates.filter fun g => decide (g.1 ≤ h.arrival)).map Prod.snd).headD false, 2),
      (decide (65536 ≤ s.inflight), 3), (!s.wellMade h, 4), ((s.program h.berth h.program).isNone, 5),
      (((s.program h.berth h.program).bind fun p => s.bindTo h p.ctxLimit).isNone, 6),
      (assured && decide (g.assured = 0), 7), (assured && crossing, 8), (assured && (s.assuredBlocked || s.poolShort g.pool), 9),
      (assured && (s.reserveAll h.berth h.sessions).isNone, 0x0A) ]
  checks.filterMap fun p => if p.1 then some p.2 else none

/-- A header is refused: it leaves the queue, nothing is booked, the counts rise and the answer leaves. -/
def RefusedWith (s t : State) (h : Header) (reason earliest : Nat) : Prop :=
  t.orders = s.orders ∧ t.ctxs = s.ctxs ∧ (t.berth h.berth).horizon = (s.berth h.berth).horizon ∧
  ((s.berth h.berth).refused < 4294967296 → (t.berth h.berth).refused = min 4294967295 ((s.berth h.berth).refused + 1)) ∧
  t.prf.decided = (s.prf.decided + 1) % 18446744073709551616 ∧ Answers s t h 2 reason earliest 0

/-- An order is admitted under the next free number with its promised or target tick; `horizon` is H after it. -/
def Admitted (s t : State) (h : Header) (b : Binding) (time booked horizon : Nat) : Prop :=
  (∃ k, t.order s.nextDesc = some { hdr := h, time := time, booked := booked, ctx := k } ∧
    (match b with
     | .old j => k = j
     | .fresh _ => ∃ x, t.ctx k = some x ∧ x.berth = h.berth ∧ x.program = h.program ∧ x.switchedIn = false)) ∧
  (t.berth h.berth).horizon = horizon ∧ t.prf.decided = (s.prf.decided + 1) % 18446744073709551616 ∧ Answers s t h 1 0 time 0

/-- H after an unrevoked assured order with booked end `e` ends at tick `c` (04 R92). -/
def horizonLeft (H e c : Nat) : Nat := if c < e then max c (H - (e - c)) else H

/-! ### The berth transport (16) -/

/-- The rows of packets on a session: `true` where the message is reliable (16 R341, R346). -/
def packetRows : List ((Packet → Instr) × Bool) :=
  [(.btpClose, false), (.ack, false), (.heartbeat, false), (.windowWrite, true), (.order, true)]

/-- The CONTROL rows with their KIND (16 R349). -/
def controlRows : List ((Packet → Instr) × Nat) := [(.eventMask, 1), (.ifxThreshold, 2), (.install, 3), (.remove, 4)]

/-- A packet arrives on a live session by an interface that is up and whose port the berth may use, and its VER and tag are
good (16 R339, R340, R342). -/
def OnSession (s : State) (p : Packet) (c : Conn) : Prop :=
  s.ifaceUp p.iface = true ∧ (p.ip6 = true ∨ s.ip4On p.iface = true) ∧ p.ver = 1 ∧ p.authentic = true ∧ s.conn p.conn = some c ∧
  bitAt (p.iface / 2) (s.berth c.berth).grant.ports = true

/-- Its SEQ is accepted: no more than 1,024 below the highest received, and not received before (16 R345). -/
def NewSeq (c : Conn) (q : Nat) : Prop :=
  c.rxNext ≤ q ∧ q ∉ c.rxGot ∧ c.rxNext ≤ q + 1024 ∧ ∀ r ∈ c.rxGot, r + 1 ≤ q + 1024

/-- A packet of a TYPE leaves for the session's peer with a body of which `f` holds. -/
def Leaves (t : State) (conn iface : Nat) (peer : List Byte) (ty : Nat) (f : List Byte → Prop) : Prop :=
  ∃ seq body sealed, Out.packet conn iface peer ty seq body sealed ∈ t.out ∧ f body

/-- A message is refused: its SEQ and REASON stand in the session and are told in an ACK (16 R345). -/
def RefusedMsg (t : State) (p : Packet) (reason : Nat) : Prop :=
  (∃ c, t.conn p.conn = some c ∧ (p.seq, reason) ∈ c.refusals) ∧ Leaves t p.conn p.iface p.peer 0x04 fun _ => True

end Sys2Proof.Machine.Claims
end

