-- ==== Sys2Proof/Safety/LinkTerms.lean ====
section
/-! DEFINITION. The words of the statements about crossing ports, the coherence fabric and the memory tiers. -/

namespace Sys2Proof.Machine.Claims

open Sys2Proof

/-! ### Crossing ports (15) -/

/-- A port is held with a reason, without a link or keys (15 R320, R337). -/
def PortHeld (s t : State) (p reason : Nat) : Prop :=
  (t.port p).state = 5 ∧ (t.port p).holdReason = reason ∧ (t.port p).stage = 0 ∧ (t.port p).since = s.tick

/-- Bring-up has begun anew: the port waits for lane markers where its laser module delivers and light is there, else it is
held (15 R320, R337). -/
def BringupBegun (s t : State) (p : Nat) : Prop :=
  ((t.port p).laserOk = false → PortHeld s t p 2) ∧
  ((t.port p).laserOk = true → (t.port p).light = false → PortHeld s t p 1) ∧
  ((t.port p).laserOk = true → (t.port p).light = true →
    (t.port p).state = 1 ∧ (t.port p).holdReason = 0 ∧ (t.port p).stage = 0 ∧ (t.port p).since = s.tick)

/-- No request or response waits at a port. -/
def Bare (s : State) (p : Nat) : Prop := (s.port p).inq = [] ∧ (s.port p).outbound = [] ∧ (s.port p).waitq = []

/-- A link is lost with a cause: dark for 10 ms, without keys, and counted (15 R328, R338). -/
def PortLost (s t : State) (p cause : Nat) : Prop :=
  (t.port p).state = 0 ∧ (t.port p).darkEnd = some (s.tick + 100000) ∧ (t.port p).lastCause = cause ∧ (t.port p).stage = 0 ∧
  (t.port p).replay = [] ∧ ((s.port p).loss < 4294967295 → (t.port p).loss = (s.port p).loss + 1)

/-- A good flit may arrive at a port, its tag verifying once the link is up, and no flit waits to be sent. -/
def FlitArrives (s : State) (p : Nat) (f : FlitIn) : Prop :=
  s.xport p = true ∧ 2 ≤ (s.port p).state ∧ (s.port p).state ≠ 5 ∧ ((s.port p).carries = true → f.tagOk = true) ∧
  (s.port p).txq = [] ∧ (s.port p).fecCe + f.corrected < 4294967295 ∧ (s.port p).retry + (s.port p).replay.length < 4294967295

/-- The replay buffer once ACK_SEQ has passed what it names, modulo 2^24 (15 R326). -/
def kept (x : Port) (ack : Nat) : List Flit :=
  x.replay.filter fun f => decide ((ack + 16777216 - f.seq) % 16777216 = 0 ∨ 2048 < (ack + 16777216 - f.seq) % 16777216)

/-- The number of bytes that a request's SIZE names (15 R331). -/
def sizeOf (m : XMsg) : Nat := match m.size with | 0 => 64 | 1 => 128 | 2 => 4 | _ => 8

/-- The number of bytes that follow a message's header (15 R331). -/
def follows (m : XMsg) : Option Nat :=
  let data := if m.size = 0 then 64 else 128
  if m.op = 0x01 ∧ m.size ≤ 1 then some 0
  else if m.op = 0x02 ∧ m.size ≤ 1 then some (data + if m.ms then data / 8 else 0)
  else if m.op = 0x03 ∧ 2 ≤ m.size then some (if m.fn = 7 then 16 else 8)
  else if m.op = 0x04 ∧ 2 ≤ m.size then some 8
  else if m.op = 0x81 ∧ m.size ≤ 1 then some data
  else if m.op = 0x82 ∨ m.op = 0x84 then some 0
  else if m.op = 0x83 then some 8
  else none

/-- A message whose fields fit its header and whose bytes are those that follow it (15 R331). -/
def WholeMsg (m : XMsg) : Prop :=
  m.tag < 4096 ∧ m.addr < 2 ^ 37 ∧ m.size < 4 ∧ m.fn < 16 ∧ m.stale = false ∧ follows m = some m.body.length

/-- The bytes of a message (15 R331). -/
def msgBytes (m : XMsg) : List Byte :=
  bytesOf 8 (m.op + m.tag * 2 ^ 8 + m.addr * 2 ^ 20 + m.size * 2 ^ 57 + (if m.ms then 2 ^ 59 else 0) + m.fn * 2 ^ 60) ++ m.body

/-- A partner's request of one OP stands at the head of a port that can answer it at once. -/
def Asked (s : State) (p op : Nat) (m : XMsg) : Prop :=
  s.running = true ∧ (s.port p).inq.head? = some m ∧ m.op = op ∧ m.stale = false ∧ m.size < 4 ∧ m.addr % sizeOf m = 0 ∧
  (s.port p).exportWait = [] ∧ (s.port p).state = 4 ∧ (s.port p).replay.length < 2048

/-- The export entry of a request, and where it leads (15 R333). -/
def entryOf (s : State) (p : Nat) (m : XMsg) : Word := tget 0 (s.port p).exports (m.addr / 1073741824 % 128)
def entryLoc (s : State) (p : Nat) (m : XMsg) (acc : Acc) : Loc :=
  s.bvaLoc (fld 8 8 (entryOf s p m)) acc (fld 30 18 (entryOf s p m) * 1073741824 + m.addr % 1073741824)

/-- The entry lets the request pass (15 R333). -/
def EntryServes (s : State) (p : Nat) (m : XMsg) (write : Bool) : Prop :=
  bitAt 0 (entryOf s p m) = true ∧ (write = true → bitAt 1 (entryOf s p m) = true) ∧
  (s.berth (fld 8 8 (entryOf s p m))).state ≠ 0 ∧ (s.berth (fld 8 8 (entryOf s p m))).state ≠ 7 ∧
  bitAt p (s.berth (fld 8 8 (entryOf s p m))).grant.ports = true

/-- What has left the device, newest first, each flit without its 256 bytes as they are sealed. -/
def sent (s : State) : List Out :=
  s.out.map fun o => match o with
    | .flit p ty flags seq ack body _ => .flit p ty flags seq ack body []
    | o => o

/-- The 256 bytes of a flit begin with its header and end with the CRC over the others (15 R325). -/
def Framed (raw : List Byte) (ty flags seq ack : Nat) : Prop :=
  raw.length = 256 ∧ raw.take 8 = bytesOf 1 ty ++ bytesOf 1 flags ++ bytesOf 3 seq ++ bytesOf 3 ack ∧
  raw.drop 252 = bytesOf 4 (crc32c (raw.take 252))

/-- The bytes of a message of the key exchange have come in KEY flits, padded to the end of the last (15 R323). -/
def KeyArrived (s : State) (p n : Nat) (m : List Byte) : Prop :=
  (n + 231) / 232 * 232 ≤ (s.port p).keyRx.length ∧ m = (s.port p).keyRx.take n

/-- Once a partner's SHARE has come, the keys of the next epoch and the confirmation key are expanded from the shared secret,
under the nonces of the two HELLOs, the lower end's first (15 R324). -/
def KeysDerived (s t : State) (p : Nat) (share : List Byte) : Prop :=
  ∀ mine theirs : List Byte, (s.port p).keys.sent ≠ [] → (s.port p).keys.got ≠ [] →
    mine = ((s.port p).keys.sent.headD []).take 32 → theirs = ((s.port p).keys.got.headD []).take 32 →
    ∀ salt secret : List Byte, secret = ecdh (t.port p).keys.own (share.take 97) →
      salt = (if s.lowerEnd p then mine ++ theirs else theirs ++ mine) →
      (t.port p).keys.nextTx = hkdf salt secret (if s.lowerEnd p then infoLoHi else infoHiLo) 32 ∧
      (t.port p).keys.nextRx = hkdf salt secret (if s.lowerEnd p then infoHiLo else infoLoHi) 32 ∧
      (t.port p).keys.confirm = hkdf salt secret infoConfirm 48

/-- The request leaves the port's queue, and its response leaves the device in one DATA flit, padded with zeros. -/
def Responds (s t : State) (p : Nat) (bytes : List Byte) : Prop :=
  (t.port p).inq = (s.port p).inq.tail ∧
  sent t = Out.flit p 1 (if (s.port p).txEpoch then 1 else 0) (s.port p).nextSeq (s.port p).expSeq
    (bytes ++ List.replicate (232 - bytes.length) 0) [] :: sent s

/-- What a partner's atomic leaves of an old value of `n` bytes, by its FN (15 R331). -/
def crossLeft (fn n : Nat) (ms : Bool) (old arg new : Nat) : Nat :=
  let le (a b : Nat) : Bool := if ms then decide (Machine.signed (8 * n) a ≤ Machine.signed (8 * n) b) else decide (a ≤ b)
  match fn with
  | 7 => if old = arg then new else old
  | 8 => (old + arg) % 2 ^ (8 * n)
  | 9 => fp32.encode .near false ((fp32.decode old).add (fp32.decode arg))
  | 0xA => if le old arg then old else arg
  | 0xB => if le arg old then old else arg
  | 0xC => Nat.land old arg
  | 0xD => Nat.lor old arg
  | 0xE => Nat.xor old arg
  | _ => arg

/-- The number of the `n` bytes of memory from an address on. -/
def memValue (s : State) (a n : Nat) : Nat := (List.range n).foldl (fun acc i => acc + (s.byte (a + i)).toNat * 256 ^ i) 0

/-! ### The directory (10) -/

/-- The request rows with their kinds, without WB (10 R230). -/
def cohRows : List ((CohReq → Instr) × ReqKind) :=
  [(.cohRd, .rd), (.rdo, .rdo), (.upg, .upg), (.own, .own), (.nrd, .nrd), (.nwr, .nwr), (.cohAtm, .atm), (.cohRed, .red)]

/-- A request reaches its slice: the device runs, the requester may send its kind and, a cluster, cache the line (10 R225, R228),
and the line stands in memory. -/
def Reaches (s : State) (r : CohReq) : Prop :=
  s.running = true ∧ r.fits = true ∧ (r.who < 96 → s.mayHold r.line r.who = true) ∧ s.dpaLoc (r.line * 128) = .mem (r.line * 128) ∧ (r.op = .fadd → r.bytes = 4)

/-- The line may be looked up at once: not BUSY, not reserved, without pending reductions (10 R234, R235, R239). -/
def Free (x : Line) : Prop := x.busy = none ∧ x.filling = false ∧ x.prio = none ∧ x.pend = []

/-- Where an atomic or reduction acts, and the value that it leaves (10 R238). -/
def redAddr (r : CohReq) : Nat := r.line * 128 + r.off
def redLeft (r : CohReq) (old : Nat) : Nat :=
  crossLeft r.op.fn r.bytes r.op.signed old (if r.op = .cas then r.cmp else r.arg) r.arg % 2 ^ (8 * r.bytes)

/-- A request is completed as the column UNCACHED of the table "Directory transitions" says: the line's new state, the reply,
and the bytes of memory (10 R231); a reader that an INV has met keeps nothing (10 R237). -/
def Completed (s t : State) (r : CohReq) : Prop :=
  (t.line r.line).busy = none ∧ (t.line r.line).overflow = false ∧
  ((t.line r.line).dir, (t.line r.line).ptrs) =
    (match r.kind with
     | .rd => (Dir.shared, [r.who])
     | .rdo | .upg | .own => (.owned, [r.who])
     | _ => (.uncached, [])) ∧
  (match r.kind with
   | .rd => CohMsg.toReq r.line r.who (if r.keep then .shared else .nothing) (s.lineBytes r.line) 0 ∈ t.cohMsgs
   | .rdo | .upg => CohMsg.toReq r.line r.who .owned (s.lineBytes r.line) 0 ∈ t.cohMsgs
   | .own => CohMsg.toReq r.line r.who .empty [] 0 ∈ t.cohMsgs
   | .nrd => CohMsg.toReq r.line r.who .nothing (s.lineBytes r.line) 0 ∈ t.cohMsgs
   | .nwr => CohMsg.toReq r.line r.who .nothing [] 0 ∈ t.cohMsgs
   | .atm => CohMsg.toReq r.line r.who .nothing (bytesOf r.bytes (memValue s (redAddr r) r.bytes)) 0 ∈ t.cohMsgs
   | _ => True) ∧
  (r.kind = .nwr → ∀ d, t.byte d =
    if d / 128 = r.line ∧ r.mask.getLsbD (d % 128) = true then r.data.getD (d % 128) 0 else s.byte d) ∧
  (r.kind = .atm ∨ r.kind = .red →
    memValue t (redAddr r) r.bytes = redLeft r (memValue s (redAddr r) r.bytes) ∧
    ∀ d, (d < redAddr r ∨ redAddr r + r.bytes ≤ d) → t.byte d = s.byte d) ∧
  (r.kind ≠ .nwr → r.kind ≠ .atm → r.kind ≠ .red → ∀ d, t.byte d = s.byte d)

/-- A recorded sharer's copy is upgraded (10 R231). -/
def Upgraded (s t : State) (r : CohReq) : Prop :=
  (t.line r.line).busy = none ∧ (t.line r.line).dir = .owned ∧ (t.line r.line).ptrs = [r.who] ∧
  CohMsg.toReq r.line r.who .upgrade [] 0 ∈ t.cohMsgs ∧ ∀ d, t.byte d = s.byte d

/-- The clusters that "INV all" reaches: those recorded, or with the overflow bit every cluster of the dies in DIR_DIE_ON;
never the requester (10 R231, R233). -/
def roundOf (s : State) (r : CohReq) : List Nat :=
  ((List.range 96).filter fun n =>
    if (s.line r.line).overflow then ((s.mdDie (s.home r.line % 4)).dieOn).testBit (n / 12) else (s.line r.line).ptrs.contains n).filter
    fun n => n ≠ r.who

/-- A request is back in its slice's intake, its NACK counted; its line is as it was (10 R234). -/
def Nacked (s t : State) (r : CohReq) (q : List CohReq) : Prop :=
  (t.slice (s.home r.line)).intake = q ++ [{ r with nacks := r.nacks + 1 }] ∧ t.line r.line = s.line r.line ∧
  (∀ d, t.byte d = s.byte d)

end Sys2Proof.Machine.Claims
end

