-- ==== Sys2Proof/Safety/BoxTerms.lean ====
section
/-! DEFINITION. The words of the statements about Manifests, the security controller, the mailbox, reset and the pins. -/

namespace Sys2Proof.Machine.Claims

open Sys2Proof

/-- The code of the first condition of a list that holds, 0 where none does. -/
def firstOf (xs : List (Nat × Bool)) : Nat := ((xs.find? fun p => p.2).map Prod.fst).getD 0

/-- What is wrong with a delivered Manifest, step by step (02 R52). -/
def mftFaults (s : State) (b : List Byte) (g : Sigs) : List (Nat × Bool) :=
  let m := readMft b
  let versions := if s.isLive b then [s.sec.fwVersion] else s.flashVersions
  [ (1, !headerOk b), (2, !s.keyOk m.keyId), (3, !g.ecdsa), (4, !g.lms), (5, !s.seqOk b), (6, !(formatFails b).isEmpty),
    (9, !(versions.any m.accepts) && !(recsOf m.recs 12).isEmpty), (7, !(structureFails s.silicon m.recs).isEmpty),
    (8, !(resourceFails s.silicon m.recs).isEmpty),
    (0x0A, s.isLive b && s.mft.running.elim false fun old => !(scopeFails old m).isEmpty || !(s.badScope old m).isEmpty),
    (0x0B, s.isLive b && s.mft.running.elim false fun old => !(s.badFit old m).isEmpty) ]

/-- A SEC command runs on an input: it was started before, or firmware writes it now; no mailbox request waits for it
(19 R429). -/
def SecRuns (s : State) (op : Nat) (b : List Byte) : Prop :=
  s.running = true ∧ s.sec.ready = true ∧
  ((s.sec.running = some op ∧ s.sec.moving = none ∧ s.sec.input = b ∧ s.sec.viaMbx = false) ∨
   (s.sec.running = none ∧ s.fwActs = true ∧ b = s.secInput))

/-- A SEC command has ended with a result (19 R429). -/
def SecEnded (t : State) (result : Nat) : Prop :=
  t.sec.result = result ∧ t.sec.resultNew = true ∧ t.sec.running = none

/-- The output of a command stands at SEC_DST, as far as its bytes reach memory there (19 R429, 01 R30). -/
def SecOutput (s t : State) (out : List Byte) : Prop :=
  ∀ i, i < out.length → s.dpaLoc (s.sec.dst + i) = .mem (s.sec.dst + i) → t.byte (s.sec.dst + i) = out.getD i 0

/-- What keeps a lifecycle command from its transition (19 R419, R420). -/
def lifeFaults (s : State) (b : List Byte) (g : Sigs) : List (Nat × Bool) :=
  [ (1, !lifeFormat b), (6, decide ((b.drop 0x10).take 16 ≠ s.sec.serial) || decide (bf b 0x0C 4 ≠ s.transitions)),
    (3, !lifeEdges.contains (s.lifecycle, bf b 8 1) || (decide (63 ≤ s.transitions) && decide (bf b 8 1 ≠ 4)) || decide (64 ≤ s.transitions)),
    (2, !g.ecdsa || !g.lms), (4, (List.range 256).any (fun i => (s.berth i).state != 0) || decide (s.mft.phase ≠ .idle)) ]

/-- What keeps a calibration record from being stored (19 R426). -/
def calFaults (s : State) (b : List Byte) (g : Sigs) : List (Nat × Bool) :=
  [ (3, decide (s.lifecycle = 0) || decide (s.lifecycle = 4)), (1, decide (b.length ≠ 11116)), (2, !g.ecdsa || !g.lms),
    (1, decide (b.take 8 ≠ calMagic) || decide (bf b 8 2 ≠ 1)), (6, decide ((b.drop 0x10).take 16 ≠ s.sec.serial)),
    (1, decide (bf b 0x1FFC 4 ≠ crc32c (b.take 0x1FFC))), (7, !calRanges b), (1, !calReserved b) ]

/-- What keeps a debug token from being accepted (19 R422). -/
def tokenFaults (s : State) (b : List Byte) (g : Sigs) : List (Nat × Bool) :=
  let l := bf b 8 1
  [ (1, decide (b.length ≠ 2988) || decide (b.take 8 ≠ tokenMagic) || decide (l = 0) || decide (3 < l) || !zeroAt b 9 7),
    (3, decide (s.lifecycle = 0) || decide (s.lifecycle = 4)),
    (6, decide ((b.drop 16).take 16 ≠ s.sec.serial) || decide ((b.drop 32).take 32 ≠ s.sec.challenge)), (2, !g.ecdsa || !g.lms),
    (0x0A, s.mft.running.isNone || decide (bf (s.mrec 0x0A) 1 1 % 2 = 0) || decide (bf (s.mrec 0x0A) 0 1 < l) ||
      (decide (s.lifecycle = 1) && decide (2 < l))) ]

/-! ### The mailbox (21 R465 to R467) -/

/-- Firmware serves every mailbox command, and the mailbox is not BUSY. -/
def Serving (s : State) : Prop :=
  s.rst.power = true ∧ s.mbx.linkUp = true ∧ s.stopped = false ∧ s.aon.tripped = false ∧ s.aon.moored = false ∧ s.failed = none ∧
  s.rst.recovery = false ∧ s.rst.fwUp = true ∧ s.mbx.req = none

/-- A well-formed request with a body of `len` bytes reaches firmware. -/
def Asks (s : State) (r : MbxReq) (len : Nat) : Prop := Serving s ∧ r.clean = true ∧ r.body.length = len

/-- A response is posted: OPCODE, STATUS, RESULT, length, TAG and body, with MSI-X vector 0. -/
def Reply (t : State) (op : Nat) (r : MbxReq) (status result : Nat) (body : List Byte) : Prop :=
  t.mbx.resp = bytesOf 2 op ++ bytesOf 1 status ++ bytesOf 1 result ++ bytesOf 4 body.length ++ bytesOf 4 r.tag ++ bytesOf 4 0 ++ body ∧
  t.mbx.respReady = true ∧ t.mbx.req = none ∧ Out.msi 0 0 ∈ t.out

/-- A response is posted, and nothing else is changed. -/
def MbxSays (s t : State) (op : Nat) (r : MbxReq) (status result : Nat) (body : List Byte) : Prop :=
  Reply t op r status result body ∧ t = { s with mbx := t.mbx, out := t.out }

/-- The request waits for a subsystem: BUSY. -/
def Waits (t : State) (op : Nat) (r : MbxReq) (w : MbxWait) : Prop := t.mbx.req = some (op, r.tag, w, r.dmaOut)

/-- A number of a request's body, little-endian. -/
def arg (r : MbxReq) (off n : Nat) : Nat := bf r.body off n

/-- A doorbell row of the mailbox with its request, its OPCODE and the length of its body (21 R467). -/
def MbxRow (r : MbxReq) (g : Sigs) (c : Instr) (op len : Nat) : Prop :=
  (c, op, len) ∈ List.flatten [
  [ (Instr.info r, 0x01, 0), (.mftSubmit r, 0x10, 12), (.mftQuery r, 0x11, 0), (.berth r, 0x20, 56), (.berthKey r, 0x21, 56),
    (.berthQuery r, 0x22, 1), (.exportEntry r, 0x23, 8), (.setCap r, 0x30, 2), (.margin r, 0x31, 2), (.halves r, 0x32, 2) ],
  [ (.steward r, 0x33, 2), (.ifConfig r, 0x40, 28), (.portReset r, 0x41, 2), (.evtAck r, 0x50, 1), (.monStart r, 0x51, 1),
    (.regRead r, 0x52, 10), (.selftest r, 0x53, 2), (.sec r, 0x60, 28), (.engage r, 0x61, 0), (.allstop r, 0x62, 0) ],
  [ (.imageWrite r g, 0x70, 20), (.prefer r, 0x71, 1), (.coldReset r, 0x72, 0), (.dieReset r, 0x73, 1), (.moor r, 0x80, 0),
    (.unmoor r, 0x81, 0) ]]

/-- The input of a request that DMA delivers: the host address is a multiple of 8 and readable, the length as named. -/
def Delivered (r : MbxReq) (addrOff lenOff : Nat) (b : List Byte) : Prop :=
  arg r addrOff 8 % 8 = 0 ∧ r.dma = some b ∧ b.length = arg r lenOff 4

/-- No DMA of the request delivers its input. -/
def Undelivered (r : MbxReq) (addrOff lenOff : Nat) : Prop := ∀ b, ¬ Delivered r addrOff lenOff b

/-- What keeps a firmware image from being written (19 R406, R407; 21 R457). -/
def imageFaults (s : State) (i : Nat) (b : List Byte) (g : Sigs) : List (Nat × Bool) :=
  [ (3, decide (i = s.rst.image)), (1, !imageFormat b), (0x0A, s.sec.revoked.testBit (bf b 0x0A 1)), (2, !g.ecdsa || !g.lms) ]

/-! ### Reset (21 R460) -/

/-- A cold reset with a cause: volatile state is gone, a boot is to follow; fuses, flash, the nonvolatile store and AON_TICK
stay (21 R460). -/
def ColdReset (s t : State) (cause : Nat) : Prop :=
  t.tick = s.tick ∧ t.rst.pending = true ∧ t.rst.cause = cause ∧ t.rst.ready = false ∧ t.rst.fwUp = false ∧ t.failed = none ∧
  t.mem = [] ∧ t.berths = [] ∧ t.ctxs = [] ∧ t.orders = [] ∧ t.conns = [] ∧ t.cores = [] ∧ t.ports = [] ∧ t.sessions = [] ∧
  t.mft.running = none ∧ t.mft.floor = s.mft.floor ∧ t.sec.serial = s.sec.serial ∧ t.sec.top = s.sec.top ∧
  t.cal.stored = s.cal.stored ∧ t.nv.failedSlots = s.nv.failedSlots ∧ t.nv.listed = s.nv.listed ∧ t.rst.firmwares = s.rst.firmwares

/-- Registers in which firmware writes one field: the offset in control space, the value read, and the state after a
write of a word (02 R62, 03 R80, 19 R430, 21 R470). -/
def plainRegs : List (Nat × (State → Word) × (Word → State → State)) :=
  [ (0x20200048, fun s => s.bth.msiAddr, fun v s => { s with bth := { s.bth with msiAddr := v } }),
    (0x20200050, fun s => BitVec.ofNat 64 s.bth.msiData, fun v s => { s with bth := { s.bth with msiData := v.toNat % 4294967296 } }),
    (0x20600008, fun s => BitVec.ofNat 64 s.sec.src, fun v s => { s with sec := { s.sec with src := v.toNat % 281474976710656 } }),
    (0x20600010, fun s => BitVec.ofNat 64 s.sec.len, fun v s => { s with sec := { s.sec with len := v.toNat % 65536 } }),
    (0x20600018, fun s => BitVec.ofNat 64 s.sec.dst, fun v s => { s with sec := { s.sec with dst := v.toNat % 281474976710656 } }),
    (0x20800080, fun s => BitVec.ofNat 64 s.mft.src, fun v s => { s with mft := { s.mft with src := v.toNat % 281474976710656 } }),
    (0x20800088, fun s => BitVec.ofNat 64 s.mft.len, fun v s => { s with mft := { s.mft with len := v.toNat % 2097152 } }),
    (0x20A00008, fun s => BitVec.ofNat 64 (s.rst.prefer + 2 * s.rst.tries), fun v s => { s with rst := { s.rst with prefer := v.toNat % 2 } }) ]

/-- A DPA of control space, as a die code and an offset of the die's window, is one register (01 R38). -/
def RegisterAt (a n d off : Nat) (b : Blk) (o : Nat) : Prop :=
  csBase ≤ a ∧ a < csBase + csSize ∧ d = (a - csBase) / 16777216 ∧ off = (a - csBase) % 16777216 ∧ isDie d = true ∧ off % 8 = 0 ∧
  n = 8 ∧ locate d off = some (b, o)

/-- Pseudo-channels of an MD's stacks that are mapped out or fail at a boot (12 R265). -/
def lostAt (s : State) (r : BootReport) (d : Nat) : Nat :=
  ((List.range 512).filter fun pc => (decide (pc ∈ s.nv.mappedPcs) || decide (pc ∈ r.pcFails)) && pc % 4 == d).length

/-- Silicon with which a boot reaches its end: the lanes train, and no die has lost more than four pseudo-channels (12 R265,
21 R452). -/
def BootsWell (s : State) (r : BootReport) : Prop := r.laneFail = none ∧ ∀ d, d < 4 → lostAt s r d ≤ 4

/-- What a boot leaves that reaches steps 8 to 10: firmware runs under its watchdog, retired pages stay retired, stacked memory
is zero; without a Manifest it ends in step 9, with one in step 10, ready (02 R53, R54; 12 R265; 21 R452 to R457). -/
def Booted (s t : State) (r : BootReport) : Prop :=
  t.rst.pending = false ∧ t.rst.fwUp = true ∧ t.rst.watchdog = some s.tick ∧ t.tick = s.tick ∧
  (∀ d, d < 4 → t.stackGib + 3 * lostAt s r d ≤ 384) ∧ (∀ u ∈ s.nv.listed, u ∈ t.retired) ∧ (∀ a, a < stackEnd → t.byte a = 0) ∧
  (t.mft.running = none → t.rst.step = 9 ∧ t.mft.state = 3) ∧
  (t.mft.running.isSome = true → t.rst.step = 10 ∧ t.rst.ready = true ∧ t.rst.readyTick = s.tick ∧ t.mft.state = 2)

/-- A boot has ended in the failed state (17 R377, 21 R452). -/
def BootFailed (t : State) (step cause die : Nat) : Prop :=
  t.rst.pending = false ∧ t.rst.step = step ∧ t.failed = some cause ∧ t.nv.fatalCause = cause ∧ t.nv.fatalDie = die

end Sys2Proof.Machine.Claims
end

