-- ==== Sys2Proof/Certificates/Slice0/Obligations.lean ====
section
/-! DEFINITION. The statements for the provers, family by family in the order of the spec's chapters. -/

open Sys2Proof Sys2Proof.Machine

/-! ### The machine as a whole -/

/-- With a command at the front of the queue, a step is that command's effect on the state with the queue's rest. -/
def Obligations.StepRunsTheFrontCommand : Prop :=
  ∀ (i : Instr) (q : List Instr) (s : State), step (s.withPending (i :: q)) = exec i (s.withPending q)


/-- 03 R65, 05 R114, 18 R403, 20 R441, 21 R452, R460 to R468: right after reset no command waits; AON_TICK is 0; the
device is not ready, not failed and not stopped; every berth is FREE, no context, order or group exists, no session is
open, both indices of the event ring are 0, and memory lists nothing and is in canonical form (what an unlisted byte
reads as is log entry 4). Values that the spec does not give are the model's (log entry 7). -/
def Obligations.ResetLeavesNothingRunning : Prop :=
  State.reset.pending = [] ∧ State.reset.tick = 0 ∧ State.reset.rst.ready = false ∧ State.reset.rst.fwUp = false ∧
  State.reset.rst.pending = true ∧ State.reset.failed = none ∧ State.reset.stopped = false ∧ State.reset.engaged = false ∧
  (∀ b, (State.reset.berth b).state = 0) ∧ (∀ k, State.reset.ctx k = none) ∧ (∀ o, State.reset.order o = none) ∧
  (∀ c, State.reset.groupAt c = none) ∧ (∀ n, (State.reset.sess n).state = 0) ∧ (∀ p, (State.reset.port p).state = 0) ∧
  State.reset.mbx.head = 0 ∧ State.reset.mbx.tail = 0 ∧ State.reset.mbx.req = none ∧ State.reset.mbx.dropped = 0 ∧
  State.reset.mft.running = none ∧ (∀ a, State.reset.byte a = 0) ∧ State.reset.memOk = true

/-- Every step keeps memory in canonical form: the bytes that software sees and the bytes that memory itself still holds
stand at strictly rising addresses, and none equals what an unlisted address reads as. What an unlisted byte reads as,
and the two views of a byte, are the model's (log entries 4 and 8). -/
def Obligations.EveryStepKeepsMemoryCanonical : Prop :=
  ∀ s t : State, s.memOk = true → step s = .next t → t.memOk = true

/-- 18 R403, 21 R460, 22 R474: AON_TICK is set by power-good, to 0, and advances by one with a tick while the supplies are
good; no other command and no reset level changes it. That a step on an empty queue is a tick of 100 ns is the model's
choice (log entry 1). -/
def Obligations.OnlyTicksAndPowerGoodMoveTheTime : Prop :=
  ∀ s t : State, step s = .next t →
    (s.pending = [] → t.tick = if s.rst.power then s.tick + 1 else s.tick) ∧
    (∀ i q, s.pending = i :: q → i ≠ .powerGood → t.tick = s.tick) ∧
    (∀ q, s.pending = .powerGood :: q → t.tick = if s.rst.power then s.tick else 0)

/-! ### Vector and scalar instructions -/

/-- R136, R137, R141: vadd, vsub, vmul, vfma, vmin, vmax and their vector–scalar forms write the exact result in each
active lane, wrapped or clamped for integers and rounded once for floats; every other lane, register and part of the
state stays. In vfma.s c is the prior value of VD. -/
def Obligations.VectorArithmeticWritesActiveLanes : Prop :=
  ∀ r ∈ Claims.arithRows, ∀ (s : State) (c : CoreAt) (w : Rest) (k : Nat) (x : Ctx) (g : Group),
    (∀ W, W = wordOf r.op w → Claims.Issues s c W k x g →
      ∃ h, Claims.GroupBecomes (r.vv c w) s c h ∧ Claims.OnlyV g h (fVD W) ∧
        Claims.LanesMeet g h (fVD W) fun t d =>
          Claims.ArithResult (modsVV W) r.iop r.fop (g.lane (fVA W) t) (g.lane (fVB W) t) (g.lane (fVC W) t) d) ∧
    (∀ W, W = wordOf (0x40 + r.op) w → Claims.Issues s c W k x g →
      ∃ h, Claims.GroupBecomes (r.vs c w) s c h ∧ Claims.OnlyV g h (fVD W) ∧
        Claims.LanesMeet g h (fVD W) fun t d =>
          Claims.ArithResult (modsVS W) r.iop r.fop (g.lane (fVA W) t) (Claims.vsOp g W) (g.lane (fVD W) t) d)

/-- R137, R141, R154: vand, vor, vxor, vshl, vshr and their vector–scalar forms act bit by bit; vsel, vshfl, vmov and vlid
write their active lanes; vext writes its scalar register whatever m0 holds; nothing else changes. -/
def Obligations.VectorBitsAndMovesWriteTheirDestination : Prop :=
  (∀ r ∈ Claims.bitRows, ∀ (s : State) (c : CoreAt) (w : Rest) (k : Nat) (x : Ctx) (g : Group),
    (∀ W, W = wordOf r.op w → Claims.Issues s c W k x g →
      ∃ h, Claims.GroupBecomes (r.vv c w) s c h ∧ Claims.OnlyV g h (fVD W) ∧
        Claims.LanesMeet g h (fVD W) fun t d =>
          ∀ i, i < 32 → d.getLsbD i = r.bit (modsVV W).ty (g.lane (fVA W) t) (g.lane (fVB W) t) i) ∧
    (∀ W, W = wordOf (0x40 + r.op) w → Claims.Issues s c W k x g →
      ∃ h, Claims.GroupBecomes (r.vs c w) s c h ∧ Claims.OnlyV g h (fVD W) ∧
        Claims.LanesMeet g h (fVD W) fun t d =>
          ∀ i, i < 32 → d.getLsbD i = r.bit (modsVS W).ty (g.lane (fVA W) t) (Claims.vsOp g W) i)) ∧
  (∀ (s : State) (c : CoreAt) (w : Rest) (k : Nat) (x : Ctx) (g : Group),
    (∀ W, W = wordOf 0x0C w → Claims.Issues s c W k x g →
      ∃ h, Claims.GroupBecomes (.vsel c w) s c h ∧ Claims.OnlyV g h (fVD W) ∧
        Claims.LanesMeet g h (fVD W) fun t d =>
          d = if bitAt t (g.mreg (fVC W)) then g.lane (fVA W) t else g.lane (fVB W) t) ∧
    (∀ W, W = wordOf 0x0D w → Claims.Issues s c W k x g →
      ∃ h, Claims.GroupBecomes (.vshfl c w) s c h ∧ Claims.OnlyV g h (fVD W) ∧
        Claims.LanesMeet g h (fVD W) fun t d => d = g.lane (fVA W) ((g.lane (fVB W) t).toNat % g.width)) ∧
    (∀ W, W = wordOf 0x5C w → Claims.Issues s c W k x g →
      ∃ h, Claims.GroupBecomes (.vmov c w) s c h ∧ Claims.OnlyV g h (fVD W) ∧
        Claims.LanesMeet g h (fVD W) fun _ d => d = Claims.vsOp g W) ∧
    (∀ W, W = wordOf 0x5E w → Claims.Issues s c W k x g →
      ∃ h, Claims.GroupBecomes (.vlid c w) s c h ∧ Claims.OnlyV g h (fVD W) ∧
        Claims.LanesMeet g h (fVD W) fun t d => d.toNat = t) ∧
    (∀ W, W = wordOf 0x5D w → Claims.Issues s c W k x g →
      ∃ h, Claims.GroupBecomes (.vext c w) s c h ∧
        Claims.OnlyS g h (fVD W) (BitVec.ofNat 64 (g.lane (fVA W) (fld 0 6 W)).toNat)))

/-- R139, R148: vcmp writes its mask register for every lane below the width: the comparison in an active lane, 0 elsewhere; mlog
writes mask register MD, never m0, with its mask function on the bits below the width; mm2s writes sA with mA. -/
def Obligations.ComparesAndMaskFunctionsWriteMasks : Prop :=
  (∀ (s : State) (c : CoreAt) (w : Rest) (k : Nat) (x : Ctx) (g : Group) (W : Word),
    W = wordOf 0x10 w → Claims.Issues s c W k x g →
      1 ≤ fVD W ∧ fVD W ≤ 7 ∧ fld 12 4 W ≤ 6 ∧ (fld 12 4 W = 6 → (modsVV W).ty.isFloat = true) ∧
      ∃ h, Claims.GroupBecomes (.vcmp c w) s c h ∧
        Claims.OnlyM g h (fVD W) fun t => bitAt t (g.mreg 0) &&
          Claims.lanesCmp (modsVV W) (fld 12 4 W) (g.lane (fVA W) t) (g.lane (fVB W) t)) ∧
  (∀ (s : State) (c : CoreAt) (w : Rest) (k : Nat) (x : Ctx) (g : Group),
    (∀ r ∈ Claims.mlogRows, ∀ W, W = withField 24 4 r.2 (wordOf 0x8F w) → Claims.Issues s c W k x g →
      fMD W ≠ 0 ∧
      ∃ h, Claims.GroupBecomes (r.1 c w) s c h ∧
        Claims.OnlyM g h (fMD W) fun t =>
          Claims.mlogBit r.2 (bitAt t (g.mreg (fMA W))) (bitAt t (g.mreg (fMB W))) (bitAt t (g.sreg (fBSA W)))) ∧
    (∀ W, W = withField 24 4 7 (wordOf 0x8F w) → Claims.Issues s c W k x g →
      fMD W = 0 ∧ ∃ h, Claims.GroupBecomes (.mm2s c w) s c h ∧ Claims.OnlyS g h (fBSA W) (g.mreg (fMA W))))

/-- R138, R149, 08 R198 to R203: vrcp, vrsqrt, vexp2 and vlog2 complete and write the active lanes of their destination alone,
with the rule's results for NaN, infinities, zeros and values below zero (the rounding of other values is not stated here); cvt
completes and writes each element of its destination span in the active lanes with the conversion of the same element of
its source span, and with AMAX the running maximum; amaxr completes, reads the running maximum and clears it where CLR is 1. -/
def Obligations.FunctionsAndConversionsWriteTheirSpan : Prop :=
  (∀ (s : State) (c : CoreAt) (w : Rest) (k : Nat) (x : Ctx) (g : Group),
    (∀ W, W = wordOf 0x18 w → Claims.Issues s c W k x g →
      ∃ h, Claims.GroupBecomes (.vrcp c w) s c h ∧ Claims.OnlyV g h (fVD W) ∧
        Claims.LanesMeet g h (fVD W) fun t d => ∀ v, v = negIf (modsVV W).negA (f32dec (g.lane (fVA W) t)) →
          (v = .nan → d = 0x7FC00000#32) ∧ (∀ n, v.isZero = true → v.neg? = n → d = if n then 0xFF800000#32 else 0x7F800000#32) ∧
          (∀ n, v = .inf n → d = if n then 0x80000000#32 else 0#32)) ∧
    (∀ W, W = wordOf 0x19 w → Claims.Issues s c W k x g →
      ∃ h, Claims.GroupBecomes (.vrsqrt c w) s c h ∧ Claims.OnlyV g h (fVD W) ∧
        Claims.LanesMeet g h (fVD W) fun t d => ∀ v, v = negIf (modsVV W).negA (f32dec (g.lane (fVA W) t)) →
          (v = .nan → d = 0x7FC00000#32) ∧ (∀ n, v.isZero = true → v.neg? = n → d = if n then 0xFF800000#32 else 0x7F800000#32) ∧
          (v.isZero = false → v.neg? = true → d = 0x7FC00000#32) ∧ (v = .inf false → d = 0#32)) ∧
    (∀ W, W = wordOf 0x1A w → Claims.Issues s c W k x g →
      ∃ h, Claims.GroupBecomes (.vexp2 c w) s c h ∧ Claims.OnlyV g h (fVD W) ∧
        Claims.LanesMeet g h (fVD W) fun t d => ∀ v, v = negIf (modsVV W).negA (f32dec (g.lane (fVA W) t)) →
          (v = .nan → d = 0x7FC00000#32) ∧ (v = .inf true → d = 0#32) ∧ (v = .inf false → d = 0x7F800000#32) ∧
          (v.isZero = true → d = 0x3F800000#32)) ∧
    (∀ W, W = wordOf 0x1B w → Claims.Issues s c W k x g →
      ∃ h, Claims.GroupBecomes (.vlog2 c w) s c h ∧ Claims.OnlyV g h (fVD W) ∧
        Claims.LanesMeet g h (fVD W) fun t d => ∀ v, v = negIf (modsVV W).negA (f32dec (g.lane (fVA W) t)) →
          (v = .nan → d = 0x7FC00000#32) ∧ (v.isZero = true → d = 0xFF800000#32) ∧
          (v.isZero = false → v.neg? = true → d = 0x7FC00000#32) ∧ (v = .inf false → d = 0x7F800000#32))) ∧
  (∀ (s : State) (c : CoreAt) (w : Rest) (k : Nat) (x : Ctx) (g : Group),
    (∀ W, W = wordOf 0x90 w → Claims.Issues s c W k x g →
      ∃ h, Claims.GroupBecomes (.cvt c w) s c h ∧ h.pc = g.pc + 8 ∧
        ({ h with v := [], pc := 0, amax := 0 } : Group) = { g with v := [], pc := 0, amax := 0 } ∧
        (∀ f d t, fmtOf (fFsrc W) = some f → fmtOf (fFdst W) = some d → t < 64 →
          if t < g.width ∧ bitAt t (g.mreg 0) then
            ∀ n, n < max f.perLane d.perLane →
              Claims.spanElem d (fun j => h.lane j t) (fVD W) n =
                d.encode (fRm W) (bitAt 22 W)
                  (Claims.descaled W (g.lane (fVB W) t) (Claims.cvtValue W f (g.lane (fVB W) t) (Claims.spanElem f (fun j => g.lane j t) (fVA W) n)))
                  % 2 ^ d.width
          else ∀ j, h.lane j t = g.lane j t) ∧
        (∀ j, (j < fVD W ∨ fVD W + (cvtSpans (fFsrc W) (fFdst W)).2 ≤ j) → h.vreg j = g.vreg j) ∧
        (bitAt 23 W = false → h.amax = g.amax) ∧
        (bitAt 23 W = true → g.amax.toNat ≤ 0x7F800000 → ∀ f xs, fmtOf (fFsrc W) = some f →
          xs = (List.range g.width).flatMap (fun t => if bitAt t (g.mreg 0) then
            (List.range ((cvtSpans (fFsrc W) (fFdst W)).1 * f.perLane)).map fun n =>
              Claims.cvtValue W f (g.lane (fVB W) t) (Claims.spanElem f (fun j => g.lane j t) (fVA W) n) else []) →
          g.amax.toNat ≤ h.amax.toNat ∧ (∀ v ∈ xs, v.isNan = false → (f32enc (Claims.magnitude v)).toNat ≤ h.amax.toNat) ∧
          (h.amax = g.amax ∨ ∃ v ∈ xs, v.isNan = false ∧ h.amax = f32enc (Claims.magnitude v)))) ∧
    (∀ W, W = wordOf 0x91 w → Claims.Issues s c W k x g →
      ∃ h, Claims.GroupBecomes (.amaxr c w) s c h ∧ h.pc = g.pc + 8 ∧
        ({ h with s := [], pc := 0, amax := 0 } : Group) = { g with s := [], pc := 0, amax := 0 } ∧
        (∀ j, h.sreg j = if j = fCSD W then BitVec.ofNat 64 g.amax.toNat else g.sreg j) ∧
        h.amax = if bitAt 13 W then 0#32 else g.amax))

/-- R140, R141: the scalar instructions write sD with the table's operation on sA and the operand. -/
def Obligations.ScalarOperationsWriteTheirRegister : Prop :=
  ∀ r ∈ Claims.scalarRows, ∀ (s : State) (c : CoreAt) (w : Rest) (k : Nat) (x : Ctx) (g : Group) (W : Word),
    W = wordOf r.op w → Claims.Issues s c W k x g →
      ∃ h d, Claims.GroupBecomes (r.con c w) s c h ∧ Claims.OnlyS g h (fVD W) d ∧
        r.val (g.sreg (fVA W)) (Claims.scOp g W) d

/-! ### Branches and masks -/

/-- R146, R147: a taken branch, call or jump moves the PC to its target and a not-taken branch advances it by 8; nothing
else changes but the link register of call. brm tests m0 as the rule says. -/
def Obligations.BranchesMoveThePc : Prop :=
  ∀ (s : State) (c : CoreAt) (w : Rest) (k : Nat) (x : Ctx) (g : Group),
    (∀ W, W = wordOf 0x80 w → Claims.Issues s c W k x g →
      ∃ h, Claims.GroupBecomes (.br c w) s c h ∧ Claims.OnlyPc g h (Claims.target g W)) ∧
    (∀ W, W = withField 46 1 0 (wordOf 0x81 w) → Claims.Issues s c W k x g →
      ∃ h, Claims.GroupBecomes (.brmAny c w) s c h ∧ Claims.OnlyPc g h
        (if g.mreg 0 &&& g.mreg (fMA W) ≠ 0 then Claims.target g W else g.pc + 8)) ∧
    (∀ W, W = withField 46 1 1 (wordOf 0x81 w) → Claims.Issues s c W k x g →
      ∃ h, Claims.GroupBecomes (.brmAll c w) s c h ∧ Claims.OnlyPc g h
        (if g.mreg 0 ≠ 0 ∧ g.mreg 0 &&& g.mreg (fMA W) = g.mreg 0 then Claims.target g W else g.pc + 8)) ∧
    (∀ W, W = wordOf 0x82 w → Claims.Issues s c W k x g →
      ∃ h, Claims.GroupBecomes (.bz c w) s c h ∧ Claims.OnlyPc g h
        (if g.sreg (fBSA W) = 0 then Claims.target g W else g.pc + 8)) ∧
    (∀ W, W = wordOf 0x83 w → Claims.Issues s c W k x g →
      ∃ h, Claims.GroupBecomes (.bnz c w) s c h ∧ Claims.OnlyPc g h
        (if g.sreg (fBSA W) = 0 then g.pc + 8 else Claims.target g W)) ∧
    (∀ W, W = wordOf 0x84 w → Claims.Issues s c W k x g →
      ∃ h, Claims.GroupBecomes (.call c w) s c h ∧ h.pc = Claims.target g W ∧ Claims.butS h = Claims.butS g ∧
        ∀ j, h.sreg j = if j = fBSA W then g.pc + 8 else g.sreg j) ∧
    (∀ W, W = wordOf 0x85 w → Claims.Issues s c W k x g →
      ((g.sreg (fBSA W)).toNat % 8 = 0 →
        ∃ h, Claims.GroupBecomes (.jr c w) s c h ∧ Claims.OnlyPc g h (g.sreg (fBSA W))) ∧
      ((g.sreg (fBSA W)).toNat % 8 ≠ 0 → exec (.jr c w) s = .next (s.coreFault c 0x05)))

/-- R115, R116: mif and mloop push their entry, and overflow a stack of 16; melse, mjoin, mbrk, mskip and mresume act on
the top entry, and underflow an empty stack. brm tests m0 as a whole, and no branch changes a mask. -/
def Obligations.MaskStackFollowsTheTable : Prop :=
  (∀ (s : State) (c : CoreAt) (w : Rest) (k : Nat) (x : Ctx) (g : Group),
    (∀ W, W = wordOf 0x88 w → Claims.Issues s c W k x g →
      (g.stack.length < 16 → ∀ m, m = (g.mreg 0 &&& g.mreg (fMA W)) &&& Claims.ones g →
        ∃ h, Claims.GroupBecomes (.mif c w) s c h ∧
          Claims.MaskStep g h m
            ({ outer := g.mreg 0, rest := g.mreg 0 &&& ~~~(g.mreg (fMA W)), reconv := Claims.target g W } :: g.stack)
            (if m = 0 then Claims.target g W else g.pc + 8)) ∧
      (16 ≤ g.stack.length → exec (.mif c w) s = .next (s.coreFault c 0x03))) ∧
    (∀ W, W = wordOf 0x8B w → Claims.Issues s c W k x g →
      (g.stack.length < 16 →
        ∃ h, Claims.GroupBecomes (.mloop c w) s c h ∧
          Claims.MaskStep g h (g.mreg 0) ({ outer := g.mreg 0, rest := 0, reconv := Claims.target g W } :: g.stack)
            (g.pc + 8)) ∧
      (16 ≤ g.stack.length → exec (.mloop c w) s = .next (s.coreFault c 0x03)))) ∧
  (∀ (s : State) (c : CoreAt) (w : Rest) (k : Nat) (x : Ctx) (g : Group),
    (∀ W e st, W = wordOf 0x89 w → Claims.Issues s c W k x g → g.stack = e :: st → ∀ m, m = e.rest &&& Claims.ones g →
      ∃ h, Claims.GroupBecomes (.melse c w) s c h ∧
        Claims.MaskStep g h m ({ outer := e.outer, rest := 0, reconv := Claims.target g W } :: st)
          (if m = 0 then Claims.target g W else g.pc + 8)) ∧
    (∀ W e st, W = wordOf 0x8A w → Claims.Issues s c W k x g → g.stack = e :: st →
      ∃ h, Claims.GroupBecomes (.mjoin c w) s c h ∧ Claims.MaskStep g h (e.outer &&& Claims.ones g) st (g.pc + 8)) ∧
    (∀ W e st, W = wordOf 0x8C w → Claims.Issues s c W k x g → g.stack = e :: st →
      ∀ m, m = (g.mreg 0 &&& ~~~(g.mreg (fMA W))) &&& Claims.ones g →
      ∃ h, Claims.GroupBecomes (.mbrk c w) s c h ∧
        Claims.MaskStep g h m (e :: st) (if m = 0 then e.reconv else g.pc + 8)) ∧
    (∀ W e st, W = wordOf 0x8D w → Claims.Issues s c W k x g → g.stack = e :: st →
      ∀ m, m = (g.mreg 0 &&& ~~~(g.mreg (fMA W))) &&& Claims.ones g →
      ∃ h, Claims.GroupBecomes (.mskip c w) s c h ∧
        Claims.MaskStep g h m
          ({ outer := e.outer, rest := e.rest ||| (g.mreg 0 &&& g.mreg (fMA W)), reconv := e.reconv } :: st)
          (if m = 0 then e.reconv else g.pc + 8)) ∧
    (∀ W e st, W = wordOf 0x8E w → Claims.Issues s c W k x g → g.stack = e :: st →
      ∃ h, Claims.GroupBecomes (.mresume c w) s c h ∧
        Claims.MaskStep g h ((g.mreg 0 ||| e.rest) &&& Claims.ones g)
          ({ outer := e.outer, rest := 0, reconv := e.reconv } :: st) (g.pc + 8)) ∧
    (g.stack = [] →
      (∀ p ∈ [(Instr.melse, 0x89), (.mjoin, 0x8A), (.mbrk, 0x8C), (.mskip, 0x8D), (.mresume, 0x8E)],
        Claims.Issues s c (wordOf p.2 w) k x g → exec (p.1 c w) s = .next (s.coreFault c 0x04)))) ∧
  (∀ (s : State) (c : CoreAt) (w : Rest) (k : Nat) (x : Ctx) (g : Group),
    (∀ W, W = withField 46 1 0 (wordOf 0x81 w) → Claims.Issues s c W k x g →
      ∃ h, Claims.GroupBecomes (.brmAny c w) s c h ∧ Claims.OnlyPc g h
        (if g.mreg 0 &&& g.mreg (fMA W) ≠ 0 then Claims.target g W else g.pc + 8)) ∧
    (∀ W, W = withField 46 1 1 (wordOf 0x81 w) → Claims.Issues s c W k x g →
      ∃ h, Claims.GroupBecomes (.brmAll c w) s c h ∧ Claims.OnlyPc g h
        (if g.mreg 0 ≠ 0 ∧ g.mreg 0 &&& g.mreg (fMA W) = g.mreg 0 then Claims.target g W else g.pc + 8)) ∧
    (∀ p ∈ [(Instr.br, 0x80), (.bz, 0x82), (.bnz, 0x83), (.call, 0x84), (.jr, 0x85)], ∀ W, W = wordOf p.2 w →
      Claims.Issues s c W k x g → (p.2 = 0x85 → (g.sreg (fBSA W)).toNat % 8 = 0) →
      ∃ h, Claims.GroupBecomes (p.1 c w) s c h ∧ h.m = g.m))



/-! ### Memory instructions -/

/-- R143, R144: vld and sld, whose addresses are aligned, below 2^48 and lead to memory or scratch, write the little-endian value
found there, extended as SX says; nothing else of the group changes but its PC, and no byte of memory outside lines with
pending reductions. Where an access of another group that no release and acquire has separated may be missed, the value is
left open, and what an acquire form does to the model's marks is left aside (log entry 22). R124, R143, R156: an address of an active lane that is no multiple of the size
faults with cause 0x05; else one with any of bits [63:48] set faults with cause 0x06. No access is made. SX of a
4-byte sld extends its sign (log entry 14). -/
def Obligations.LoadsReadTheirPlacesOrFault : Prop :=
  (∀ (s : State) (c : CoreAt) (w : Rest) (k : Nat) (x : Ctx) (g : Group),
    (∀ W n, W = wordOf 0x70 w → n = 2 ^ fld 22 2 W → Claims.Issues s c W k x g →
      Claims.LanesReach s c x g W .load →
      ∃ h ms f, exec (.vld c w) s = .next { (Claims.settled s c x g W .load).setGroup c h with marks := ms, free := f } ∧
        h.pc = g.pc + 8 ∧ (fOrd W ≠ 1 → ms = s.marks) ∧ (s.mayMiss (s.idAt c) = false → f = s.free) ∧
        ({ h with v := [], pc := 0, rem := {} } : Group) = { g with v := [], pc := 0, rem := {} } ∧
        (∀ t i, t < 64 → i < (if n = 8 then 2 else 1) →
          if Claims.lane? g t then
            s.mayMiss (s.idAt c) = false → (h.lane (fVD W + i) t).toNat =
              Claims.extended n (if n = 8 then 64 else 32) (fSX W)
                (Claims.valueAt (Claims.settled s c x g W .load) k n (Claims.place s c x g W .load t)) / 2 ^ (32 * i) % 2 ^ 32
          else h.lane (fVD W + i) t = g.lane (fVD W + i) t) ∧
        (∀ j, j ≠ fVD W → (n = 8 → j ≠ fVD W + 1) → h.vreg j = g.vreg j)) ∧
    (∀ W n l, W = wordOf 0x72 w → n = 2 ^ fld 22 2 W → Claims.Issues s c W k x g →
      Claims.scAddress g W % n = 0 → Claims.scAddress g W < 281474976710656 →
      (Claims.scAddress g W < deviceRegion ∨ scrBase ≤ Claims.scAddress g W) →
      l = s.engineLoc x (clusterOf c.core) .load (Claims.scAddress g W) → Claims.isLocal l = true →
      ∃ h ms f, exec (.sld c w) s = .next { (s.settle [l]).setGroup c h with marks := ms, free := f } ∧ h.pc = g.pc + 8 ∧
        (fOrd W ≠ 1 → ms = s.marks) ∧ (s.mayMiss (s.idAt c) = false → f = s.free) ∧
        ({ h with s := [], pc := 0, rem := {} } : Group) = { g with s := [], pc := 0, rem := {} } ∧
        (∀ j, j ≠ fVD W → h.sreg j = g.sreg j) ∧
        (s.mayMiss (s.idAt c) = false →
          (h.sreg (fVD W)).toNat = Claims.extended n 64 (fSX W) (Claims.valueAt (s.settle [l]) k n l))) ∧
    ((∀ ln, (s.line ln).pend = []) → ∀ ls, s.settle ls = s)) ∧
  (∀ p ∈ [(Instr.vld, 0x70), (.vst, 0x71), (.atomCas, 0x77), (.atomAdd, 0x78), (.atomFadd, 0x79), (.atomMin, 0x7A),
         (.atomMax, 0x7B), (.atomAnd, 0x7C), (.atomOr, 0x7D), (.atomXor, 0x7E), (.atomExch, 0x7F)],
    ∀ (s : State) (c : CoreAt) (w : Rest) (k : Nat) (x : Ctx) (g : Group) (W : Word) (u : Nat),
    W = wordOf p.2 w → Claims.Issues s c W k x g → Claims.waitsFirst s c W = false → u < g.width → Claims.lane? g u = true →
      (Claims.address g W u % 2 ^ fld 22 2 W ≠ 0 → exec (p.1 c w) s = .next (s.coreFault c 0x05)) ∧
      ((∀ u', u' < g.width → Claims.lane? g u' = true → Claims.address g W u' % 2 ^ fld 22 2 W = 0) →
        281474976710656 ≤ Claims.address g W u → exec (p.1 c w) s = .next (s.coreFault c 0x06)))

/-- R129, R144: vst and sst store the low bytes of their data at their places, the highest active lane that writes a byte
winning; every other byte of memory and scratch stays, and of the group only the PC moves. R125, R126: no unreleased atomic
of another group may leave this one out of its scope (log entry 22). -/
def Obligations.StoresWriteTheirPlaces : Prop :=
  ∀ (s : State) (c : CoreAt) (w : Rest) (k : Nat) (x : Ctx) (g : Group),
    (∀ W n, W = wordOf 0x71 w → n = 2 ^ fld 22 2 W → Claims.Issues s c W k x g →
      Claims.waitsFirst s c W = false → Claims.LanesReach s c x g W .store → Claims.WithinScopes s c 6 →
      ∃ t, exec (.vst c w) s = .next t ∧ t.groupAt c = some { g with pc := g.pc + 8 } ∧
        (∀ u i q, u < 64 → Claims.lane? g u = true → i < n → q = Claims.shift i (Claims.place s c x g W .store u) →
          (∀ u' i', u < u' → u' < 64 → Claims.lane? g u' = true → i' < n →
            Claims.shift i' (Claims.place s c x g W .store u') ≠ q) →
          (Claims.byteAt t k q).toNat = Claims.regValue g (fVB W) n u / 256 ^ i % 256) ∧
        (∀ q, Claims.isLocal q = true →
          (∀ u i, u < 64 → Claims.lane? g u = true → i < n → Claims.shift i (Claims.place s c x g W .store u) ≠ q) →
          Claims.byteAt t k q = Claims.byteAt (Claims.settled s c x g W .store) k q)) ∧
    (∀ W n l, W = wordOf 0x73 w → n = 2 ^ fld 22 2 W → Claims.Issues s c W k x g → Claims.waitsFirst s c W = false →
      Claims.scAddress g W % n = 0 → Claims.scAddress g W < 281474976710656 →
      (Claims.scAddress g W < deviceRegion ∨ scrBase ≤ Claims.scAddress g W) →
      l = s.engineLoc x (clusterOf c.core) .store (Claims.scAddress g W) → Claims.isLocal l = true → Claims.WithinScopes s c 6 →
      ∃ t, exec (.sst c w) s = .next t ∧ t.groupAt c = some { g with pc := g.pc + 8 } ∧
        (∀ i, i < n → (Claims.byteAt t k (Claims.shift i l)).toNat = (g.sreg (fVB W)).toNat / 256 ^ i % 256) ∧
        ∀ q, Claims.isLocal q = true → (∀ i, i < n → Claims.shift i l ≠ q) →
          Claims.byteAt t k q = Claims.byteAt (s.settle [l]) k q)

/-- R124, R127, R128: the lanes of an atomic act one after another in ascending order: each returns what the lanes before
it left at its address, the last leaves the memory value, and bytes that no lane names stay. R125, R126: unreleased
accesses of other groups and this one must be within each other's scopes (log entry 22). -/
def Obligations.AtomicsActInLaneOrder : Prop :=
  ∀ r ∈ Claims.atomRows, ∀ (s : State) (c : CoreAt) (w : Rest) (k : Nat) (x : Ctx) (g : Group) (W : Word) (n : Nat),
    W = wordOf r.op w → n = 2 ^ fld 22 2 W → Claims.Issues s c W k x g →
    Claims.LanesReach s c x g W .store → Claims.WithinScopes s c (fScope W) →
    (∀ t, t < 64 → Claims.lane? g t = true → Claims.offsetOf (Claims.place s c x g W .store t) % n = 0) →
    ∃ t h, exec (r.con c w) s = .next t ∧ t.groupAt c = some h ∧ h.pc = g.pc + 8 ∧
      ({ h with v := [], pc := 0 } : Group) = { g with v := [], pc := 0 } ∧
      (∀ u, u < 64 → Claims.lane? g u = true →
        Claims.valueAt t k n (Claims.place s c x g W .store u) =
          Claims.atomFold r g W
            (fun u' => decide (Claims.place s c x g W .store u' = Claims.place s c x g W .store u))
            (Claims.valueAt (Claims.settled s c x g W .store) k n (Claims.place s c x g W .store u))) ∧
      (∀ q, Claims.isLocal q = true →
        (∀ u i, u < 64 → Claims.lane? g u = true → i < n → Claims.shift i (Claims.place s c x g W .store u) ≠ q) →
        Claims.byteAt t k q = Claims.byteAt (Claims.settled s c x g W .store) k q) ∧
      (fRet W = false → h.v = g.v) ∧
      (fRet W = true → ∀ u i, u < 64 → i < (if n = 8 then 2 else 1) →
        (h.lane (fVD W + i) u).toNat =
          if Claims.lane? g u then
            Claims.atomFold r g W
              (fun u' => decide (u' < u) && decide (Claims.place s c x g W .store u' = Claims.place s c x g W .store u))
              (Claims.valueAt (Claims.settled s c x g W .store) k n (Claims.place s c x g W .store u))
              / 2 ^ (32 * i) % 2 ^ 32
          else (g.lane (fVD W + i) u).toNat)


/-! ### Matrix commands -/

/-- R121, R122, R123: a matrix command issued while m0 is zero writes the null token; one whose operands pass their checks
takes the lowest free token slot, writes its token and enters the queue; without room it holds its own group. R122:
mwait goes on at once for the null token, a token of another generation or one whose command has completed; else it
holds its group. A held command enters the unit when there is room (MATRIX_COMMAND_ACCEPT), and the group goes on. A
token names its slot and the next generation modulo 2,047; the first generation of a slot is left open (log entry 16).
What a passed mwait does to the model's marks is left aside (log entry 22). -/
def Obligations.MatrixCommandsTakeTokensAndAreAwaited : Prop :=
  (∀ p ∈ Claims.matrixRows, ∀ (s : State) (c : CoreAt) (w : Rest) (k : Nat) (x : Ctx) (g : Group) (W : Word),
    W = wordOf p.2 w → Claims.Issues s c W k x g →
    (g.mreg 0 = 0 → ∃ h, Claims.GroupBecomes (p.1 c w) s c h ∧ Claims.OnlyS g h (fXD W) 0xFFFF#64) ∧
    (g.mreg 0 ≠ 0 → matrixCause (s.scrBytes x) W (g.sreg (fXA W)) (g.sreg (fXB W)) (g.sreg (fXC W)) = 0 →
      (∀ n, Claims.tileRoom (s.core c.core).work W → Claims.lowestFree (s.core c.core).work n →
        ∃ t h tok, exec (p.1 c w) s = .next t ∧ t.groupAt c = some h ∧ Claims.TokenFor (s.core c.core).work n tok ∧
          Claims.OnlyS g h (fXD W) (BitVec.ofNat 64 tok) ∧ (tget {} (t.core c.core).work.tokens n).gen = tok / 32 ∧
          (t.core c.core).work.mq = (s.core c.core).work.mq ++
            [{ w := W, sA := g.sreg (fXA W), sB := g.sreg (fXB W), sC := g.sreg (fXC W), grp := c.grp, slot := n,
               pc := g.pc, snap := x.scratch }] ∧
          (tget {} (t.core c.core).work.tokens n).busy = true ∧
          (∀ a, t.byte a = s.byte a) ∧ ∀ d, d ≠ c → t.groupAt d = s.groupAt d) ∧
      ((¬ Claims.tileRoom (s.core c.core).work W ∨ ∀ n, n < 32 → (tget {} (s.core c.core).work.tokens n).busy = true) →
        Claims.GroupBecomes (p.1 c w) s c
          { g with hold := some (.matrix W (g.sreg (fXA W)) (g.sreg (fXB W)) (g.sreg (fXC W))) })) ∧
    (∀ e, g.mreg 0 ≠ 0 → e = matrixCause (s.scrBytes x) W (g.sreg (fXA W)) (g.sreg (fXB W)) (g.sreg (fXC W)) → e ≠ 0 →
      exec (p.1 c w) s = .next (s.coreFault c e))) ∧
  ((∀ (s : State) (c : CoreAt) (w : Rest) (k : Nat) (x : Ctx) (g : Group) (W : Word) (tok : Nat) (t : TokenSlot),
    W = wordOf 0xA8 w → Claims.Issues s c W k x g → tok = (g.sreg (fXA W)).toNat % 65536 →
    t = tget {} (s.core c.core).work.tokens (tok % 32) →
    ((tok = 0xFFFF ∨ t.busy = false ∨ t.gen ≠ tok / 32) → ∃ h ms, exec (.mwait c w) s = .next { s.setGroup c h with marks := ms } ∧
      (s.setGroup c h).groupAt c = some h ∧ Claims.OnlyPc g h (g.pc + 8)) ∧
    ((tok ≠ 0xFFFF ∧ t.busy = true ∧ t.gen = tok / 32) →
      Claims.GroupBecomes (.mwait c w) s c { g with hold := some (.token tok) })) ∧
  (∀ (s : State) (c : CoreAt) (k : Nat) (x : Ctx) (g : Group) (W sA sB sC : Word) (n : Nat),
    s.heldGroup c = some (k, x, g, .matrix W sA sB sC) → (s.core c.core).commitDue = false →
    Claims.tileRoom (s.core c.core).work W → Claims.lowestFree (s.core c.core).work n →
      ∃ t h tok, exec (.matrixAccept c) s = .next t ∧ t.groupAt c = some h ∧ h.hold = none ∧ h.pc = g.pc + 8 ∧
        Claims.TokenFor (s.core c.core).work n tok ∧ h.sreg (fXD W) = BitVec.ofNat 64 tok ∧
        (t.core c.core).work.mq = (s.core c.core).work.mq ++
          [{ w := W, sA := sA, sB := sB, sC := sC, grp := c.grp, slot := n, pc := g.pc, snap := x.scratch }] ∧
        (tget {} (t.core c.core).work.tokens n).busy = true))

/-- R184: a command starts once every earlier one on its pipeline has started and no earlier one names a tile that it
overlaps, but an mma may follow an unfinished mma to an identical tile. A command that is not due changes nothing (the
model's choice, log entry 2). -/
def Obligations.MatrixCommandsStartInOrder : Prop :=
  ∀ (s : State) (core slot ix : Nat) (cmd : MatrixCmd),
    (s.liveCore core).isSome → ix = (s.core core).work.mq.findIdx (fun q => q.slot == slot) →
    (s.core core).work.mq[ix]? = some cmd → cmd.started = false →
    ((∀ e ∈ (s.core core).work.mq.take ix,
        (onArray e.w = onArray cmd.w → e.started = true) ∧
        (tilesOverlap e.w cmd.w = true → opc e.w = 0xA0 ∧ opc cmd.w = 0xA0 ∧ tilesIdentical e.w cmd.w = true)) →
      ∃ t, exec (.matrixStart core slot) s = .next t ∧
        (t.core core).work.mq = (s.core core).work.mq.set ix { cmd with started := true } ∧
        ∀ d, t.groupAt d = s.groupAt d) ∧
    ((∃ e ∈ (s.core core).work.mq.take ix,
        (onArray e.w = onArray cmd.w ∧ e.started = false) ∨
        (tilesOverlap e.w cmd.w = true ∧ ¬ (opc e.w = 0xA0 ∧ opc cmd.w = 0xA0 ∧ tilesIdentical e.w cmd.w = true))) →
      exec (.matrixStart core slot) s = .next s)

/-- R172 to R175, R186: when an mma whose operand rows no store has changed completes, every element of its tile holds the
groups' sums in ascending K order, one rounding a group; an mclr leaves zeros; every other accumulator entry stays,
the token completes and its waiting groups go on. R178 to R183, R186: when an mout or an mtsum whose rows no store has
changed completes, its output places lie apart in memory or scratch, no reduction is pending on their lines (11 R253) and
no unseparated atomic's scope leaves the outputs out (R126), they hold its output, crumb and summary bytes; the
accumulator stays and the token completes. The sign of an exactly zero sum, the time at which rows are read and the
marks are the model's (log entries 13, 20 and 22). -/
def Obligations.MatrixResultsAreExact : Prop :=
  (∀ (s : State) (core slot ix k : Nat) (x : Ctx) (cmd : MatrixCmd),
    s.liveCore core = some (k, x) → ix = (s.core core).work.mq.findIdx (fun q => q.slot == slot) →
    (s.core core).work.mq[ix]? = some cmd → cmd.started = true → cmd.snap = x.scratch →
    (∀ e ∈ (s.core core).work.mq.take ix, tilesOverlap e.w cmd.w = false) →
    (opc cmd.w = 0xA0 ∨ opc cmd.w = 0xA2) →
      ∃ t, exec (.matrixComplete core slot) s = .next t ∧ Claims.TokenDone s t core ix cmd ∧
        (∀ i j, i < fM cmd.w → j < fN cmd.w →
          tget 0 (t.core core).work.acc (tileEntry cmd.w i j) =
            if opc cmd.w = 0xA0 then Claims.mmaElement x (x.rank (clusterOf core)) cmd (s.core core).work.acc i j else 0#32) ∧
        (∀ e, (∀ i j, i < fM cmd.w → j < fN cmd.w → e ≠ tileEntry cmd.w i j) →
          tget 0 (t.core core).work.acc e = tget 0 (s.core core).work.acc e) ∧
        ∀ a, t.byte a = s.byte a) ∧
  (∀ (s : State) (core slot ix k : Nat) (x : Ctx) (cmd : MatrixCmd) (ws : List (Nat × List Byte)),
    s.liveCore core = some (k, x) → ix = (s.core core).work.mq.findIdx (fun q => q.slot == slot) →
    (s.core core).work.mq[ix]? = some cmd → cmd.started = true → cmd.snap = x.scratch →
    (∀ e ∈ (s.core core).work.mq.take ix, tilesOverlap e.w cmd.w = false) →
    (opc cmd.w = 0xA1 ∨ opc cmd.w = 0xA3) →
    ws = matrixWrites x.scr (x.rank (clusterOf core)) cmd (s.core core).work.acc →
    (∀ p ∈ ws, Claims.isLocal (s.engineLoc x (clusterOf core) .store p.1) = true) →
    ws.Pairwise (fun p q => ∀ i j, i < p.2.length → j < q.2.length →
      Claims.shift i (s.engineLoc x (clusterOf core) .store p.1) ≠ Claims.shift j (s.engineLoc x (clusterOf core) .store q.1)) →
    (∀ p ∈ ws, ∀ a, s.engineLoc x (clusterOf core) .store p.1 = .mem a → (s.line (a / 128)).pend = []) →
    Claims.OutputsWithinScopes s core cmd →
      ∃ t, exec (.matrixComplete core slot) s = .next t ∧ Claims.TokenDone s t core ix cmd ∧
        (t.core core).work.acc = (s.core core).work.acc ∧
        (∀ p ∈ ws, ∀ i, i < p.2.length →
          Claims.byteAt t k (Claims.shift i (s.engineLoc x (clusterOf core) .store p.1)) = p.2.getD i 0) ∧
        ∀ q, Claims.isLocal q = true →
          (∀ p ∈ ws, ∀ i, i < p.2.length → Claims.shift i (s.engineLoc x (clusterOf core) .store p.1) ≠ q) →
          Claims.byteAt t k q = Claims.byteAt s k q)


/-! ### Issue checks, faults and system instructions -/

/-- R112, R132, R155, R156: of every core instruction, a word whose page is unmapped or lacks X faults with cause 0x06, else an
illegal one with 0x01, else one that names a register out of allocation with 0x02; an illegal word that a group reaches, and
every word whose opcode chapter 6 does not list is one, faults with 0x01. One that no running group issues (its group is absent, ended or held, or its core does not run) changes
nothing (the model's choice, log entry 2). -/
def Obligations.IssueFollowsItsChecks : Prop :=
  (∀ p ∈ Claims.wordRows, ∀ (s : State) (c : CoreAt) (w : Rest) (k : Nat) (x : Ctx) (g : Group),
    s.runGroup c = some (k, x, g) →
    (s.fetchOk x.berth g.pc = false → exec (p.1 c w) s = .next (s.coreFault c 0x06)) ∧
    (s.fetchOk x.berth g.pc = true → legalWord g.width (p.2 w) = false → exec (p.1 c w) s = .next (s.coreFault c 0x01)) ∧
    (s.fetchOk x.berth g.pc = true → legalWord g.width (p.2 w) = true → allocOk g.regs (p.2 w) = false →
      exec (p.1 c w) s = .next (s.coreFault c 0x02))) ∧
  (∀ p ∈ Claims.wordRows, ∀ (s : State) (c : CoreAt) (w : Rest), s.runGroup c = none → exec (p.1 c w) s = .next s) ∧
  ((∀ (s : State) (c : CoreAt) (W : Word) (k : Nat) (x : Ctx) (g : Group), s.runGroup c = some (k, x, g) →
    (s.fetchOk x.berth g.pc = true → legalWord g.width W = false →
      exec (.illegalEncoding c W) s = .next (s.coreFault c 0x01)) ∧
    (s.fetchOk x.berth g.pc = false → exec (.instructionFetchFault c) s = .next (s.coreFault c 0x06))) ∧
  (∀ n W, listedOp (opc W) = false → legalWord n W = false) ∧
  listedOp 0 = false ∧ ∀ op, 0xC0 ≤ op → op ≤ 0xFF → listedOp op = false)

/-- R130, R155, 17 R374: a core fault is recorded in COR_FAULT unless one stands there; the context's cores lose its work, its
orders end their runs and record FAULTED. With the next tick, which finishes the teardown first (the model's choice, log
entry 72), the context is gone, its bound orders without a last result sent are answered and gone, and vector 0 of its
berth is pending. -/
def Obligations.CoreFaultsTearDownTheirContext : Prop :=
  ∀ (s : State) (c : CoreAt) (k : Nat) (x : Ctx) (g : Group) (cause : Nat),
    s.runGroup c = some (k, x, g) → x.stopping = none → ∀ t, t = s.coreFault c cause →
    ((s.core c.core).faultNew = false → (t.core c.core).cause = cause ∧ (t.core c.core).faultGroup = c.grp ∧
      (t.core c.core).faultPc = g.pc ∧ (t.core c.core).faultNew = true) ∧
    ((s.core c.core).faultNew = true → (t.core c.core).cause = (s.core c.core).cause ∧
      (t.core c.core).faultGroup = (s.core c.core).faultGroup ∧ (t.core c.core).faultPc = (s.core c.core).faultPc ∧
      (t.core c.core).faultNew = true) ∧
    (t.core c.core).ctx = none ∧ t.groupAt c = none ∧
    (∀ o y, s.order o = some y → y.ctx = k → ∃ z, t.order o = some z ∧ z.runEnded = true ∧ z.causes = y.causes ++ [7]) ∧
    t.finishStops.ctx k = none ∧
    (∀ o y, s.order o = some y → y.ctx = k → y.lastGone = false → t.finishStops.order o = none) ∧
    bitAt 0 (t.finishStops.berth x.berth).evtPend = true ∧
    (t.rst.power = true → t.running = true → t.pending = [] → step t = .next t.finishStops.tickTime)

/-- R151 to R154, 03 R78: nop only moves the PC; srd writes the value of its selector; evt raises its vector once: the berth's
pending bit is set and the vector's count rises by one up to 65,535; a register value outside 8 to 63 faults with cause 0x01;
without an active lane nothing is raised. -/
def Obligations.NopSrdAndEvtFollowTheTable : Prop :=
  (∀ (s : State) (c : CoreAt) (w : Rest) (k : Nat) (x : Ctx) (g : Group),
    (∀ W, W = wordOf 0xB0 w → Claims.Issues s c W k x g →
      ∃ h, Claims.GroupBecomes (.nop c w) s c h ∧ Claims.OnlyPc g h (g.pc + 8)) ∧
    (∀ W, W = wordOf 0xB6 w → Claims.Issues s c W k x g → fld 0 32 W ≤ 8 ∧
      ∀ p ∈ Claims.srdRows s c x g, p.1 = fld 0 32 W →
        ∃ h, Claims.GroupBecomes (.srd c w) s c h ∧ Claims.OnlyS g h (fXD W) (BitVec.ofNat 64 p.2))) ∧
  (∀ (s : State) (c : CoreAt) (w : Rest) (k : Nat) (x : Ctx) (g : Group) (W : Word) (n : Nat),
    W = wordOf 0xB5 w → Claims.Issues s c W k x g →
    n = (if bitAt 6 W then (g.sreg (fXA W)).toNat else fld 0 6 W) →
    (g.mreg 0 = 0 → ∃ t, exec (.evt c w) s = .next t ∧ t.groupAt c = some { g with pc := g.pc + 8 } ∧ t.berths = s.berths) ∧
    (g.mreg 0 ≠ 0 → 8 ≤ n → n ≤ 63 → ∃ t, exec (.evt c w) s = .next t ∧ t.groupAt c = some { g with pc := g.pc + 8 } ∧
      (∀ i, i < 64 → bitAt i (t.berth x.berth).evtPend = (bitAt i (s.berth x.berth).evtPend || decide (i = n))) ∧
      (∀ i, tget 0 (t.berth x.berth).evtCount i =
        if i = n then min 65535 (tget 0 (s.berth x.berth).evtCount n + 1) else tget 0 (s.berth x.berth).evtCount i) ∧
      (∀ b, b ≠ x.berth → t.berth b = s.berth b) ∧ ∀ a, t.byte a = s.byte a) ∧
    (g.mreg 0 ≠ 0 → n < 8 ∨ 63 < n → exec (.evt c w) s = .next (s.coreFault c 0x01)))

/-- R117: exit clears the active lanes from m0 and from every stack entry; while a lane remains control goes to the top
entry's RECONV; else the group ends, and its block with it once every group of the block has ended. -/
def Obligations.ExitEndsLanesGroupsAndBlocks : Prop :=
  ∀ (s : State) (c : CoreAt) (w : Rest) (k : Nat) (x : Ctx) (g : Group) (W : Word) (st : List MaskEntry) (left : Bool),
    W = wordOf 0xB1 w → Claims.Issues s c W k x g → st = g.stack.map (Claims.without (g.mreg 0)) →
    left = st.any (fun e => decide (e.outer ≠ 0) || decide (e.rest ≠ 0)) →
    (left = true → ∃ h, Claims.GroupBecomes (.exitLanes c w) s c h ∧
      Claims.MaskStep g h 0 st ((st.head?).elim g.pc MaskEntry.reconv)) ∧
    (∀ b, left = false → tget none (s.core c.core).work.blocks g.block = some b → c.grp ∈ b.groups →
      ((∃ n y, n ∈ b.groups ∧ n ≠ c.grp ∧ s.groupAt ⟨c.core, n⟩ = some y ∧ y.ended = false) →
        ∃ t h, exec (.exitLanes c w) s = .next t ∧ t.groupAt c = some h ∧ h.ended = true) ∧
      ((∀ n ∈ b.groups, n ≠ c.grp → (s.groupAt ⟨c.core, n⟩).elim True fun y => y.ended = true) →
        ∃ t, exec (.exitLanes c w) s = .next t ∧ ∀ n ∈ b.groups, t.groupAt ⟨c.core, n⟩ = none))

/-- R118, R119, R154: a group with no active lane passes bar.sync and bar.arrive; one that arrives while another group of
its block is neither arrived nor ended is held by bar.sync and goes on by bar.arrive; the last arrival releases every
group held at that barrier; a second arrival in one phase is held. -/
def Obligations.BarriersReleaseWithTheirLastArrival : Prop :=
  ∀ p ∈ [(Instr.barSync, 0xB2, true), (.barArrive, 0xB3, false)],
    ∀ (s : State) (c : CoreAt) (w : Rest) (k : Nat) (x : Ctx) (g : Group) (W : Word) (n : Nat) (b : Block) (arr : List Nat),
    W = wordOf p.2.1 w → Claims.Issues s c W k x g → n = fld 0 2 W →
    tget none (s.core c.core).work.blocks g.block = some b → c.grp ∈ b.groups → arr = tget [] b.arrived n →
    (∀ m ∈ b.groups, (s.groupAt ⟨c.core, m⟩).elim True fun y => y.hold ≠ some (.rearrive n true) ∧ y.hold ≠ some (.rearrive n false)) →
    ∃ t, exec (p.1 c w) s = .next t ∧ (∀ a, t.byte a = s.byte a) ∧
      (g.mreg 0 = 0 → t.groupAt c = some { g with pc := g.pc + 8 }) ∧
      (g.mreg 0 ≠ 0 → arr.contains c.grp = true → t.groupAt c = some { g with hold := some (.rearrive n p.2.2) }) ∧
      (g.mreg 0 ≠ 0 → arr.contains c.grp = false →
        (∃ m y, m ∈ b.groups ∧ m ≠ c.grp ∧ arr.contains m = false ∧ s.groupAt ⟨c.core, m⟩ = some y ∧ y.ended = false) →
        t.groupAt c = some (if p.2.2 then { g with hold := some (.barrier n) } else { g with pc := g.pc + 8 })) ∧
      (g.mreg 0 ≠ 0 → arr.contains c.grp = false →
        (∀ m ∈ b.groups, m = c.grp ∨ arr.contains m = true ∨ (s.groupAt ⟨c.core, m⟩).elim True fun y => y.ended = true) →
        t.groupAt c = some { g with pc := g.pc + 8 } ∧
        ∀ m ∈ b.groups, m ≠ c.grp → t.groupAt ⟨c.core, m⟩ =
          (s.groupAt ⟨c.core, m⟩).map fun y => if y.hold = some (.barrier n) then { y with hold := none, pc := y.pc + 8 } else y)

/-- 11 R254, 17 R364: a fence moves its group on and changes no byte; a release at cluster scope or wider is a commit point;
a release at crossing scope waits while the group has requests at a port. What a fence does to the model's marks of
accesses is left aside (log entry 22). -/
def Obligations.FencesOrderTheirGroup : Prop :=
  ∀ p ∈ [(Instr.fenceAcqRel, 0), (.fenceAcquire, 1), (.fenceRelease, 2)],
    ∀ (s : State) (c : CoreAt) (w : Rest) (k : Nat) (x : Ctx) (g : Group) (W : Word),
    W = withField 3 2 p.2 (wordOf 0xB4 w) → Claims.Issues s c W k x g →
    ((p.2 = 1 ∨ fld 0 3 W ≠ 5 ∨ s.groupRemote c = false) →
      ∃ t, exec (p.1 c w) s = .next t ∧ t.groupAt c = some { g with pc := g.pc + 8 } ∧ (∀ a, t.byte a = s.byte a) ∧
        (p.2 ≠ 1 → 2 ≤ fld 0 3 W → (s.core c.core).work.mq = [] → Claims.Committed t c.core) ∧
        (p.2 = 1 ∨ fld 0 3 W < 2 → { t with marks := s.marks } = s.setGroup c { g with pc := g.pc + 8 })) ∧
    (p.2 ≠ 1 → fld 0 3 W = 5 → s.groupRemote c = true →
      Claims.GroupBecomes (p.1 c w) s c { g with hold := some (.fence W) })

/-- 10 R244, R245: a range command with legal operands moves its group on. A prefetch or a flush leaves every byte of
coherent memory, and after a flush memory itself holds the lines; an invalidate lets the lines' bytes show what memory
itself held; without pending reductions. While a line of the range is in a transaction the group stays (the model's
choice, log entry 37). Operands outside their values fault. -/
def Obligations.RangeCommandsActOnTheirLines : Prop :=
  ∀ p ∈ [(Instr.crangePrefetch, 0), (.crangeFlush, 1), (.crangeInvalidate, 2)],
    ∀ (s : State) (c : CoreAt) (w : Rest) (k : Nat) (x : Ctx) (g : Group) (W : Word) (a n : Nat),
    W = withField 0 2 p.2 (wordOf 0xB7 w) → Claims.Issues s c W k x g → a = (g.sreg (fXA W)).toNat → n = (g.sreg (fXB W)).toNat →
    (a % 128 = 0 → n % 128 = 0 → 128 ≤ n → n ≤ 1073741824 → a + n ≤ 281474976710656 →
      (∃ ln ∈ s.rangeLines x.berth a n, (s.line ln).isBusy = true) → exec (p.1 c w) s = .next s) ∧
    (a % 128 = 0 → n % 128 = 0 → 128 ≤ n → n ≤ 1073741824 → a + n ≤ 281474976710656 →
      (∀ ln ∈ s.rangeLines x.berth a n, (s.line ln).isBusy = false) →
      ∃ t, exec (p.1 c w) s = .next t ∧ t.groupAt c = some { g with pc := g.pc + 8 } ∧
        ((∀ ln, (s.line ln).pend = []) →
          ∀ d, t.byte d =
            if p.2 = 2 ∧ d / 128 ∈ s.rangeLines x.berth a n then (tget none s.backing d).getD (s.byte d) else s.byte d) ∧
        ((∀ ln, (s.line ln).pend = []) → p.2 ≠ 0 → ∀ d, d / 128 ∈ s.rangeLines x.berth a n → tget none t.backing d = none)) ∧
    (a % 128 ≠ 0 ∨ n % 128 ≠ 0 → exec (p.1 c w) s = .next (s.coreFault c 0x05)) ∧
    (a % 128 = 0 → n % 128 = 0 → n < 128 ∨ 1073741824 < n → exec (p.1 c w) s = .next (s.coreFault c 0x01)) ∧
    (a % 128 = 0 → n % 128 = 0 → 128 ≤ n → n ≤ 1073741824 → 281474976710656 < a + n →
      exec (p.1 c w) s = .next (s.coreFault c 0x06))

/-! ### Launches, residency and commit points -/

/-- R113, R158, R160: a launch entry's blocks are placed round-robin over the context's cores; a block becomes resident as
a whole when its groups fit and no saved image waits for a core, each group starting as R158 says; COMMIT cycles after the last commit point the core
takes the next one. The round-robin of each entry starts at the first core (log entry 18). A command that is not due
changes nothing (the model's choice, log entry 2). -/
def Obligations.BlocksAreLaunchedAndSeated : Prop :=
  (∀ (s : State) (k o : Nat) (x : Ctx) (y : Order) (p : Program) (l : Launch) (kd : Kernel),
    s.ctx k = some x → x.order = some o → s.order o = some y → s.progOf x = some p → p.launches[x.launched]? = some l →
    p.kernelOf x.launched = some kd → s.running = true → s.recordOpen k = false → x.switchedIn = true → y.dispatched.isSome = true → y.runEnded = false →
    x.cores ≠ [] → x.cores.Nodup → (l.wait = false ∨ x.left = []) → kd.legal = true → kd.couldFit = true →
    ∃ t, exec (.launchEntry k) s = .next t ∧
      (∃ x', t.ctx k = some x' ∧ x'.launched = x.launched + 1 ∧ tget 0 x'.left x.launched = kd.blocks) ∧
      ∀ j i, x.cores[j]? = some i → (t.core i).work.waiting = (s.core i).work.waiting ++
        ((List.range kd.blocks).filter fun b => b % x.cores.length = j).map fun b => (x.launched, b)) ∧
  (∀ (s : State) (i k entry b : Nat) (x : Ctx) (rest : List (Nat × Nat)) (p : Program) (kd : Kernel),
    s.liveCore i = some (k, x) → (s.core i).work.waiting = (entry, b) :: rest → s.progOf x = some p →
    p.kernelOf entry = some kd → (s.core i).commitDue = false → x.saved = [] →
    ((s.core i).work.fits kd = true →
      ∃ t, exec (.blockResident i) s = .next t ∧ (t.core i).work.waiting = rest ∧
        ∀ n slot, n < kd.groups → (s.core i).work.freeSlots[n]? = some slot →
          ∃ g, t.groupAt ⟨i, slot⟩ = some g ∧ g.width = kd.width ∧ g.regs = kd.regs ∧ g.pc = BitVec.ofNat 64 kd.entry ∧
            g.num = n ∧ g.stack = [] ∧ g.hold = none ∧ g.ended = false ∧ g.amax = 0#32 ∧
            (∀ r, r < 64 → g.sreg r = if r = 0 then BitVec.ofNat 64 kd.args else if r = 1 then BitVec.ofNat 64 b
              else if r = 2 then BitVec.ofNat 64 n else if r = 3 then BitVec.ofNat 64 (recordBva p x) else 0#64) ∧
            (∀ r, g.mreg r = if r = 0 then Claims.ones g else 0#64) ∧ ∀ r u, u < 64 → g.lane r u = 0#32) ∧
    ((s.core i).work.fits kd = false → exec (.blockResident i) s = .next s)) ∧
  (∀ (s : State) (i k : Nat) (x : Ctx), s.liveCore i = some (k, x) → 0 < s.commitOf x →
    (s.core i).lastCommit + s.commitOf x ≤ (s.core i).cycles → (s.core i).commitDue = false →
    ∃ t, exec (.commitIntervalExpiry i) s = .next t ∧
      ((s.core i).work.mq = [] → Claims.Committed t i) ∧ ((s.core i).work.mq ≠ [] → (t.core i).commitDue = true) ∧
      (t.core i).work = (s.core i).work)

/-! ### Streams, pins, sessions, set engines and results -/

/-- 09 R211, R215 to R217: STREAM_START latches the descriptor and starts an idle slot, waits for followers, or arms one;
STREAM_STOP stops the slot and its multicast; CREDIT returns ring entries; WAIT returns PRODUCED once it may. A START of a
slot in use or with an illegal descriptor, and a CREDIT beyond PRODUCED, fault with cause 0x01. -/
def Obligations.StreamWordsFollowTheTable : Prop :=
  ∀ (s : State) (c : CoreAt) (slot k : Nat) (x : Ctx) (g : Group) (st : Stream),
    s.runGroup c = some (k, x, g) → x.stopping = none → slot < 16 → c.grp < 32 → st = s.stream c.core slot →
    (¬ (st.state = 1 ∨ st.state = 4 ∨ st.state = 5) → streamLegal (clusterOf c.core % 12) (s.scrBytes x) st.started = true →
      ∃ t, exec (.streamStart c slot) s = .next t ∧ t.groupAt c = some { g with pc := g.pc + 8 } ∧
        (t.stream c.core slot).latched = st.desc ∧ (t.stream c.core slot).produced = 0 ∧ (t.stream c.core slot).returned = 0 ∧
        (t.stream c.core slot).begun = 0 ∧ (t.stream c.core slot).flight = [] ∧
        (t.stream c.core slot).state =
          (if descField st.desc 0 1 = 4 then 5 else if descField st.desc 1 1 % 2 = 1 then 4 else 1) ∧
        ∀ a, t.byte a = s.byte a) ∧
    (st.state = 1 ∨ st.state = 4 ∨ st.state = 5 ∨ streamLegal (clusterOf c.core % 12) (s.scrBytes x) st.started = false →
      ∃ t, exec (.streamStart c slot) s = .next t ∧ Claims.TearsDown s t k 7 0x01 ∧
        ((s.core c.core).faultNew = false → (t.core c.core).cause = 0x01)) ∧
    (∃ t, exec (.streamStop c slot) s = .next t ∧ t.groupAt c = some { g with pc := g.pc + 8 } ∧
      (∀ j, Claims.member s c.core slot j → (t.stream j slot).state = 3 ∧ (t.stream j slot).flight = []) ∧
      (∀ n y rd, n < 32 → s.groupAt ⟨c.core, n⟩ = some y → y.hold = some (.stream slot rd) →
        ∃ h, t.groupAt ⟨c.core, n⟩ = some h ∧ h.hold = none ∧ h.pc = y.pc + 8 ∧ h.sreg rd = BitVec.ofNat 64 st.produced) ∧
      ∀ a, t.byte a = s.byte a) ∧
    (∀ n : Word, st.returned + n.toNat ≤ st.produced →
      ∃ t, exec (.credit c slot n) s = .next t ∧ t.groupAt c = some { g with pc := g.pc + 8 } ∧
        t.stream c.core slot = { st with returned := st.returned + n.toNat } ∧ ∀ a, t.byte a = s.byte a) ∧
    (∀ n : Word, st.produced < st.returned + n.toNat → exec (.credit c slot n) s = .next (s.coreFault c 0x01)) ∧
    (∀ rd, rd < 64 → st.returned < st.produced ∨ st.state ≠ 1 →
      ∃ t h, exec (.wait c slot rd) s = .next t ∧ t.groupAt c = some h ∧
        Claims.OnlyS g h rd (BitVec.ofNat 64 st.produced) ∧ ∀ a, t.byte a = s.byte a) ∧
    (∀ rd, rd < 64 → st.produced ≤ st.returned → st.state = 1 →
      ∃ t, exec (.wait c slot rd) s = .next t ∧ t.groupAt c = some { g with hold := some (.stream slot rd) })

/-- 09 R212, R214, R220, R221: the next entry of a linear stream is read from SRC + e × STRIDE once every member has room
within DIST, and not before; a complete entry is written to the ring of the leader and of every follower, and PRODUCED
counts the entries below which all are written; an asleep island of a member is woken first; a multicast runs once its
followers are armed and agree, else faults.
A command that is not due changes nothing (the model's choice, log entry 2). -/
def Obligations.StreamEntriesFillTheRings : Prop :=
  ∀ (s : State) (core slot k : Nat) (x : Ctx) (st : Stream),
    s.liveCore core = some (k, x) → x.stopping = none → slot < 16 → st = s.stream core slot →
    (st.state = 1 → st.leader = none → st.begun < st.count → st.ty = 0 → (∀ ln, (s.line ln).pend = []) →
      (∀ j ∈ core :: st.members, st.begun < (s.stream j slot).returned + st.dist) →
      (∀ u, u < st.units →
        Claims.isLocal (s.sourceLoc x.berth ((st.src + st.begun * st.f 32 8 + u * 64) % 18446744073709551616)) = true) →
      ∃ t f, exec (.streamEntryBegin core slot) s = .next t ∧ (t.stream core slot).begun = st.begun + 1 ∧
        f ∈ (t.stream core slot).flight ∧ f.entry = st.begun ∧ f.wait = 0 ∧
        ∀ u i, u < st.units → i < 64 → f.data.getD (u * 64 + i) 0 =
          Claims.byteAt s k (Claims.shift i
            (s.sourceLoc x.berth ((st.src + st.begun * st.f 32 8 + u * 64) % 18446744073709551616)))) ∧
    (st.count ≤ st.begun ∨ (∃ j ∈ core :: st.members, (s.stream j slot).returned + st.dist ≤ st.begun) →
      exec (.streamEntryBegin core slot) s = .next s) ∧
    (∀ entry f, st.flight.find? (fun q => q.entry == entry && q.wait == 0) = some f →
      (∃ j ∈ core :: st.members, s.islandUp (clusterOf j) = false) →
      ∃ t, exec (.streamEntryComplete core slot entry) s = .next t ∧ t.ctxs = s.ctxs ∧ t.mem = s.mem ∧
        ∀ j ∈ core :: st.members, s.islandUp (clusterOf j) = false → (t.cluster (clusterOf j)).waking = true) ∧
    (∀ entry f, st.flight.find? (fun q => q.entry == entry && q.wait == 0) = some f → (core :: st.members).Nodup →
      (∀ j ∈ core :: st.members, s.islandUp (clusterOf j) = true) →
      f.data.length ≤ 8388608 →
      ∃ t y, exec (.streamEntryComplete core slot entry) s = .next t ∧ t.ctx k = some y ∧ (∀ a, t.byte a = s.byte a) ∧
        (∀ j ∈ core :: st.members, ∀ i, i < f.data.length →
          y.scr (scrKey (x.rank (clusterOf j)) (st.ringBase + entry % st.ring * (st.units * 64)) + i) = f.data.getD i 0) ∧
        (∀ q, (∀ j ∈ core :: st.members, ∀ i, i < f.data.length →
          scrKey (x.rank (clusterOf j)) (st.ringBase + entry % st.ring * (st.units * 64)) + i ≠ q) → y.scr q = x.scr q) ∧
        ∀ j ∈ core :: st.members, Claims.producedAfter (s.stream j slot) entry (t.stream j slot).produced ∧
          (t.stream j slot).state =
            if (s.stream j slot).state = 1 ∧ st.count ≤ (t.stream j slot).produced then 2 else (s.stream j slot).state) ∧
    (∀ js : List Nat, st.state = 4 → s.mcTargets core st.mask = js.map some → core ∉ js → js.Nodup →
      (∀ j ∈ js, (s.core j).ctx = some k ∧ (s.stream j slot).state = 5) →
      ((∀ j ∈ js, (s.stream j slot).units = st.units ∧ (s.stream j slot).ring = st.ring ∧
          (s.stream j slot).ringBase = st.ringBase) →
        ∃ t, exec (.followersArmed core slot) s = .next t ∧ (t.stream core slot).state = 1 ∧
          (t.stream core slot).members = js ∧
          ∀ j ∈ js, (t.stream j slot).state = 1 ∧ (t.stream j slot).leader = some core) ∧
      ((∃ j ∈ js, ¬ ((s.stream j slot).units = st.units ∧ (s.stream j slot).ring = st.ring ∧
          (s.stream j slot).ringBase = st.ringBase)) →
        ∃ t, exec (.followersArmed core slot) s = .next t ∧ Claims.TearsDown s t k 7 0x01))

/-- 10 R242, 13 R293, 14 R299, 16 R351: a load of PIN_RESULT, SES_RESULT, SES_RET, SE_WAIT or RES_WAIT returns its word to the
scalar register, or holds its group while the command, the descriptors or the send that it waits for are outstanding. What
SE_WAIT, an acquire, does to the model's marks is left aside (log entry 22). -/
def Obligations.WindowLoadsReturnOrHold : Prop :=
  ∀ p ∈ Claims.windowLoads, ∀ (s : State) (c : CoreAt) (rd k : Nat) (x : Ctx) (g : Group),
    s.runGroup c = some (k, x, g) → rd < 64 →
    ∃ h ms, exec (p.con c rd) s = .next { s.setGroup c h with marks := ms } ∧ (s.setGroup c h).groupAt c = some h ∧
      (p.hold rd ≠ .seWait rd → ms = s.marks) ∧
      (p.busy g = false → Claims.OnlyS g h rd (p.val g)) ∧
      (p.busy g = true → h = { g with hold := some (p.hold rd) })

/-- 10 R241, R242: a pin command over one line pins it unless the berth's ways, its pool's ways or the 12 ways of the set
are used up or no page holds it, and then ends with the lowest code and vector 7; an unpin releases the berth's own pins of
its range; a range outside its values ends with code 4. The range is that of the words when the command was started. -/
def Obligations.PinCommandsFollowTheTable : Prop :=
  ∀ (s : State) (c : CoreAt) (k : Nat) (x : Ctx) (g : Group) (base len : Nat),
    s.liveCore c.core = some (k, x) → s.groupAt c = some g → (∀ v, g.hold ≠ some (.pinCmd v)) →
    base = g.win.runBase.toNat → len = g.win.runLen.toNat →
    (∀ ln, g.win.pinRun = some 1 → base % 128 = 0 → base < 281474976710656 → len = 128 → s.rangeLines x.berth base 128 = [ln] →
      let own := s.pinnedWays ln (· == x.berth)
      let pool := s.pinnedWays ln fun o => s.poolOf o == s.poolOf x.berth
      let all := s.pinnedWays ln fun _ => true
      let most := (s.poolRec (s.poolOf x.berth)).elim 0 poolPinWays
      ((s.line ln).pin = some x.berth ∨ (own < (s.berth x.berth).grant.pinWays ∧ pool < most ∧ all < 12) →
        (s.line ln).isBusy = false → (s.line ln).present = true ∨ (s.waysUsed ln).length < 16 →
        ∃ t h, exec (.pin c) s = .next t ∧ t.groupAt c = some h ∧ Claims.PinEnded g h 0 1 ∧
          (t.line ln).pin = some x.berth ∧ (t.line ln).present = true ∧ (∀ m, m ≠ ln → t.line m = s.line m) ∧
          ∀ a, t.byte a = s.byte a) ∧
      ((s.line ln).pin ≠ some x.berth → (∀ code,
          code = (if (s.berth x.berth).grant.pinWays ≤ own then 1 else if most ≤ pool then 2 else if 12 ≤ all then 3 else 0) →
          code ≠ 0 →
          ∃ t h, exec (.pin c) s = .next t ∧ t.groupAt c = some h ∧ Claims.PinEnded g h code 0 ∧
            bitAt 7 (t.berth x.berth).evtPend = true ∧ (∀ m, t.line m = s.line m) ∧ ∀ a, t.byte a = s.byte a))) ∧
    (g.win.pinRun = some 1 → base % 128 = 0 → base < 281474976710656 → len = 128 → s.rangeLines x.berth base 128 = [] →
      ∃ t h, exec (.pin c) s = .next t ∧ t.groupAt c = some h ∧ Claims.PinEnded g h 4 0 ∧
        bitAt 7 (t.berth x.berth).evtPend = true ∧ ∀ m, t.line m = s.line m) ∧
    (∀ (n : Nat) (L : Nat → Nat), g.win.pinRun = some 2 → base % 128 = 0 → base < 281474976710656 → len = 128 * n → 1 ≤ n →
      n ≤ 524288 → (∀ i, i < n → s.rangeLines x.berth (base + 128 * i) 128 = [L i]) →
      ∃ t h, exec (.unpin c) s = .next t ∧ t.groupAt c = some h ∧ Claims.PinEnded g h 0 n ∧
        (∀ m, (∃ i, i < n ∧ L i = m) → (s.line m).pin = some x.berth → t.line m = { s.line m with pin := none }) ∧
        (∀ m, (∀ i, i < n → L i ≠ m) ∨ (s.line m).pin ≠ some x.berth → t.line m = s.line m) ∧ ∀ a, t.byte a = s.byte a) ∧
    (base % 128 ≠ 0 ∨ 281474976710656 ≤ base ∨ len % 128 ≠ 0 ∨ len < 128 ∨ 67108864 < len →
      (g.win.pinRun = some 1 → ∃ t h, exec (.pin c) s = .next t ∧ t.groupAt c = some h ∧ Claims.PinEnded g h 4 0 ∧
        bitAt 7 (t.berth x.berth).evtPend = true) ∧
      (g.win.pinRun = some 2 → ∃ t h, exec (.unpin c) s = .next t ∧ t.groupAt c = some h ∧ Claims.PinEnded g h 4 0))

/-- 13 R280, R281, R283, R285 to R288, R294: what STORE_ADD, STORE_REMOVE, POLICY, OPEN, CLOSE and LOOKUP do to the berth's
store and sessions, and the status and value that they answer. -/
def Obligations.SessionCommandsFollowTheTable : Prop :=
  ∀ (s : State) (b : Nat) (who : GroupId) (a0 a1 : Word),
    (∀ f n, Claims.Heads s b who 1 a0 a1 → Claims.FrameRange a0 a1 f n →
      ((∀ j, j < n → (s.frameTier b (f + j)).isSome = true ∧ tget none (s.store b).frames (f + j) = none) →
        ∃ t, exec (.storeAdd b) s = .next t ∧ Claims.Answered s t who 0 (t.store b).frames.length ∧
          ∀ m, tget none (t.store b).frames m =
            if f ≤ m ∧ m < f + n then (s.frameTier b m).map fun tier => { tier := tier, used := false }
            else tget none (s.store b).frames m) ∧
      ((∃ j, j < n ∧ ((s.frameTier b (f + j)).isSome = false ∨ tget none (s.store b).frames (f + j) ≠ none)) →
        ∃ t, exec (.storeAdd b) s = .next t ∧ Claims.Answered s t who 4 (s.store b).frames.length ∧
          (t.store b).frames = (s.store b).frames)) ∧
    (∀ f n, Claims.Heads s b who 2 a0 a1 → Claims.FrameRange a0 a1 f n →
      (∀ j, j < n → tget none (s.store b).frames (f + j) ≠ none) →
      ∀ hbm, hbm = ((List.range n).filter fun j => tget none (s.store b).frames (f + j) == some {}).length →
      ((∀ j y, j < n → tget none (s.store b).frames (f + j) = some y → y.used = false) → hbm ≤ s.freeFrames b →
        ∃ t, exec (.storeRemove b) s = .next t ∧ Claims.Answered s t who 0 (t.store b).frames.length ∧
          ∀ m, tget none (t.store b).frames m = if f ≤ m ∧ m < f + n then none else tget none (s.store b).frames m) ∧
      ((∃ j y, j < n ∧ tget none (s.store b).frames (f + j) = some y ∧ y.used = true) ∨ s.freeFrames b < hbm →
        ∃ t, exec (.storeRemove b) s = .next t ∧ Claims.Answered s t who 9 (s.store b).frames.length ∧
          (t.store b).frames = (s.store b).frames)) ∧
    (Claims.Heads s b who 3 a0 a1 →
      (a0.toNat ≤ 1 → ∃ t, exec (.policy b) s = .next t ∧ Claims.Answered s t who 0 0 ∧ (t.store b).spill = decide (a0.toNat = 1)) ∧
      (1 < a0.toNat → ∃ t, exec (.policy b) s = .next t ∧ Claims.Answered s t who 4 0 ∧ (t.store b).spill = (s.store b).spill)) ∧
    (∀ m p q r n : Nat, Claims.Heads s b who 4 a0 a1 → a0.toNat = m + p * 4294967296 + q * 281474976710656 + r * 9223372036854775808 →
      1 ≤ m → m ≤ 4194304 → 1 ≤ p → p ≤ 4096 → 1 ≤ q → q ≤ 128 → r ≤ 1 → ceilDiv m p * q ≤ 1048576 →
      ((s.sessOf b).length < (s.berth b).grant.sessions → n < 4096 → (s.sess n).state = 0 → (∀ j, j < n → (s.sess j).state ≠ 0) →
        (r = 0 ∨ ceilDiv m p * q ≤ s.freeFrames b →
          ∃ t, exec (.openSession b) s = .next t ∧ Claims.Answered s t who 0 n ∧ (∀ j, j ≠ n → t.sess j = s.sess j) ∧
            t.sess n = { state := 1, berth := b, maxTokens := m, tpt := p, streams := q, reserved := decide (r = 1),
                         resvLeft := if r = 1 then ceilDiv m p * q else 0 }) ∧
        (r = 1 → s.freeFrames b < ceilDiv m p * q →
          ∃ t, exec (.openSession b) s = .next t ∧ Claims.Answered s t who 2 0 ∧ ∀ j, t.sess j = s.sess j)) ∧
      ((s.berth b).grant.sessions ≤ (s.sessOf b).length →
        ∃ t, exec (.openSession b) s = .next t ∧ Claims.Answered s t who 1 0 ∧ ∀ j, t.sess j = s.sess j)) ∧
    (∀ n, Claims.Heads s b who 5 a0 a1 → a0.toNat = n → n < 4096 →
      ((s.sess n).state ≠ 0 → (s.sess n).berth = b →
        ∃ t, exec (.closeSession b) s = .next t ∧ Claims.Answered s t who 0 0 ∧ t.sess n = {} ∧
          (∀ j, j ≠ n → t.sess j = s.sess j) ∧ (∀ d ∈ (t.store b).deferred, d.2.1 ≠ n) ∧
          ∀ m, tget none (t.store b).frames m =
            if m ∈ (s.sess n).rack then (tget none (s.store b).frames m).map fun y => { y with used := false }
            else tget none (s.store b).frames m) ∧
      ((s.sess n).state = 0 ∨ (s.sess n).berth ≠ b →
        ∃ t, exec (.closeSession b) s = .next t ∧ Claims.Answered s t who 3 0 ∧ ∀ j, t.sess j = s.sess j)) ∧
    (∀ n f, Claims.Heads s b who 7 a0 a1 → a0.toNat = n → n < 4096 → (s.sess n).state ≠ 0 → (s.sess n).berth = b →
      a1.toNat < 4294967296 → (s.sess n).rack[a1.toNat]? = some f →
      ∃ t, exec (.lookup b) s = .next t ∧ Claims.Answered s t who 0 (f * 65536 +
        if (tget none (s.store b).frames f).elim false Frame.tier then 281474976710656 else 0))

/-- 13 R289 to R291: STEP with ADV extends every member of the batch by ADV tokens; an entry of its joins that breaks no rule
makes an OPEN session a member with its tokens and status 0 in the descriptor; the value counts joins served and members. A
descriptor at an address that is no multiple of 8 is refused, and one that cannot be read faults. Pending reductions of memory
come first (11 R253), and bytes of a partner's memory are those that its command has received. -/
def Obligations.StepsAdvanceAndJoin : Prop :=
  ∀ (s u : State) (b : Nat) (q : SesCmd) (d batch : Nat) (hd : List Byte),
    Claims.Head s b q → q.code = 6 → d = q.arg0.toNat → u = s.settleAll →
    (d % 8 ≠ 0 → ∃ t, exec (.stepBatch b) s = .next t ∧ Claims.Answered s t q.who 4 0 ∧ ∀ j, t.sess j = s.sess j) ∧
    (∀ x cause ls, d % 8 = 0 → u.berthRead q.got b d 8 = .error (.fault cause ls) → s.ctx q.who.ctx = some x → x.stopping = none →
      ∃ t, exec (.stepBatch b) s = .next t ∧ Claims.TearsDown s t q.who.ctx 7 cause) ∧
    (d % 8 = 0 → u.berthRead q.got b d 8 = .ok hd → batch = bf hd 0 1 → batch ≤ 7 → bf hd 2 2 = 0 →
      (∀ e ∈ (s.store b).deferred, e.1 ≠ batch) →
      (bf hd 4 2 = 0 → (s.members b batch).Nodup →
        (∀ j ∈ s.members b batch, (s.sess j).reserved = true ∧ (s.sess j).len + bf hd 1 1 ≤ (s.sess j).maxTokens) →
        ∃ t, exec (.stepBatch b) s = .next t ∧ Claims.Answered s t q.who 0 ((t.members b batch).length * 1073741824) ∧
          (∀ j ∈ s.members b batch, (t.sess j).len = (s.sess j).len + bf hd 1 1 ∧ (t.sess j).state = 2 ∧
            (t.sess j).batch = batch) ∧
          (∀ j, j ∉ s.members b batch → t.sess j = s.sess j) ∧ ∀ a, t.byte a = u.byte a) ∧
      (∀ (body : List Byte) (n tokens a : Nat), bf hd 4 2 = 1 → bf hd 1 1 = 0 → u.berthRead q.got b (d + 8) 8 = .ok body →
        n = bf body 0 4 % 4096 → tokens = bf body 4 4 →
        1 ≤ tokens → tokens ≤ 4194304 → (s.sess n).state = 1 → (s.sess n).berth = b → (s.sess n).reserved = true →
        (s.sess n).len + tokens ≤ (s.sess n).maxTokens → (s.members b batch).length ≠ 512 →
        s.bvaLoc b .store (d + 10) = .mem a →
        ∃ t, exec (.stepBatch b) s = .next t ∧ Claims.Answered s t q.who 0 (1 + (t.members b batch).length * 1073741824) ∧
          (t.sess n).state = 2 ∧ (t.sess n).batch = batch ∧ (t.sess n).len = (s.sess n).len + tokens ∧
          (∀ j, j ≠ n → t.sess j = s.sess j) ∧ t.byte a = 0 ∧ ∀ y, y ≠ a → t.byte y = u.byte y))

/-- 14 R299 to R301, R315: a submission with fewer than 16 outstanding joins the queue of a die with an engine in service,
and counts; with 16 outstanding or a full queue it holds its group; with no engine in service it completes at once with
NO_ENGINE.
14 R316, R299, R311: a slice takes 256 units from a descriptor that has more, and its engine chooses anew; the last slice
completes it: STATUS, zeros and OUT_COUNT are written at +56, the engine counts it, and its group's SE_DONE rises. Writes are
stated where no reduction is pending and no unseparated atomic's scope leaves the engine out (11 R253; log entry 22). -/
def Obligations.DescriptorsAreQueuedAndEnd : Prop :=
  (∀ (s : State) (c : CoreAt) (k : Nat) (x : Ctx) (g : Group) (bva : Word) (d : Desc),
    s.runGroup c = some (k, x, g) →
    d = { num := s.nextDesc, who := s.idAt c, pos := x.cores.findIdx (· == c.core), rank := x.rank (clusterOf c.core),
          bva := bva.toNat } →
    (∀ m, g.win.submitted - g.win.done < 16 → s.descDie c.core = some m → s.queueDepth m < 512 →
      ∃ t, exec (.seSubmit c bva) s = .next t ∧ t.descs = s.descs ++ [{ d with md := m }] ∧
        t.groupAt c = some { g with pc := g.pc + 8, win := { g.win with submitted := g.win.submitted + 1 } } ∧
        ∀ a, t.byte a = s.byte a) ∧
    (16 ≤ g.win.submitted - g.win.done ∨ (∃ m, s.descDie c.core = some m ∧ 512 ≤ s.queueDepth m) →
      Claims.GroupBecomes (.seSubmit c bva) s c { g with hold := some (.seSubmit bva) }) ∧
    (g.win.submitted - g.win.done < 16 → (∀ e, e < 32 → (s.engine e).inService = false) → bva.toNat % 64 = 0 →
      (∀ ln, (s.line ln).pend = []) → Claims.Unraced s coreSlots d.who' →
      Claims.isLocal (s.setLoc x d.rank .store (bva.toNat + 56)) = true →
      ∃ t, exec (.seSubmit c bva) s = .next t ∧ t.descs = s.descs ∧
        t.groupAt c = some { g with pc := g.pc + 8, win := { g.win with submitted := g.win.submitted + 1,
                                                                        done := g.win.done + 1 } } ∧
        Claims.Written s t k (s.setLoc x d.rank .store) [(bva.toNat + 56, [4, 0, 0, 0, 0, 0, 0, 0])])) ∧
  (∀ (s : State) (e : Nat) (d : Desc), s.running = true → s.descs.find? (fun q => q.engine == some e) = some d →
    d.performed = true →
    (256 < d.work → (s.descs.map Desc.num).Nodup →
      ∃ t, exec (.descriptorSliceEnd e) s = .next t ∧ (∀ a, t.byte a = s.byte a) ∧
        t.desc d.num = some { d with work := d.work - 256, engine := none } ∧
        (t.engine e).units = ((s.engine e).units + 256) % 18446744073709551616) ∧
    (∀ (k : Nat) (x : Ctx) (c : CoreAt) (g : Group), d.work ≤ 256 → d.open_ = 0 → k = d.who.ctx → s.ctx k = some x →
      d.bva % 64 = 0 → Claims.isLocal (s.setLoc x d.rank .store (d.bva + 56)) = true → (s.core c.core).ctx = some k →
      s.groupAt c = some g → c.grp < 32 → s.idAt c = d.who → (tkeys s.cores).Nodup →
      (∀ q y v, s.groupAt q = some y → y.hold ≠ some (.seSubmit v)) → (∀ ln, (s.line ln).pend = []) →
      Claims.Unraced s coreSlots d.who' →
      (g.hold = none ∨ ∃ rd, g.hold = some (.seWait rd)) →
      ∃ t h, exec (.descriptorComplete e) s = .next t ∧ t.desc d.num = none ∧ t.groupAt c = some h ∧
        h.win.done = g.win.done + 1 ∧ (t.engine e).done = ((s.engine e).done + 1) % 18446744073709551616 ∧
        (∀ rd, g.hold = some (.seWait rd) → g.win.done + 1 = g.win.submitted →
          h.hold = none ∧ h.pc = g.pc + 8 ∧ h.sreg rd = BitVec.ofNat 64 (g.win.done + 1)) ∧
        Claims.Written s t k (s.setLoc x d.rank .store)
          [(d.bva + 56, bytesOf 1 d.status ++ [0, 0, 0] ++ bytesOf 4 d.count)]))

/-- 14 R305, R306, R311, R313, R314: an engine in service that runs none performs the one waiting descriptor of its die when
it is legal and its bytes are the device's own: the output of its first slice stands in memory or scratch (of 256 units or fewer,
all of it), a SCATTER's reductions have been applied to their places, and every other place keeps its bytes (a SORT's work area
apart). An illegal descriptor tears down its context with cause 0x01. How output is shared among slices is the model's choice
(log entry 35); no reduction is pending and no unseparated atomic's scope leaves the engine out (log entry 22). -/
def Obligations.EnginesPerformTheirDescriptor : Prop :=
  ∀ p ∈ Claims.setRows, ∀ (s s1 : State) (e k m n : Nat) (x : Ctx) (d d1 : Desc) (b : List Byte) (o : SetOut)
      (ws : List (Nat × List Byte)),
    s.running = true → (s.engine e).inService = true → s.descs = [d] → d.engine = none → d.performed = false → d.open_ = 0 →
    d.md = e / 8 → s.descClass d ≤ 2 → k = d.who.ctx → s.ctx k = some x → x.switchedIn = true → d.bva % 64 = 0 → d.bva < 281474976710656 →
    d1 = { d with engine := some e, last := e } → s1 = { s with descs := [d1] } → (∀ ln, (s.line ln).pend = []) →
    (∀ q y v, s.groupAt q = some y → y.hold ≠ some (.seSubmit v)) → Claims.Unraced s coreSlots d.who' →
    s1.setBytes k x d1 d.bva 64 = .ok b → (dOp b = p.2 ∨ dOp b = 0 ∨ 10 < dOp b) →
    (descLegal b = true → s1.setCompute k x d1 b = .ok o →
      ws = (if dOp b = 1 then splitAt64 (dAux b) (workBytes s.free (dAN b * dElem b)) else []) ++
        o.writes.flatMap (fun w => splitAt64 w.1 w.2) →
      m = ceilDiv ws.length (max 1 (ceilDiv o.work 256)) → n = ceilDiv o.reds.length (max 1 (ceilDiv o.work 256)) →
      (o.reds = [] → Claims.Apart (s.setLoc x d.rank .store) (ws.take m) →
        ∃ t, exec (p.1 e) s = .next t ∧ Claims.Written s t k (s.setLoc x d.rank .store) (ws.take m) ∧
          t.descs = [{ d1 with performed := true, work := o.work, status := o.status, count := o.count, writes := ws.drop m,
                               redOp := redOp b, redBytes := dPay b }]) ∧
      (ws = [] → Claims.Apart (s.setLoc x d.rank .store) ((o.reds.take n).map fun r => (r.1, bytesOf (dPay b) r.2)) →
        ∃ t, exec (p.1 e) s = .next t ∧
          Claims.Written s t k (s.setLoc x d.rank .store) ((o.reds.take n).map fun r =>
            (r.1, bytesOf (dPay b) (rmwVal (dPay b) (redOp b) (Claims.valueAt s k (dPay b) (s.setLoc x d.rank .store r.1)) r.2 0))) ∧
          t.descs = [{ d1 with performed := true, work := o.work, status := o.status, count := o.count,
                               reds := o.reds.drop n, redOp := redOp b, redBytes := dPay b }])) ∧
    (descLegal b = false → x.stopping = none → ∃ t, exec (p.1 e) s = .next t ∧ Claims.TearsDown s t k 7 0x01 ∧ t.descs = [])

/-- 14 R305, R304: with every input read, SORT answers its elements ranked and stable, TOPK the first K of them, MERGE of
ranked inputs both of them ranked with A's first, and INTERSECT and UNION of ranked inputs the elements that each key's
multiplicities give. -/
def Obligations.SetOperationsFollowTheTable : Prop :=
  ∀ (s : State) (k : Nat) (x : Ctx) (d : Desc) (b : List Byte) (as : List (List Byte)) (o : SetOut),
    dAN b ≠ 0 → s.setElems k x d (dA b) (dAN b) (dElem b) = .ok as → s.setCompute k x d b = .ok o →
    let rank := Claims.Ranked (dKT b) (dDesc b)
    let same := Claims.same (dKT b) (dDesc b)
    (dOp b = 1 → o.count = dAN b ∧ o.status = 0 ∧ ∃ ys, o.writes = [(dDst b, ys.flatten)] ∧ rank ys ∧
      (∀ e, ys.count e = as.count e) ∧ ∀ e, ys.filter (same e) = as.filter (same e)) ∧
    (dOp b = 9 → dSplit b = false → o.count = min (dK b) (dAN b) ∧ o.status = 0 ∧
      ∃ ys, o.writes = [(dDst b, (ys.take (dK b)).flatten)] ∧ rank ys ∧ (∀ e, ys.count e = as.count e) ∧
        ∀ e, ys.filter (same e) = as.filter (same e)) ∧
    (∀ bs, (dOp b = 2 ∨ dOp b = 3 ∨ dOp b = 4) → s.setElems k x d (dB b) (dBN b) (dElem b) = .ok bs → rank as → rank bs →
      ∃ ys, o.writes = [(dDst b, (ys.take (dCap b)).flatten)] ∧ o.count = ys.length ∧
        o.status = (if dCap b < ys.length then 1 else 0) ∧ rank ys ∧
        (dOp b = 2 → ∀ e, ys.filter (same e) = as.filter (same e) ++ bs.filter (same e)) ∧
        (dOp b = 3 → ∀ e, ys.filter (same e) = (as.filter (same e)).take (bs.filter (same e)).length) ∧
        (dOp b = 4 → ∀ e, ys.filter (same e) = as.filter (same e) ++ (bs.filter (same e)).drop (as.filter (same e)).length))

/-- 16 R351, R352, 21 R463: RES_SEND and RES_SEND_LAST hand the range to the I/O engine with the next OFFSET, unless the
previous range is unread (the group is held) or the words lie outside their values or the last send is made (cause
0x01); RESULT packs the next bytes of the berth's send into a packet on its session; CROSS_CLEAR with 1 clears the
crossing fault. A range wholly read releases its group's RES_WAIT. How many bytes a packet carries is the model's
choice (log entry 21). -/
def Obligations.ResultsLeaveInOrder : Prop :=
  (∀ p ∈ [(Instr.resSend, false), (.resSendLast, true)], ∀ (s : State) (c : CoreAt) (k n : Nat) (x : Ctx) (g : Group) (y : Order),
    s.runGroup c = some (k, x, g) → x.order = some n → s.order n = some y →
    (y.lastMade = false → g.win.resUnread = false → g.win.resLen.toNat ≤ 67108864 → g.win.resBase.toNat < 281474976710656 →
      ∃ t, exec (p.1 c) s = .next t ∧ (∀ a, t.byte a = s.byte a) ∧
        t.groupAt c = some { g with pc := g.pc + 8, win := { g.win with resLast := g.win.resLen.toNat,
                                                                        resUnread := decide (0 < g.win.resLen.toNat) } } ∧
        ((0 < g.win.resLen.toNat ∨ p.2 = true) →
          t.sends = s.sends ++ [{ num := s.nextDesc, order := n, who := some (s.idAt c), base := g.win.resBase.toNat,
                                  len := g.win.resLen.toNat, off := y.offset, last := p.2 }] ∧
          t.order n = some { y with offset := y.offset + g.win.resLen.toNat, lastMade := p.2 })) ∧
    (y.lastMade = false → g.win.resUnread = true → g.win.resLen.toNat ≤ 67108864 → g.win.resBase.toNat < 281474976710656 →
      ∃ t, exec (p.1 c) s = .next t ∧ t.groupAt c = some { g with hold := some (.resCmd (if p.2 then 2 else 1)) }) ∧
    (y.lastMade = true ∨ 67108864 < g.win.resLen.toNat ∨ 281474976710656 ≤ g.win.resBase.toNat →
      exec (p.1 c) s = .next (s.coreFault c 0x01))) ∧
  (∀ (s : State) (b m n : Nat) (d : Send) (o : Order) (c : Conn), s.running = true → s.nextSend b = some (d, o, n, c) →
    m = min (d.len - d.gone) (resultRoom (s.iface c.iface).mtu c.ip6) → (∀ ln, (s.line ln).pend = []) →
    (∀ q y v, s.groupAt q = some y → y.hold ≠ some (.resCmd v)) →
    d.base + d.gone + m ≤ 281474976710656 →
    (∀ i, i < m → Claims.isLocal (s.bvaLoc b .load (d.base + d.gone + i)) = true) →
    ∃ t, exec (.result b) s = .next t ∧ (∀ a, t.byte a = s.byte a) ∧
      (∃ raw, t.out = Out.packet n c.iface c.peer 0x21 c.txSeq
        (bytesOf 4 o.hdr.tag ++ [if d.len ≤ d.gone + m ∧ d.last = true then 1 else 0] ++ [0, 0, 0] ++ bytesOf 8 (d.off + d.gone) ++
          (List.range m).map fun i => Claims.byteAt s o.ctx (s.bvaLoc b .load (d.base + d.gone + i))) raw :: s.out) ∧
      (∃ y, t.order d.order = some y ∧ y.lastGone = ((decide (d.len ≤ d.gone + m) && d.last) || o.lastGone)) ∧
      ∀ q g, d.len ≤ d.gone + m → s.groupAt q = some g → q.grp < 32 → (s.core q.core).ctx.isSome = true → d.who = some (s.idAt q) →
        ∃ h, t.groupAt q = some h ∧ h.win.resUnread = false ∧ ∀ rd, g.hold = some (.resWait rd) →
          h.hold = none ∧ h.pc = g.pc + 8 ∧ h.sreg rd = BitVec.ofNat 64 g.win.resLast) ∧
  (∀ (s : State) (c : CoreAt) (v : Word) (k : Nat) (x : Ctx) (g : Group), s.runGroup c = some (k, x, g) →
    ∃ t, exec (.crossClear c v) s = .next t ∧ t.groupAt c = some { g with pc := g.pc + 8 } ∧ (∀ a, t.byte a = s.byte a) ∧
      t.ctx k = some (if v = 1 then { x with crossFault := none } else x))

/-! ### Berths -/

/-- 03 R63, R65, R66, R70, R79: what CREATE, ENABLE, DISABLE_DRAIN, DISABLE_WITHDRAW, DESTROY and an OP that names no command
do to their berth in each state, and the result that they post; while a command runs they post BUSY. 12 R276: CREATE loads the
berth's key slots. 17 R374: the orders of a withdrawn berth record the cause, and with the next tick's start, where the model
finishes teardowns (log entry 72), its contexts are gone and its orders answered. The berth that RESULT names after a CREATE
that fails is log entry 74. -/
def Obligations.BerthCommandsMoveTheirBerth : Prop :=
  ∀ (s : State) (b : Nat), s.fwActs = true → b < 256 →
    (s.bth.running = none → (∀ q, s.poolHeld q = false) →
      (∀ (args a : List Word) (g : Grant) (p : List Byte) (n : Nat),
        a = (List.range 6).map (fun i => if i < args.length then args.getD i 0 else tget 0 s.bth.args i) →
        g = grantOf a → s.engaged = false → s.lifecycle ≠ 0 → s.mft.running.isSome = true → s.poolRec g.pool = some p →
        (n < 256 → (s.berth n).state = 0 → (∀ j, j < n → (s.berth j).state ≠ 0) →
          ((s.poolBerths g.pool).length < poolMaxBerths p → grantClean a = true → Claims.GrantLegal s g p →
            ∃ t, exec (.create args) s = .next t ∧ Claims.Posted t n 0 ∧
              t.berth n = { state := 1, grant := g, createCount := s.sec.createNext + 1 } ∧
              (∀ i, i < 2 → (tget [] (t.lpxOf i).keys n).length = 64 ∧ ∀ j, j ≠ n → tget [] (t.lpxOf i).keys j = tget [] (s.lpxOf i).keys j) ∧
              ∀ j, j ≠ n → t.berth j = s.berth j) ∧
          (poolMaxBerths p ≤ (s.poolBerths g.pool).length →
            ∃ t, exec (.create args) s = .next t ∧ Claims.Posted t 0 1 ∧ ∀ j, t.berth j = s.berth j) ∧
          ((s.poolBerths g.pool).length < poolMaxBerths p → grantClean a = false ∨ ¬ Claims.GrantLegal s g p →
            ∃ t, exec (.create args) s = .next t ∧ Claims.Posted t 0 4 ∧ ∀ j, t.berth j = s.berth j)) ∧
        ((∀ j, j < 256 → (s.berth j).state ≠ 0) →
          ∃ t, exec (.create args) s = .next t ∧ Claims.Posted t 0 1 ∧ ∀ j, t.berth j = s.berth j)) ∧
      (((s.berth b).state = 1 ∨ (s.berth b).state = 6) → s.mft.running.isSome = true →
        ∃ t, exec (.enable b) s = .next t ∧ Claims.Posted t b 0 ∧ (t.berth b).state = 2 ∧ (t.berth b).admitHold = false ∧
          (t.berth b).refTick = s.tick ∧ (t.berth b).grant = (s.berth b).grant ∧ (t.berth b).map = (s.berth b).map) ∧
      ((s.berth b).state ≠ 1 → (s.berth b).state ≠ 6 →
        (∃ t, exec (.enable b) s = .next t ∧ Claims.Posted t b 3 ∧ t.berth b = s.berth b) ∧
        ∃ t, exec (.destroy b) s = .next t ∧ Claims.Posted t b 3 ∧ t.berth b = s.berth b) ∧
      (∀ limit : Word,
        ((s.berth b).state = 2 → ∃ t, exec (.disableDrain b limit) s = .next t ∧ Claims.Posted t b 0 ∧ (t.berth b).state = 3 ∧
          ((∀ g ∈ (s.berth b).gates, g.1 ≤ s.tick) → ∀ a, s.tick ≤ a → ¬ Claims.AdmitsAt t b a) ∧ bitAt 2 (t.berth b).evtPend = true ∧
          (t.berth b).drainEnd =
            (if limit.toNat % 4294967296 = 0 then none else some (s.tick + limit.toNat % 4294967296 * 1000))) ∧
        ((s.berth b).state ≠ 2 →
          ∃ t, exec (.disableDrain b limit) s = .next t ∧ Claims.Posted t b 3 ∧ t.berth b = s.berth b)) ∧
      (((s.berth b).state = 2 ∨ (s.berth b).state = 3) →
        ∃ t, exec (.disableWithdraw b) s = .next t ∧ Claims.Posted t b 0 ∧ (t.berth b).state = 4 ∧ Claims.Stopped s t b) ∧
      ((s.berth b).state = 5 → ∃ t, exec (.disableWithdraw b) s = .next t ∧ Claims.Posted t b 0 ∧ (t.berth b).state = 5 ∧
        (t.berth b).disableRec = true) ∧
      ((s.berth b).state < 2 ∨ (s.berth b).state = 4 ∨ 5 < (s.berth b).state →
        ∃ t, exec (.disableWithdraw b) s = .next t ∧ Claims.Posted t b 3 ∧ t.berth b = s.berth b) ∧
      (((s.berth b).state = 1 ∨ (s.berth b).state = 6) →
        ∃ t, exec (.destroy b) s = .next t ∧ (t.berth b).state = 7 ∧ (t.bth.running.map BerthCmd.op) = some 5 ∧
          ∀ n y, t.conn n = some y → y.berth ≠ b) ∧
      (∀ op, op = 0 ∨ (8 ≤ op ∧ op < 16) →
        ∃ t, exec (.berthBadOp op b) s = .next t ∧ Claims.Posted t b 2 ∧ t.bth.args = s.bth.args ∧ ∀ j, t.berth j = s.berth j)) ∧
    (s.bth.running.isSome = true →
      ∀ i ∈ [Instr.create [], .enable b, .disableWithdraw b, .destroy b, .disableDrain b 0, .mapWrite b 0 0 0, .mapClear b 0 0 0, .berthBadOp 0 b],
        ∃ t, exec i s = .next t ∧ t.bth.done = true ∧ t.bth.result = 5 ∧ t.bth.running = s.bth.running ∧
          ∀ j, t.berth j = s.berth j) ∧
    (∀ c : BerthCmd, s.bth.running = some c → s.mft.phase = .idle → c.op = 2 → c.berth = b → s.bth.viaMbx = false →
      ((s.berth b).state = 1 ∨ (s.berth b).state = 6) → s.mft.running.isSome = true →
      ∃ t, exec .heldCommandRelease s = .next t ∧ Claims.Posted t b 0 ∧ (t.berth b).state = 2)

/-- 03 R65, R67 to R72, R77: the transitions that no command makes: a quiet draining or withdrawing berth becomes DISABLED
with vector 3; the drain limit withdraws; a heartbeat later than TIMEOUT resets, recording a disable; a reset ends in
ENABLED or DISABLED; a destroyed berth is FREE, its pages zero, its pins and sessions gone. When DESTROY posts its
result is log entry 40, when a teardown ends log entry 72. A command that is not due changes nothing (the model's choice, log entry 2). -/
def Obligations.BerthTransitionsFollowTheTable : Prop :=
  ∀ (s : State) (b : Nat), s.running = true →
    ((s.berth b).state = 3 → Claims.Quiet s b →
      ∃ t, exec (.drainComplete b) s = .next t ∧ (t.berth b).state = 6 ∧ bitAt 3 (t.berth b).evtPend = true) ∧
    ((s.berth b).state = 4 → Claims.Quiet s b →
      ∃ t, exec (.withdrawComplete b) s = .next t ∧ (t.berth b).state = 6 ∧ bitAt 3 (t.berth b).evtPend = true) ∧
    (¬ Claims.Quiet s b → exec (.drainComplete b) s = .next s ∧ exec (.withdrawComplete b) s = .next s ∧
      exec (.berthResetComplete b) s = .next s) ∧
    (∀ e, (s.berth b).state = 3 → (s.berth b).drainEnd = some e → e ≤ s.tick →
      (¬ Claims.Quiet s b → ∃ t, exec (.drainLimitExpiry b) s = .next t ∧ (t.berth b).state = 4 ∧ Claims.Stopped s t b) ∧
      (Claims.Quiet s b → exec (.drainLimitExpiry b) s = .next s)) ∧
    (((s.berth b).state = 2 ∨ (s.berth b).state = 3 ∨ (s.berth b).state = 4) →
      ((s.berth b).grant.timeout * 1000 < s.tick - (s.berth b).refTick →
        ∃ t, exec (.heartbeatTimeout b) s = .next t ∧ (t.berth b).state = 5 ∧
          (t.berth b).disableRec = decide ((s.berth b).state ≠ 2) ∧ bitAt 1 (t.berth b).evtPend = true ∧ Claims.Stopped s t b ∧
          (t.berth b).grant = (s.berth b).grant ∧ (t.berth b).map = (s.berth b).map) ∧
      (s.tick - (s.berth b).refTick ≤ (s.berth b).grant.timeout * 1000 → exec (.heartbeatTimeout b) s = .next s)) ∧
    ((s.berth b).state = 5 → Claims.Quiet s b →
      ((s.berth b).disableRec = true →
        ∃ t, exec (.berthResetComplete b) s = .next t ∧ (t.berth b).state = 6 ∧ bitAt 3 (t.berth b).evtPend = true) ∧
      ((s.berth b).disableRec = false →
        ∃ t, exec (.berthResetComplete b) s = .next t ∧ (t.berth b).state = 2 ∧
          (t.berth b).admitHold = !(s.berth b).hbSinceReset ∧ (t.berth b).refTick = max (s.berth b).lastHb s.tick)) ∧
    ((s.berth b).state = 7 →
      ∃ t, exec (.destroyComplete b) s = .next t ∧ t.berth b = {} ∧ (∀ n, (t.sess n).state ≠ 0 → (t.sess n).berth ≠ b) ∧
        (∀ ln, (t.line ln).pin ≠ some b) ∧ (∀ i, i < 2 → tget [] (t.lpxOf i).keys b = []) ∧
        (∀ p ∈ (s.berth b).pages, p.2.dpa < 8796093022208 → ∀ a, p.2.dpa ≤ a → a < p.2.dpa + pageBytes p.2.big → t.byte a = 0) ∧
        (∀ c : BerthCmd, s.bth.running = some c → c.op = 5 → c.berth = b → Claims.Posted t b 0))

/-- 03 R74, R75: MAP_WRITE maps COUNT pages of one size onto consecutive pages, with their flags, or posts BAD_STATE,
BAD_ARG, MAP_CONFLICT or MAP_RANGE and maps nothing; MAP_CLEAR unmaps whole pages and leaves them zero. -/
def Obligations.MapCommandsFollowTheTable : Prop :=
  ∀ (s : State) (b : Nat) (a0 a1 a2 : Word) (size n d : Nat), s.fwActs = true → b < 256 → s.bth.running = none →
    size = (if bitAt 0 a1 then 2097152 else 65536) → n = a2.toNat * size → d = fld 16 32 a1 * 65536 →
    (((s.berth b).state = 1 ∨ (s.berth b).state = 2 ∨ (s.berth b).state = 6) →
      a0.toNat % size = 0 → d % size = 0 → a0.toNat + n ≤ 281474976710656 → a0.toNat < 281474976710656 →
      d + n ≤ 281474976710656 → 1 ≤ a2.toNat →
      a2.toNat ≤ 65536 → fld 4 12 a1 = 0 → fld 48 16 a1 = 0 →
      ((s.stewardTop ≤ d → (∀ o, ∀ p ∈ (s.berth o).pages, meets d n p.2.dpa (pageBytes p.2.big) = false) →
          (∀ p ∈ (s.berth b).pages, meets a0.toNat n (p.1 * 65536) (pageBytes p.2.big) = false) →
          (s.dpaMappable b d n = true → s.mapFits b d n = true →
            ∃ t, exec (.mapWrite b a0 a1 a2) s = .next t ∧ Claims.Posted t b 0 ∧
              (∀ a, a0.toNat ≤ a → a < a0.toNat + n → ∃ p, pageAt (t.berth b).map a = some (p, d + (a - a0.toNat)) ∧
                p.w = bitAt 1 a1 ∧ p.x = bitAt 2 a1 ∧ p.inp = bitAt 3 a1) ∧
              (∀ a, a < a0.toNat ∨ a0.toNat + n ≤ a → pageAt (t.berth b).map a = pageAt (s.berth b).map a) ∧
              (∀ a, a < d ∨ d + n ≤ a → t.byte a = s.byte a)) ∧
          (s.dpaMappable b d n = false ∨ s.mapFits b d n = false →
            ∃ t, exec (.mapWrite b a0 a1 a2) s = .next t ∧ Claims.Posted t b 7 ∧ t.berth b = s.berth b)) ∧
        (d < s.stewardTop ∨ (∃ o, ∃ p ∈ (s.berth o).pages, meets d n p.2.dpa (pageBytes p.2.big) = true) ∨
            (∃ p ∈ (s.berth b).pages, meets a0.toNat n (p.1 * 65536) (pageBytes p.2.big) = true) →
          ∃ t, exec (.mapWrite b a0 a1 a2) s = .next t ∧ Claims.Posted t b 6 ∧ t.berth b = s.berth b))) ∧
    (((s.berth b).state = 1 ∨ (s.berth b).state = 2 ∨ (s.berth b).state = 6) →
      a0.toNat % size ≠ 0 ∨ d % size ≠ 0 ∨ 281474976710656 < a0.toNat + n ∨ 281474976710656 < d + n ∨ a2.toNat = 0 ∨
        65536 < a2.toNat →
      ∃ t, exec (.mapWrite b a0 a1 a2) s = .next t ∧ Claims.Posted t b 8 ∧ t.berth b = s.berth b) ∧
    ((s.berth b).state ≠ 1 → (s.berth b).state ≠ 2 → (s.berth b).state ≠ 6 →
      ∃ t, exec (.mapWrite b a0 a1 a2) s = .next t ∧ Claims.Posted t b 3 ∧ t.berth b = s.berth b) ∧
    (∀ ps, (s.berth b).state ≠ 0 → (s.berth b).state ≠ 7 → (∀ k x, s.ctx k = some x → x.berth ≠ b) → fld 1 63 a1 = 0 →
      a0.toNat % size = 0 → a0.toNat + n ≤ 281474976710656 → a0.toNat < 281474976710656 → 1 ≤ a2.toNat → a2.toNat ≤ 65536 →
      ps = (s.berth b).pages.filter (fun p => decide (a0.toNat ≤ p.1 * 65536) && decide (p.1 * 65536 < a0.toNat + n) &&
        p.2.big == bitAt 0 a1) →
      (ps.length = a2.toNat → (∀ f, a0.toNat ≤ f * 65536 → f * 65536 < a0.toNat + n → tget none (s.store b).frames f = none) →
        ∃ t, exec (.mapClear b a0 a1 a2) s = .next t ∧ Claims.Posted t b 0 ∧
          (∀ u, tget none (t.berth b).map u =
            if a0.toNat ≤ u * 65536 ∧ u * 65536 < a0.toNat + n then none else tget none (s.berth b).map u) ∧
          (∀ p ∈ ps, p.2.dpa < 8796093022208 → ∀ a, p.2.dpa ≤ a → a < p.2.dpa + size → t.byte a = 0) ∧
          (∀ a, (∀ p ∈ ps, a < p.2.dpa ∨ p.2.dpa + size ≤ a) → t.byte a = s.byte a)) ∧
      (ps.length ≠ a2.toNat → ∃ t, exec (.mapClear b a0 a1 a2) s = .next t ∧ Claims.Posted t b 8 ∧ t.berth b = s.berth b)) ∧
    ((s.berth b).state = 0 ∨ (s.berth b).state = 7 ∨ (∃ k x, s.ctx k = some x ∧ x.berth = b) →
      ∃ t, exec (.mapClear b a0 a1 a2) s = .next t ∧ Claims.Posted t b 3 ∧ t.berth b = s.berth b)

/-! ### The proofer -/

/-- 04 R86 to R94: headers reach the intake queue or are refused with BUSY; the earliest of the queue is decided no sooner
than 20 ticks after its arrival and once no header on its way arrived before it or with it; the first failed check gives the reason; a standard or bulk order that passes is
admitted with its target, and an assured one with the promise that H, the span and REQ_SPAN give, or refused. A
command that is not due changes nothing (the model's choice, log entry 2). -/
def Obligations.HeadersAreDecidedInOrder : Prop :=
  (∀ (s : State) (port : Nat) (h h' : Header), s.running = true → s.prf.onWay.find? (fun q => q.port == port) = some h →
    h' = (if port < 32 then h else { h with arrival := s.tick - 20 }) →
    (s.prf.queue.length < 64 → ∃ t, exec (.headerArrival port) s = .next t ∧ t.prf.queue = s.prf.queue ++ [h'] ∧
      t.prf.onWay = s.prf.onWay.erase h) ∧
    (64 ≤ s.prf.queue.length → ∃ t, exec (.headerArrival port) s = .next t ∧ t.prf.queue = s.prf.queue ∧
      t.prf.onWay = s.prf.onWay.erase h ∧ Claims.RefusedWith s t h' 1 0)) ∧
  (∀ (s : State) (pre post : List Header) (h : Header), s.running = true → s.prf.queue = pre ++ h :: post →
    (∀ q ∈ pre, h.arrival < q.arrival ∨ (h.arrival = q.arrival ∧ h.port < q.port)) →
    (∀ q ∈ post, ¬ (q.arrival < h.arrival ∨ (q.arrival = h.arrival ∧ q.port < h.port))) →
    (s.tick < h.arrival + 20 ∨ (∃ o ∈ s.prf.onWay, (if o.port < 32 then o.arrival else s.tick - 20) ≤ h.arrival) →
      exec .headerDecision s = .next s) ∧
    (h.arrival + 20 ≤ s.tick → (∀ o ∈ s.prf.onWay, h.arrival < if o.port < 32 then o.arrival else s.tick - 20) →
      (∀ r rest, Claims.failed s h = r :: rest →
        ∃ t, exec .headerDecision s = .next t ∧ t.prf.queue = pre ++ post ∧ Claims.RefusedWith s t h r 0) ∧
      (∀ p b H, Claims.failed s h = [] → s.program h.berth h.program = some p → s.bindTo h p.ctxLimit = some b →
        (s.berth h.berth).state ≠ 4 → (s.berth h.berth).state ≠ 5 → H = (s.berth h.berth).horizon →
        (h.cls = 1 → ∃ t, exec .headerDecision s = .next t ∧ t.prf.queue = pre ++ post ∧
          Claims.Admitted s t h b (h.arrival + if h.reqSpan = 0 then 600000000 else h.reqSpan) 0 H) ∧
        (h.cls = 2 → ∃ t, exec .headerDecision s = .next t ∧ t.prf.queue = pre ++ post ∧ Claims.Admitted s t h b 0 0 H) ∧
        (∀ a S W E P, h.cls = 0 → a = h.arrival →
          W = (((List.range 256).filter fun o => decide ((s.berth o).state ≠ 0) && bitAt h.port (s.berth o).grant.ports).map
            fun o => (s.berth o).grant.egressWeight).sum →
          S = Claims.span p.cost h.size (s.berth h.berth).grant.assured (s.berth h.berth).grant.egressWeight W
            (if (s.port h.port).mode = 3 then 48 else 96) (s.startWake (s.poolOf h.berth))
            (match b with | .old k => (s.ctx k).elim false Ctx.switchedIn | .fresh _ => false) →
          E = max a H + S → P = (if h.reqSpan = 0 then max E (a + 1000) else a + h.reqSpan) →
          (600000000 < E - a →
            ∃ t, exec .headerDecision s = .next t ∧ t.prf.queue = pre ++ post ∧ Claims.RefusedWith s t h 0x0C 0) ∧
          (E - a ≤ 600000000 → E ≤ P → 1000 ≤ P - a → P - a ≤ 600000000 →
            ∃ t, exec .headerDecision s = .next t ∧ t.prf.queue = pre ++ post ∧ Claims.Admitted s t h b P E E) ∧
          (E - a ≤ 600000000 → P < E ∨ P - a < 1000 ∨ 600000000 < P - a →
            ∃ t, exec .headerDecision s = .next t ∧ t.prf.queue = pre ++ post ∧
              Claims.RefusedWith s t h 0x0B (max E (a + 1000)))))))

/-- 04 R95 to R97, R102, R104, 00 R9 to R12, 06 R161: an order is dispatched to its context with its budget and its
record; the first spent copy of its budget tears the context down with BARRIER_TIMEOUT or FAULTED; the completion report
decides COMPLETED or LATE and gives the booking back; a parked response waits in the save area; the interference figures close
at every interval on the cycles that fell into it. The order of dispatch, the tick-wise budget and the tick at which a teardown
answers are log entries 46, 69 and 72. A command that is not due changes
nothing (the model's choice, log entry 2). -/
def Obligations.OrdersRunToTheirAnswer : Prop :=
  (∀ (s : State) (n : Nat) (x : Order) (c : Ctx) (p : Program) (ws : List (Nat × List Byte)),
    s.running = true → s.order n = some x → x.dispatched = none → x.answered = false → x.causes = [] → x.lastGone = false →
    (∀ ln, (s.line ln).pend = []) → s.ctx x.ctx = some c → c.order = none → (s.boundTo x.ctx).head? = some n → s.progOf c = some p →
    (x.hdr.cls ≠ 0 ∨ x.revoked = true ∨ ∀ m y, m < n → s.order m = some y → y.hdr.berth = x.hdr.berth →
      y.answered = true ∨ y.hdr.cls ≠ 0 ∨ y.revoked = true) →
    ws = (orderRecord x.hdr x.time).zipIdx.map (fun q => (recordBva p c + q.2, [q.1])) →
    Claims.Apart (s.bvaLoc c.berth .store) ws →
    ∃ t y, exec (.orderDispatch n) s = .next t ∧ (t.ctx x.ctx).map Ctx.order = some (some n) ∧ t.order n = some y ∧
      y.dispatched = some s.tick ∧ Claims.Written s t x.ctx (s.bvaLoc c.berth .store) ws ∧
      y.revoked = (x.revoked || (decide (x.hdr.cls = 0) &&
        decide (s.freeOfAssured (s.poolOf x.hdr.berth) x.ctx < Claims.up (s.berth x.hdr.berth).grant.assured 2))) ∧
      y.budget = if x.hdr.cls = 0 ∧ y.revoked = false then (x.time - 20 - s.tick) * 100
        else (s.program x.hdr.berth x.hdr.program).elim 0 fun q => Claims.amount q.cost.maxCycles x.hdr.size) ∧
  (∀ (s : State) (n : Nat) (x : Order) (c : Ctx), s.running = true → s.order n = some x → x.dispatched.isSome = true →
    x.answered = false → x.lastGone = false → s.ctx x.ctx = some c → s.boundTo x.ctx = [n] →
    (∀ status, status = (if c.cores.any (fun i => (s.core i).work.atBarrier) || c.saved.any CoreWork.atBarrier then 8 else 7) →
      (∃ d, (d = (if x.hdr.port < 32 then 0x20 else 0x21) ∨ ∃ i ∈ c.cores, d = dieOf i) ∧ x.budget ≤ tget 0 x.spent d) →
      x.causes = [] → (∀ j y, s.ctx j = some y → y.stopping = none) →
      ∃ t, exec (.budgetExpiry n) s = .next t ∧ Claims.TearsDown s t x.ctx status 0x08 ∧
        t.finishStops.ctx x.ctx = none ∧ t.finishStops.order n = none ∧ Claims.Answers s t.finishStops x.hdr status 0 0 0) ∧
    (tget 0 x.spent (if x.hdr.port < 32 then 0x20 else 0x21) < x.budget → (∀ i ∈ c.cores, tget 0 x.spent (dieOf i) < x.budget) →
      exec (.budgetExpiry n) s = .next s)) ∧
  (∀ (s : State) (n : Nat) (x : Order), s.running = true → s.order n = some x → x.lastGone = true → x.answered = false →
    ∃ t, exec (.completionReport n) s = .next t ∧
      (x.hdr.cls = 2 ∨ s.tick ≤ x.time → Claims.Answers s t x.hdr 3 0 0 s.tick) ∧
      (x.hdr.cls ≠ 2 → x.time < s.tick → Claims.Answers s t x.hdr 4 0 0 s.tick ∧
        (x.hdr.cls = 0 → x.revoked = false → Claims.Answers s t x.hdr 5 0 0 0)) ∧
      (t.berth x.hdr.berth).horizon = (if x.hdr.cls = 0 ∧ x.revoked = false
        then Claims.horizonLeft (s.berth x.hdr.berth).horizon x.booked s.tick else (s.berth x.hdr.berth).horizon) ∧
      t.order n = if x.runEnded then none else some { x with answered := true }) ∧
  (∀ (s : State) (p : Nat) (m : XMsg) (q : List XMsg) (r : XReq) (x : Ctx), s.running = true → (s.port p).inq = m :: q →
    (s.port p).outbound.find? (fun o => o.msg.tag == m.tag) = some r → r.parked = true → r.waiter ≠ .none →
    (m.op = 0x81 ∧ r.msg.op = 1 ∨ m.op = 0x82 ∧ (r.msg.op = 2 ∨ r.msg.op = 4) ∨ m.op = 0x83 ∧ r.msg.op = 3) →
    m.addr % 256 = 0 → s.ctx r.ctx = some x → (s.port p).waitq = [] →
    ∃ t, exec (.parkedResponse p) s = .next t ∧ (t.port p).inq = q ∧
      t.ctx r.ctx = some { x with parked := x.parked ++ [{ port := p, req := r, data := m.body }] }) ∧
  (∀ s : State, s.running = true →
    (s.prf.interval < s.tick / 100000 → (tkeys s.berths).Nodup →
      ∃ t, exec .interferenceIntervalEnd s = .next t ∧ t.prf.interval = s.prf.interval + 1 ∧
        ∀ b, b ∈ tkeys s.berths →
          (t.berth b).ifx.valid = decide (tget 0 (s.berth b).ifx.ended s.prf.interval ≠ 0) ∧ (t.berth b).ifx.index ≤ 256 ∧
          (t.berth b).ifx.cycles = (s.berth b).ifx.cycles ∧ (∀ v ∈ (t.berth b).ifx.shares, v ≤ 256) ∧
          bitAt 4 (t.berth b).evtPend = (bitAt 4 (s.berth b).evtPend ||
            decide ((s.berth b).ifx.threshold ≠ 0 ∧ (s.berth b).ifx.threshold < (t.berth b).ifx.index ∧
              ((s.berth b).ifx.index ≤ (s.berth b).ifx.threshold ∨ (s.berth b).ifx.valid = false)))) ∧
    (s.tick / 100000 ≤ s.prf.interval → exec .interferenceIntervalEnd s = .next s))

/-- 04 R83, R100 to R102: a standard or bulk context may leave once its quantum of 20 ms has passed; a context that may
leave is switched out with the work of each of its cores, and not while it holds an assured order; firmware switches
it in on free cores of its pool, which take up that work, and 06 R160: blocks that were not resident go round-robin to the new
cores. That a switch is one command, and how more images than cores wait, is the model's choice (log entry 45). A command that is not due changes nothing (the model's choice, log entry 2). -/
def Obligations.ContextsSwitchWithTheirWork : Prop :=
  ∀ (s : State) (k : Nat) (x : Ctx), s.ctx k = some x →
    (s.running = true → x.switchedIn = true →
      (x.quantum + 200000 ≤ s.tick → s.runsAssured k = false →
        exec (.quantumExpiry k) s = .next (s.setCtx k (some { x with mayLeave := true }))) ∧
      (s.tick < x.quantum + 200000 → exec (.quantumExpiry k) s = .next s) ∧
      ((∃ n y, s.order n = some y ∧ y.ctx = k ∧ y.hdr.cls = 0 ∧ y.answered = false) →
        exec (.contextSwitchOut k) s = .next s) ∧
      ((∀ n y, s.order n = some y → y.ctx = k → y.hdr.cls ≠ 0 ∨ y.answered = true) →
        (∀ d ∈ s.descs, d.who.ctx = k → d.engine = none ∨ d.performed = false) →
        (∀ q y v, s.groupAt q = some y → y.hold ≠ some (.seSubmit v)) → x.order = none ∨ x.mayLeave = true →
        (∀ i ∈ x.cores, (s.core i).ctx = some k ∧ s.dieRuns (dieOf i) = true ∧ (s.core i).work.mq = [] ∧
          ∀ q ∈ (s.core i).work.streams, q.2.flight = []) →
        ∃ (t : State) (y : Ctx), exec (.contextSwitchOut k) s = .next t ∧ t.ctx k = some y ∧ y.switchedIn = false ∧ y.cores = [] ∧
          y.scratch = x.scratch ∧ y.order = x.order ∧ y.saved.length = x.cores.length + x.saved.length ∧
          (∀ j i : Nat, x.cores[j]? = some i → (t.core i).ctx = none ∧ ∃ w : CoreWork, y.saved[j]? = some w ∧ w.groups = (s.core i).work.groups ∧
            w.blocks = (s.core i).work.blocks ∧ w.acc = (s.core i).work.acc ∧ w.tokens = (s.core i).work.tokens) ∧
          ∀ a, t.byte a = s.byte a)) ∧
    (∀ (cores cs : List Nat) (works : List CoreWork) (p : Program), s.fwActs = true → x.switchedIn = false → x.order.isSome = true →
      cs = sortBy s.logicalId cores → works = s.savedWorks k x → s.progOf x = some p → x.parked = [] → x.unsent = [] →
      (∀ w ∈ works, ∀ n y, w.group n = some y → ∀ W, y.hold ≠ some (.remote W) ∧ y.hold ≠ some (.fence W) ∧
        y.hold ≠ some (.sesCmd W) ∧ y.hold ≠ some (.resCmd W) ∧ y.hold ≠ some (.seSubmit W)) → cs.Nodup → cs ≠ [] →
      (∀ i ∈ cs, i < 864 ∧ (s.core i).slotState = 1 ∧ (s.core i).bound.isSome = true ∧ (s.core i).ctx = none ∧
        (s.core i).replaying = false ∧ s.dieRuns (dieOf i) = true ∧ clusterOf i ∈ s.poolCls (s.poolOf x.berth) ∧
        (s.cluster (clusterOf i)).asleep = false ∧ s.halfOff (clusterOf i) = false) →
      (s.runsAssured k = true → Claims.up (s.berth x.berth).grant.assured 2 ≤ cs.length) →
      (s.placeAll k p.scrBanks p.cacheBanks (sortBy id (cs.map clusterOf).dedup)).isSome = true →
      ∃ (t : State) (y : Ctx), exec (.contextSwitchIn k cores) s = .next t ∧ t.ctx k = some y ∧ y.switchedIn = true ∧ y.cores = cs ∧
        y.scratch = x.scratch ∧ y.order = x.order ∧ y.saved = works.drop cs.length ∧
        ∀ j i : Nat, cs[j]? = some i → (t.core i).ctx = some k ∧
          (t.core i).work.waiting = ((x.unplaced.zipIdx.filter fun b => decide (b.2 % cs.length = j)).map Prod.fst) ∧ (t.core i).work.groups = (works.getD j {}).groups ∧
          (t.core i).work.blocks = (works.getD j {}).blocks ∧ (t.core i).work.acc = (works.getD j {}).acc ∧
          (t.core i).work.tokens = (works.getD j {}).tokens)

/-! ### The berth transport -/

/-- 16 R339, R340, R342, R345, R347 to R349, R355, 03 R71, R72: a packet that came by IPv4 where the port does not take it, fails
its VER, CONN or tag, comes by a port that the berth may not use, or repeats its SEQ changes nothing but the counts and the
session's figures; an accepted one has the effect of its type, or is refused with its reason. Bytes are stated where no
reduction is pending (11 R253). -/
def Obligations.PacketsActOnceOnTheirBerth : Prop :=
  (∀ p ∈ Claims.packetRows, ∀ (s : State) (k : Packet), s.ifaceUp k.iface = true →
    (k.ip6 = false → s.ip4On k.iface = false →
      ∃ t, exec (p.1 k) s = .next t ∧ t.conns = s.conns ∧ t.berths = s.berths ∧ t.prf = s.prf ∧ t.mem = s.mem ∧
        ((s.iface k.iface).drop < 4294967295 → (t.iface k.iface).drop = (s.iface k.iface).drop + 1)) ∧
    (k.ip6 = true ∨ s.ip4On k.iface = true → (k.ver ≠ 1 ∨ k.authentic = false ∨ s.conn k.conn = none) →
      ∃ t, exec (p.1 k) s = .next t ∧ t.conns = s.conns ∧ t.berths = s.berths ∧ t.prf = s.prf ∧ t.mem = s.mem ∧
        (tget 0 s.authFail (32 + k.iface / 64) < 4294967295 →
          tget 0 t.authFail (32 + k.iface / 64) = tget 0 s.authFail (32 + k.iface / 64) + 1)) ∧
    (∀ c, k.ip6 = true ∨ s.ip4On k.iface = true → k.ver = 1 → k.authentic = true → s.conn k.conn = some c → bitAt (k.iface / 2) (s.berth c.berth).grant.ports = false →
      ∃ t, exec (p.1 k) s = .next t ∧ t.conns = s.conns ∧ t.berths = s.berths ∧ t.prf = s.prf ∧ t.mem = s.mem ∧
        ((s.iface k.iface).drop < 4294967295 → (t.iface k.iface).drop = (s.iface k.iface).drop + 1)) ∧
    (∀ c, Claims.OnSession s k c → k.seq < c.rxNext ∨ k.seq ∈ c.rxGot → (∀ w ∈ c.windows, w.1 ≠ k.seq) →
      ∃ t, exec (p.1 k) s = .next t ∧ t.berths = s.berths ∧ t.prf = s.prf ∧ t.mem = s.mem ∧
        (p.2 = true → Claims.Leaves t k.conn k.iface k.peer 0x04 fun b =>
          ofBytes (b.take 8) = (c.windows.map Prod.fst).foldl min c.rxNext % 18446744073709551616))) ∧
  (∀ (s : State) (k : Packet) (c : Conn), Claims.OnSession s k c → Claims.NewSeq c k.seq →
    (∃ t, exec (.btpClose k) s = .next t ∧ t.conn k.conn = none) ∧
    (24 ≤ k.body.length → c.waiting = [] → ∃ t y, exec (.ack k) s = .next t ∧ t.conn k.conn = some y ∧
      ∀ u, u ∈ y.unacked ↔ u ∈ c.unacked ∧ ¬ (u.seq < bf k.body 0 8 ∨
        (bf k.body 0 8 < u.seq ∧ (bf k.body 8 8).testBit (u.seq - bf k.body 0 8 - 1) = true))) ∧
    (∀ a, a = (if k.iface / 2 < 32 then s.tick else s.tick - 20) →
      ∃ t, exec (.heartbeat k) s = .next t ∧ (t.berth c.berth).lastHb = max (s.berth c.berth).lastHb a ∧
        (t.berth c.berth).hbSinceReset = true ∧ (t.berth c.berth).refTick = max (s.berth c.berth).refTick a ∧
        ((s.berth c.berth).state ≠ 5 → (t.berth c.berth).admitHold = false)) ∧
    (∀ (a n : Nat) (f : Nat → Nat), a = bf k.body 0 8 → n + 8 = k.body.length →
      (1 ≤ n → a + n ≤ 281474976710656 → s.pagesHave c.berth a n Page.inp = true → (∀ ln, (s.line ln).pend = []) → (∀ w ∈ c.writes, w.1 ≤ k.seq) →
        (∀ i, i < n → s.bvaLoc c.berth .load (a + i) = .mem (f i)) → (∀ i j, i < n → j < n → f i = f j → i = j) →
        ∃ t, exec (.windowWrite k) s = .next t ∧ Claims.Leaves t k.conn k.iface k.peer 0x04 (fun _ => True) ∧
          (∀ i, i < n → t.byte (f i) = k.body.getD (8 + i) 0) ∧ ∀ d, (∀ i, i < n → f i ≠ d) → t.byte d = s.byte d) ∧
      (n = 0 → ∃ t, exec (.windowWrite k) s = .next t ∧ Claims.RefusedMsg t k 3 ∧ t.mem = s.mem) ∧
      (1 ≤ n → 281474976710656 < a + n → ∃ t, exec (.windowWrite k) s = .next t ∧ Claims.RefusedMsg t k 2 ∧ t.mem = s.mem) ∧
      (1 ≤ n → a + n ≤ 281474976710656 → s.pagesHave c.berth a n Page.inp = false →
        ∃ t, exec (.windowWrite k) s = .next t ∧ Claims.RefusedMsg t k 1 ∧ t.mem = s.mem)) ∧
    (24 + 16 * bf k.body 2 1 + 2 * bf k.body 20 2 ≤ k.body.length →
      ∃ t h, exec (.order k) s = .next t ∧ t.prf.onWay = s.prf.onWay ++ [h] ∧ h.berth = c.berth ∧ h.named = bf k.body 0 1 ∧
        h.cls = bf k.body 1 1 ∧ h.tag = bf k.body 4 4 ∧ h.program = bf k.body 8 4 ∧ h.size = bf k.body 12 4 ∧
        h.reqSpan = bf k.body 16 4 ∧ h.windows.length = bf k.body 2 1 ∧ h.sessions.length = bf k.body 20 2 ∧
        h.arrival = s.tick ∧ h.port = k.iface / 2 ∧ h.conn = k.conn) ∧
    (∀ p ∈ Claims.controlRows, bf k.body 0 1 = p.2 → k.body.length ≠ 24 → 1 ≤ k.body.length →
      ∃ t, exec (p.1 k) s = .next t ∧ Claims.RefusedMsg t k 3 ∧ t.berths = s.berths))

/-- 16 R349, 04 R85, R105, 06 R163: EVENT_MASK, IFX_THRESHOLD, INSTALL and REMOVE take effect or answer the status that keeps
them from it, in a CONTROL message of the same KIND. -/
def Obligations.ControlMessagesFollowTheTable : Prop :=
  ∀ (s : State) (k : Packet) (c : Conn) (m : Nat) (tell : State → Nat → Prop), Claims.OnSession s k c → Claims.NewSeq c k.seq →
    c.unacked.length < 4096 → k.body.length = 24 → m = bf k.body 0 1 →
    tell = (fun t st => Claims.Leaves t k.conn k.iface k.peer 0x12
      fun b => b = bytesOf 1 m ++ bytesOf 1 st ++ [0, 0] ++ k.body.drop 4) →
    (m = 1 → ∃ t, exec (.eventMask k) s = .next t ∧ (t.berth c.berth).evtMask = BitVec.ofNat 64 (bf k.body 8 8) ∧ tell t 0) ∧
    (m = 2 → bf k.body 8 8 ≤ 256 →
      ∃ t, exec (.ifxThreshold k) s = .next t ∧ (t.berth c.berth).ifx.threshold = bf k.body 8 8 ∧ tell t 0) ∧
    (m = 2 → 256 < bf k.body 8 8 → ∃ t, exec (.ifxThreshold k) s = .next t ∧ t.berths = s.berths ∧ tell t 1) ∧
    (m = 3 → ∀ y, y = s.berth c.berth →
      (s.program c.berth (bf k.body 4 4) = none → (tkeys y.programs).length < 256 →
        (∀ x, s.bake c.berth (bf k.body 8 8) (bf k.body 16 8) = some x →
          (∀ ln, (s.line ln).pend = []) → ∃ t, exec (.install k) s = .next t ∧ t.program c.berth (bf k.body 4 4) = some x ∧ tell t 0) ∧
        (s.bake c.berth (bf k.body 8 8) (bf k.body 16 8) = none →
          (∀ ln, (s.line ln).pend = []) → ∃ t, exec (.install k) s = .next t ∧ t.berths = s.berths ∧ tell t 2)) ∧
      ((s.program c.berth (bf k.body 4 4)).isSome = true ∨ 256 ≤ (tkeys y.programs).length →
        ∃ t, exec (.install k) s = .next t ∧ t.berths = s.berths ∧ tell t 1)) ∧
    (m = 4 →
      (s.program c.berth (bf k.body 4 4) = none → ∃ t, exec (.remove k) s = .next t ∧ t.berths = s.berths ∧ tell t 1) ∧
      ((s.program c.berth (bf k.body 4 4)).isSome = true →
        ((∃ n x, s.order n = some x ∧ x.hdr.berth = c.berth ∧ x.answered = false ∧ x.hdr.program = bf k.body 4 4) →
          ∃ t, exec (.remove k) s = .next t ∧ t.berths = s.berths ∧ tell t 3) ∧
        ((∀ n x, s.order n = some x → x.hdr.berth = c.berth → x.hdr.program = bf k.body 4 4 → x.answered = true) →
          ∃ t, exec (.remove k) s = .next t ∧ t.program c.berth (bf k.body 4 4) = none ∧ tell t 0 ∧
            ∀ j x, s.ctx j = some x → x.berth = c.berth → x.program = bf k.body 4 4 → x.stopping = none →
              (∀ n y, s.order n = some y → y.ctx ≠ j) → t.ctx j = none)))

/-- 16 R339, R341 to R346, R353 to R356, 03 R78: a tenant that proves its key opens a session within the limits; the
device sends its pending events, its heartbeats and its unacknowledged packets again, and loses a silent session; an
interface answers its Neighbor Discovery, ARP and echo frames and counts those of no supported kind or with a bad FCS;
sessions survive a link change, and 15 R320: without its laser an interface does not come up. A command that is not due changes nothing (the model's choice, log entry 2). -/
def Obligations.DeviceMessagesLeaveAsDue : Prop :=
  (∀ (s : State) (k : Packet) (b : Nat), s.ifaceUp k.iface = true → k.ip6 = true ∨ s.ip4On k.iface = true → b = bf k.body 0 1 →
    (k.ver ≠ 1 ∨ k.conn ≠ 0 ∨ k.body.length ≠ 330 ∨ k.authentic = false ∨
        sha384 ((k.body.drop 40).take 97) ≠ (s.berth b).tkeyBytes →
      ∃ t, exec (.openReq k) s = .next t ∧ t.conns = s.conns ∧
        (tget 0 s.authFail (32 + k.iface / 64) < 4294967295 →
          tget 0 t.authFail (32 + k.iface / 64) = tget 0 s.authFail (32 + k.iface / 64) + 1)) ∧
    (k.ver = 1 → k.conn = 0 → k.body.length = 330 → k.authentic = true → (s.berth b).tkey ≠ [] →
      sha384 ((k.body.drop 40).take 97) = (s.berth b).tkeyBytes →
      ((s.berth b).state = 0 ∨ (s.berth b).state = 7 ∨ bitAt (k.iface / 2) (s.berth b).grant.ports = false →
        ∃ t, exec (.openReq k) s = .next t ∧ t.conns = s.conns ∧
          Claims.Leaves t 0 k.iface k.peer 0x02 fun m => m = 1 :: List.replicate 242 0) ∧
      ((s.berth b).state ≠ 0 → (s.berth b).state ≠ 7 → bitAt (k.iface / 2) (s.berth b).grant.ports = true →
        (16 ≤ (s.connsOf b).length ∨ 1024 ≤ (tkeys s.conns).length →
          ∃ t, exec (.openReq k) s = .next t ∧ t.conns = s.conns ∧
            Claims.Leaves t 0 k.iface k.peer 0x02 fun m => m = 2 :: List.replicate 242 0) ∧
        ((s.connsOf b).length < 16 → (tkeys s.conns).length < 1024 → tget [] s.outbox b = [] →
          ∃ t y, exec (.openReq k) s = .next t ∧ t.conn s.nextConn = some y ∧ t.nextConn = s.nextConn + 1 ∧ y.berth = b ∧
            y.iface = k.iface ∧ y.peer = k.peer ∧ y.lastAuth = s.tick ∧ (∀ n, n ≠ s.nextConn → t.conn n = s.conn n) ∧
            Claims.Leaves t s.nextConn k.iface k.peer 0x02 fun m =>
              m.take 16 = [0, 0, 0, 0] ++ bytesOf 4 s.nextConn ++ bytesOf 8 s.sec.bootId.toNat)))) ∧
  (∀ (s : State) (b n : Nat) (c : Conn) (vs : List Nat), s.running = true → (s.connsOf b).getLast? = some n → s.conn n = some c →
    c.unacked.length < 4096 → (s.iface c.iface).up = true →
    vs = (List.range 64).filter (fun v => bitAt v (s.berth b).evtPend && !bitAt v (s.berth b).evtMask) → vs ≠ [] →
    ∃ t, exec (.event b) s = .next t ∧
      Claims.Leaves t n c.iface c.peer 0x22 (fun m => m = bytesOf 1 vs.length ++ [0, 0, 0, 0, 0, 0, 0] ++
        vs.flatMap fun v => bytesOf 1 v ++ [0] ++ bytesOf 2 (tget 0 (s.berth b).evtCount v)) ∧
      (∀ v, v < 64 → bitAt v (t.berth b).evtPend = (bitAt v (s.berth b).evtPend && bitAt v (s.berth b).evtMask)) ∧
      ∀ v, tget 0 (t.berth b).evtCount v = if v ∈ vs then 0 else tget 0 (s.berth b).evtCount v) ∧
  (∀ s : State, s.running = true → ∃ t, exec .deviceHeartbeat s = .next t ∧
    ∀ n c, s.conn n = some c →
      (c.lastHb + 10000 ≤ s.tick → (t.conn n).map Conn.lastHb = some s.tick ∧ ((s.iface c.iface).up = true →
        Claims.Leaves t n c.iface c.peer 0x05 fun m => m = bytesOf 8 s.tick ++ bytesOf 1 (s.berth c.berth).state)) ∧
      (s.tick < c.lastHb + 10000 → t.conn n = some c)) ∧
  (∀ (s : State) (n q : Nat) (c : Conn) (u : Sent), s.running = true → s.conn n = some c →
    c.unacked.find? (fun v => v.seq == q) = some u → (s.iface c.iface).up = true →
    (s.tick < u.since + 10000 → exec (.btpResend n q) s = .next s) ∧
    (u.since + 10000 ≤ s.tick → u.tries < 16 → ∃ t, exec (.btpResend n q) s = .next t ∧
      ∃ raw, t.out = Out.packet n c.iface c.peer u.msg.ty q u.msg.body raw :: s.out ∧
        raw.take 16 = [1] ++ bytesOf 1 u.msg.ty ++ bytesOf 2 u.msg.body.length ++ bytesOf 4 n ++ bytesOf 8 q) ∧
    (u.since + 10000 ≤ s.tick → 16 ≤ u.tries → ∃ t, exec (.btpResend n q) s = .next t ∧ t.conn n = none)) ∧
  (∀ (s : State) (n : Nat) (c : Conn), s.running = true → s.conn n = some c →
    (c.lastAuth + 100000000 ≤ s.tick → ∃ t, exec (.sessionSilenceLoss n) s = .next t ∧ t.conn n = none) ∧
    (s.tick < c.lastAuth + 100000000 → exec (.sessionSilenceLoss n) s = .next s)) ∧
  (∀ (s : State) (i : Nat) (f : List Byte), s.ifaceUp i = true → (s.iface i).vlan = 0 →
    (s.frameKind i f = .arp → ∃ t, exec (.arp i f) s = .next t ∧
      t.out = Out.frame i ((f.drop 6).take 6 ++ macOf i ++ [8, 6, 0, 1, 8, 0, 6, 4, 0, 2] ++ macOf i ++ bytesOf 4 (s.iface i).ip4 ++
        (f.drop 22).take 6 ++ (f.drop 28).take 4) :: s.out) ∧
    (s.frameKind i f = .echo → (s.iface i).mtu < 40 + nf f 18 2 → exec (.icmpv6Echo i f) s = .next s) ∧
    (s.frameKind i f = .echo → 40 + nf f 18 2 ≤ (s.iface i).mtu → ∃ t g, exec (.icmpv6Echo i f) s = .next t ∧ t.out = Out.frame i g :: s.out ∧
      g.take 6 = (f.drop 6).take 6 ∧ (g.drop 22).take 16 = (s.iface i).ip6 ∧ (g.drop 38).take 16 = (f.drop 22).take 16 ∧
      (g.drop 54).take 2 = [129, 0] ∧ g.drop 58 = (cut f 54 (nf f 18 2)).drop 4) ∧
    (s.frameKind i f = .solicit → ∃ t g, exec (.neighborDiscovery i f) s = .next t ∧ t.out = Out.frame i g :: s.out ∧
      (g.drop 22).take 16 = (s.iface i).ip6 ∧ (g.drop 54).take 2 = [136, 0] ∧ (g.drop 62).take 16 = (s.iface i).ip6 ∧
      (g.drop 80).take 6 = macOf i) ∧
    (∀ ok, s.frameKind i f = .other ∨ ok = false → (s.iface i).drop < 4294967295 →
      ∃ t, exec (.otherFrame i { bytes := f, fcsOk := ok }) s = .next t ∧ (t.iface i).drop = (s.iface i).drop + 1)) ∧
  (∀ (s : State) (i : Nat) (b : Bool), s.running = true → s.hasIface i = true → (b = true → s.rst.ready = true ∧ s.aon.moored = false) →
    (b = true → (s.port (i / 2)).laserOk = false → exec (.interfaceLinkChange i b) s = .next s) ∧
    ((b = true → (s.port (i / 2)).laserOk = true) → ∃ t, exec (.interfaceLinkChange i b) s = .next t ∧ (t.iface i).up = b ∧ t.conns = s.conns))

/-! ### Crossing ports -/

/-- 15 R320 to R324, R327, R328, R337, 02 R48: a crossing port comes up through lanes, identity and keys, or is held with
the reason of the step that failed; it tries again after 1 s, after a dark period of 10 ms, and 10 ms after boot without
light; HELLO to FINISH are taken from the KEY flits received, SHARE gives the keys of the next epoch, and FINISH puts them in
use; silence of 4 µs, a rekey that fails or is late, and a laser fault end the link. A command that is not due
changes nothing (the model's choice, log entry 2). -/
def Obligations.CrossingPortsComeUpInStages : Prop :=
  (∀ (s : State) (p : Nat), s.xport p = true →
    (∀ (ms : List Marker) (q : Nat) (d : Word), (s.port p).state = 1 → ms.length = 8 →
      ((∀ m ∈ ms, m.port = q ∧ m.digest = d) → (∀ i, i < 8 → ∃ m ∈ ms, m.lane = i) →
        ∃ t, exec (.laneMarker p ms) s = .next t ∧ (t.port p).partnerPort = q % 64 ∧ (t.port p).partner = d ∧
          (∀ i j, j < 8 → (ms.getD j {}).lane = i → (t.port p).laneMap / 8 ^ i % 8 = j) ∧
          ((t.port p).remapped = false ↔ ∀ j, j < 8 → (ms.getD j {}).lane = j) ∧
          (d ≠ s.ownDigest → (t.port p).state = 2 ∧ (t.port p).stage = 0) ∧
          (d = s.ownDigest → Claims.PortHeld s t p (if q = p then 4 else 5))) ∧
      ((¬ ∃ q d, ∀ m ∈ ms, m.port = q ∧ m.digest = d) ∨ (∃ i, i < 8 ∧ ∀ m ∈ ms, m.lane ≠ i) →
        ∃ t, exec (.laneMarker p ms) s = .next t ∧ Claims.PortHeld s t p 3)) ∧
    (∀ m : List Byte, (s.port p).state = 2 → (s.port p).stage = 0 → Claims.KeyArrived s p 81 m →
      ∃ t, exec (.hello p ((m.drop 33).take 48)) s = .next t ∧ (t.port p).stage = 1 ∧ (t.port p).state = 2 ∧
        (t.port p).partner = BitVec.ofNat 64 (ofBytes ((m.drop 33).take 8)) ∧ (t.port p).partnerPort = (m.getD 32 0).toNat % 64) ∧
    (∀ (ok : Bool) (m identity : List Byte), (s.port p).state = 2 → (s.port p).stage = 1 → Claims.KeyArrived s p 9813 m →
      identity = sha384 ((m.drop 33).take 97) →
      ∃ t, exec (.chain p ok identity) s = .next t ∧
        (ok = false → Claims.PortHeld s t p 7) ∧
        (ok = true → (∃ d, s.partnerId p = some d ∧ d ≠ identity) → Claims.PortHeld s t p 8) ∧
        (ok = true → (∀ d, s.partnerId p = some d → d = identity) → (t.port p).state = 3 ∧ (t.port p).stage = 2)) ∧
    (∀ (ok : Bool) (m : List Byte), (s.port p).state = 3 → (s.port p).stage = 2 → Claims.KeyArrived s p 193 m →
      ∃ t, exec (.share p ok) s = .next t ∧
        (ok = true → (t.port p).state = 3 ∧ (t.port p).stage = 3 ∧ Claims.KeysDerived s t p m) ∧
        (ok = false → Claims.PortHeld s t p 9)) ∧
    (∀ (ok : Bool) (m : List Byte), (s.port p).state = 3 → (s.port p).stage = 3 → Claims.KeyArrived s p 48 m →
      ∃ t, exec (.finish p ok) s = .next t ∧
        (ok = true → (t.port p).state = 4 ∧ (t.port p).stage = 4 ∧ (t.port p).keys.tx = (s.port p).keys.nextTx ∧
          (t.port p).keys.rx = (s.port p).keys.nextRx) ∧
        (ok = false → Claims.PortHeld s t p 9)) ∧
    (∀ ok : Bool, (s.port p).state = 4 → (s.port p).stage = 4 → Claims.Bare s p →
      (∀ m, Claims.KeyArrived s p 193 m → ∃ t, exec (.share p ok) s = .next t ∧
        (ok = true → (t.port p).state = 4 ∧ (t.port p).rekey.isSome = true ∧ (t.port p).shareOk = true ∧ Claims.KeysDerived s t p m) ∧
        (ok = false → Claims.PortLost s t p 5)) ∧
      (∀ m, Claims.KeyArrived s p 48 m → (s.port p).rekey.isSome = true → ∃ t, exec (.finish p ok) s = .next t ∧
        (ok = true → (s.port p).shareOk = true →
          (t.port p).state = 4 ∧ (t.port p).rekey = none ∧ (t.port p).txEpoch = (!(s.port p).txEpoch) ∧
          (t.port p).keys.tx = (s.port p).keys.nextTx) ∧
        (ok = false ∨ (s.port p).shareOk = false → Claims.PortLost s t p 5))) ∧
    ((s.port p).state = 1 →
      ((s.port p).since + 500000 ≤ s.tick → ∃ t, exec (.noLaneMarkerTimeout p) s = .next t ∧ Claims.PortHeld s t p 6) ∧
      (s.tick < (s.port p).since + 500000 → exec (.noLaneMarkerTimeout p) s = .next s)) ∧
    ((s.port p).light = false →
      ∃ t, exec (.lightDetected p) s = .next t ∧ (t.port p).light = true ∧
        ((s.port p).darkEnd = none → (s.port p).state = 0 ∨ (s.port p).holdReason = 1 → Claims.BringupBegun s t p)) ∧
    ((s.port p).light = true →
      ∃ t, exec (.lossOfLight p) s = .next t ∧ (t.port p).light = false ∧
        (1 ≤ (s.port p).state → (s.port p).state ≤ 3 → Claims.PortHeld s t p 1) ∧
        ((s.port p).state = 4 → (t.port p).state = 4)) ∧
    ((s.port p).state = 5 →
      ((s.port p).since + 10000000 ≤ s.tick → ∃ t, exec (.bringupRetry p) s = .next t ∧ Claims.BringupBegun s t p) ∧
      (s.tick < (s.port p).since + 10000000 → exec (.bringupRetry p) s = .next s)) ∧
    (∀ e, (s.port p).darkEnd = some e →
      (e ≤ s.tick → ∃ t, exec (.darkPeriodEnd p) s = .next t ∧ Claims.BringupBegun s t p) ∧
      (s.tick < e → exec (.darkPeriodEnd p) s = .next s)) ∧
    ((s.port p).darkEnd = none → (s.port p).state = 0 → (s.port p).light = false →
      (s.rst.readyTick + 100000 ≤ s.tick → ∃ t, exec (.darkPeriodEnd p) s = .next t ∧ Claims.BringupBegun s t p) ∧
      (s.tick < s.rst.readyTick + 100000 → exec (.darkPeriodEnd p) s = .next s)) ∧
    ((s.port p).state = 4 ∨ (s.port p).state = 6 →
      ((s.port p).lastFlit + 40 ≤ s.tick → (s.port p).stage = 4 → Claims.Bare s p →
        ∃ t, exec (.noFlitTimeout p) s = .next t ∧ Claims.PortLost s t p (if (s.port p).light then 2 else 1)) ∧
      ((s.port p).lastFlit + 40 ≤ s.tick → (s.port p).stage ≠ 4 →
        ∃ t, exec (.noFlitTimeout p) s = .next t ∧ Claims.BringupBegun s t p) ∧
      (s.tick < (s.port p).lastFlit + 40 → exec (.noFlitTimeout p) s = .next s)) ∧
    ((s.port p).state = 4 → (s.port p).rekey = none →
      (34359738368 ≤ 625 * (s.tick - min (s.port p).txSince (s.port p).rxSince) →
        ∃ t, exec (.keyEpochChange p) s = .next t ∧ (t.port p).rekey = some s.tick ∧ (t.port p).state = 4) ∧
      (625 * (s.tick - min (s.port p).txSince (s.port p).rxSince) < 34359738368 → exec (.keyEpochChange p) s = .next s)) ∧
    (∀ u, (s.port p).state = 4 → (s.port p).rekey = some u → Claims.Bare s p →
      (2147483648 ≤ 625 * (s.tick - u) → ∃ t, exec (.keyExchangeTimeout p) s = .next t ∧ Claims.PortLost s t p 5) ∧
      (625 * (s.tick - u) < 2147483648 → exec (.keyExchangeTimeout p) s = .next s))) ∧
  (∀ (s : State) (n : Nat), s.running = true → n < 16 →
    ((∀ i, i < 4 → Claims.Bare s (4 * n + i)) →
      ∃ t, exec (.laserFault n) s = .next t ∧ ∀ i, i < 4 → (t.port (4 * n + i)).laserOk = false ∧
        ((s.port (4 * n + i)).mode = 1 → Claims.PortHeld s t (4 * n + i) 2 ∧ ((s.port (4 * n + i)).carries = true →
          (t.port (4 * n + i)).lastCause = 1)) ∧
        ((s.port (4 * n + i)).mode = 2 ∨ (s.port (4 * n + i)).mode = 3 →
          Claims.PortHeld s t (4 * n + i) 2 ∧
          (t.iface (8 * n + 2 * i)).up = false ∧ (t.iface (8 * n + 2 * i + 1)).up = false)) ∧
    ((∃ i, i < 4 ∧ (s.port (4 * n + i)).laserOk = false) →
      ∃ t, exec (.laserInsert n) s = .next t ∧ ∀ i, i < 4 → (t.port (4 * n + i)).laserOk = true ∧
        ((s.port (4 * n + i)).state = 5 →
          (s.xport (4 * n + i) = true → Claims.BringupBegun s t (4 * n + i)) ∧
          (s.xport (4 * n + i) = false → (t.port (4 * n + i)).state = 0))))

/-- 15 R325, R326, R328, R330, R331: flits are taken in sequence and acknowledged; a NAK has every flit from ACK_SEQ on sent again,
and the 16th for one sequence number loses the link, as a tag that fails and an unknown OP do; a flit of a TYPE above 3 is answered
by a NAK; ALLSTOP holds the link or a bring-up, at a device in all-stop too, which goes on sending heartbeats; a DATA flit
brings its message, a KEY flit bytes of the key exchange; a heartbeat's 256 bytes begin with its header and end with their
CRC. -/
def Obligations.FlitsArriveInSequence : Prop :=
  ∀ (s : State) (p : Nat) (x : Port), x = s.port p →
    (∀ f : FlitIn, Claims.FlitArrives s p f →
      (f.ty = 0 → f.nak = false → ∃ t, exec (.idleFlit p f) s = .next t ∧ (t.port p).replay = Claims.kept x f.ack ∧
        (t.port p).fecCe = x.fecCe + f.corrected ∧ (x.state ≠ 6 → (t.port p).lastFlit = s.tick) ∧ (t.port p).state = x.state) ∧
      (f.ty = 0 → f.nak = true → x.state ≠ 6 → (x.nakSeq ≠ f.ack ∨ x.nakCount < 15) →
        ∃ t, exec (.nak p f) s = .next t ∧ (t.port p).replay = Claims.kept x f.ack ∧ (t.port p).state = x.state ∧
          (t.port p).retry = x.retry + (Claims.kept x f.ack).length ∧ (t.port p).nakSeq = f.ack ∧
          (t.port p).nakCount = (if x.nakSeq = f.ack then x.nakCount + 1 else 1) ∧
          Claims.sent t = ((Claims.kept x f.ack).map fun u =>
            Out.flit p u.ty (if x.txEpoch then 1 else 0) u.seq x.expSeq u.body []).reverse ++ Claims.sent s) ∧
      (f.ty = 0 → f.nak = true → x.state = 4 → x.stage = 4 → x.nakSeq = f.ack → 15 ≤ x.nakCount → Claims.Bare s p →
        ∃ t, exec (.nak p f) s = .next t ∧ Claims.PortLost s t p 3) ∧
      (f.ty = 2 → f.nak = false → ∃ t, exec (.heartbeatFlit p f) s = .next t ∧ (t.port p).lastFlit = s.tick ∧
        (f.allstop = false → (t.port p).state = x.state) ∧ (f.allstop = true → 2 ≤ x.state → x.state ≤ 4 → (t.port p).state = 6)) ∧
      (f.ty = 1 ∨ f.ty = 3 → f.nak = false →
        (f.seq ≠ x.expSeq → ∃ t, exec (.dataFlit p f) s = .next t ∧ (t.port p).expSeq = x.expSeq ∧ (t.port p).inq = x.inq) ∧
        (f.seq = x.expSeq → f.ty = 3 → ∃ t, exec (.dataFlit p f) s = .next t ∧
          (t.port p).expSeq = (x.expSeq + 1) % 16777216 ∧ (t.port p).inq = x.inq ∧ (t.port p).keyRx = x.keyRx ++ f.body) ∧
        (∀ m, f.seq = x.expSeq → f.ty = 1 → x.state = 4 → x.stage = 4 → x.rx = [] → Claims.WholeMsg m →
          f.body = Claims.msgBytes m ++ List.replicate (232 - (Claims.msgBytes m).length) 0 →
          ∃ t, exec (.dataFlit p f) s = .next t ∧ (t.port p).expSeq = (x.expSeq + 1) % 16777216 ∧
            (t.port p).inq = x.inq ++ [m] ∧ (t.port p).rx = []) ∧
        (∀ op rest, f.seq = x.expSeq → f.ty = 1 → x.state = 4 → x.stage = 4 → x.rx = [] → f.body = bytesOf 1 op ++ rest →
          7 ≤ rest.length → op < 256 → op ∉ [0, 1, 2, 3, 4, 0x81, 0x82, 0x83, 0x84] → Claims.Bare s p →
          ∃ t, exec (.dataFlit p f) s = .next t ∧ Claims.PortLost s t p 4))) ∧
    (∀ f : FlitIn, s.xport p = true → x.state = 4 → x.stage = 4 → f.tagOk = false → Claims.Bare s p →
      ∀ q ∈ [(Instr.idleFlit p f, 0), (.heartbeatFlit p f, 2), (.dataFlit p f, 1), (.dataFlit p f, 3)], f.ty = q.2 → f.nak = false →
        ∃ t, exec q.1 s = .next t ∧ Claims.PortLost s t p 4) ∧
    (∀ ue : Bool, s.xport p = true → 2 ≤ x.state → x.state < 5 → x.fecUe < 4294967294 →
      ∃ t, exec (.badFlit p ue) s = .next t ∧ (t.port p).fecUe = x.fecUe + (if ue then 1 else 0) ∧
        Claims.sent t = Out.flit p 0 (4 + if x.txEpoch then 1 else 0) x.nextSeq x.expSeq [] [] :: Claims.sent s) ∧
    (∀ f : FlitIn, s.xport p = true → 2 ≤ x.state → x.state < 5 → 3 < f.ty → ∃ t, exec (.dataFlit p f) s = .next t ∧
      (t.port p).expSeq = x.expSeq ∧
      Claims.sent t = Out.flit p 0 (4 + if x.txEpoch then 1 else 0) x.nextSeq x.expSeq [] [] :: Claims.sent s) ∧
    (s.failed = none → s.rst.ready = true → p < 64 → x.mode = 1 →
      (x.stage = 4 ∧ (x.state = 4 ∨ x.state = 6)) ∨ (s.stopped = true ∧ 2 ≤ x.state ∧ x.state ≠ 5) →
      ∃ t raw flags, exec (.heartbeatFlitSend p) s = .next t ∧ (t.port p).lastHb = s.tick ∧
        flags = (if x.txEpoch then 1 else 0) + (if s.stopped then 2 else 0) ∧ Claims.Framed raw 2 flags x.nextSeq x.expSeq ∧
        t.out = Out.flit p 2 flags x.nextSeq x.expSeq (bytesOf 1 (if s.stopped then 1 else 0) ++ List.replicate 231 0) raw :: s.out) ∧
    (∀ f : FlitIn, s.stopped = true → s.failed = none → s.rst.ready = true → p < 64 → x.mode = 1 → 2 ≤ x.state → x.state ≤ 4 →
      (x.carries = true → f.tagOk = true) → f.ty = 2 →
      ∃ t, exec (.heartbeatFlit p f) s = .next t ∧ (t.port p).lastFlit = s.tick ∧
        (t.port p).state = if f.allstop then 6 else x.state)

/-- 15 R331, R333 to R335: a partner's request is performed where its export entry leads and answered DATA, WACK or ARSP with
its tag, or FAULT where the entry does not serve it; a response completes the request of its tag, and FAULT tears down the
context that asked. No atomic of a narrower scope stands open (05 R127), and no transaction or pending reduction stands on
the line. -/
def Obligations.CrossingRequestsAreServed : Prop :=
  (∀ (s : State) (p : Nat) (m : XMsg) (n a : Nat), n = Claims.sizeOf m → (s.line (a / 128)).pend = [] →
    (s.line (a / 128)).isBusy = false → (∀ q ∈ s.marks, 6 ≤ q.scope ∨ 6 ≤ q.rel) →
    (Claims.Asked s p 0x01 m → Claims.EntryServes s p m false → Claims.entryLoc s p m .load = .mem a → m.size ≤ 1 →
      ∃ t, exec (.crossRd p) s = .next t ∧
        Claims.Responds s t p (bytesOf 8 (0x81 + m.tag * 2 ^ 8 + m.size * 2 ^ 57) ++ (List.range n).map fun i => s.byte (a + i)) ∧
        ∀ d, t.byte d = s.byte d) ∧
    (Claims.Asked s p 0x02 m → Claims.EntryServes s p m true → Claims.entryLoc s p m .store = .mem a → s.dpaLoc a = .mem a →
      m.size ≤ 1 → m.body.length = n + (if m.ms then n / 8 else 0) →
      ∃ t, exec (.crossWr p) s = .next t ∧ Claims.Responds s t p (bytesOf 8 (0x82 + m.tag * 2 ^ 8)) ∧
        (∀ i, i < n → t.byte (a + i) =
          if m.ms = false then m.body.getD i 0
          else if (ofBytes (m.body.take (n / 8))).testBit i then m.body.getD (n / 8 + i) 0 else s.byte (a + i)) ∧
        ∀ d, (d < a ∨ a + n ≤ d) → t.byte d = s.byte d) ∧
    (∀ q ∈ [(Instr.crossAtm p, 0x03), (.crossRed p, 0x04)], Claims.Asked s p q.2 m → Claims.EntryServes s p m true →
      Claims.entryLoc s p m .store = .mem a → s.dpaLoc a = .mem a → 2 ≤ m.size → m.body.length = (if m.fn = 7 then 16 else 8) →
      7 ≤ m.fn → m.fn < 16 → (q.2 = 0x04 → 8 ≤ m.fn ∧ m.fn ≤ 0xB) → (m.fn = 9 → m.size = 2) →
      ∃ t, exec q.1 s = .next t ∧
        Claims.Responds s t p (if q.2 = 0x03 then bytesOf 8 (0x83 + m.tag * 2 ^ 8) ++ bytesOf 8 (Claims.memValue s a n)
          else bytesOf 8 (0x82 + m.tag * 2 ^ 8)) ∧
        Claims.memValue t a n = Claims.crossLeft m.fn n m.ms (Claims.memValue s a n) (ofBytes (m.body.take n))
          (ofBytes ((m.body.drop 8).take n)) ∧
        ∀ d, (d < a ∨ a + n ≤ d) → t.byte d = s.byte d) ∧
    (∀ q ∈ [(Instr.crossRd p, 0x01), (.crossWr p, 0x02), (.crossAtm p, 0x03), (.crossRed p, 0x04)], Claims.Asked s p q.2 m →
      (¬ Claims.EntryServes s p m (q.2 ≠ 0x01)) ∨
        (∃ l, l = Claims.entryLoc s p m (if q.2 = 0x01 then .load else .store) ∧ ∀ d, l ≠ .mem d ∧ l ≠ .lost d) →
      ∃ t, exec q.1 s = .next t ∧ Claims.Responds s t p (bytesOf 8 (0x84 + m.tag * 2 ^ 8 + 2 ^ 20)) ∧ ∀ d, t.byte d = s.byte d)) ∧
  (∀ (s : State) (p : Nat) (m : XMsg) (q : List XMsg) (r : XReq), s.running = true → (s.port p).inq = m :: q →
    (s.port p).waitq = [] → (s.port p).outbound.find? (fun o => o.msg.tag == m.tag) = some r →
    (∀ e ∈ [(Instr.crossData p, 0x81, [1]), (.wack p, 0x82, [2, 4]), (.arsp p, 0x83, [3])], m.op = e.2.1 → r.msg.op ∈ e.2.2 →
      r.waiter = .none → m.addr % 256 = 0 →
      ∃ t, exec e.1 s = .next t ∧ (t.port p).inq = q ∧
        (t.port p).outbound = (s.port p).outbound.filter (fun o => o.msg.tag ≠ m.tag)) ∧
    (∀ n, m.op = 0x81 → r.msg.op = 1 → r.waiter = .result n → r.parked = false → m.addr % 256 = 0 →
      ∃ t, exec (.crossData p) s = .next t ∧ (t.port p).inq = q ∧
        t.sends = s.sends.map fun d => if d.num = n then
          { d with open_ := d.open_ - 1, got := d.got ++ [(p * apSize / 64 + r.msg.addr / 64, m.body)] } else d) ∧
    (∀ id hold lane c k x, m.op = 0x84 → r.waiter = .group id hold lane → s.placeOf id = some c → (s.core c.core).ctx = some k → s.ctx k = some x →
      x.stopping = none → ∃ t, exec (.crossFault p) s = .next t ∧ (t.port p).inq = q ∧ Claims.TearsDown s t k 7 0x06 ∧
        ((s.core c.core).faultNew = false → (t.core c.core).cause = 0x06)))

/-! ### The directory -/

/-- 10 R229, R231, R234, R239: a request on a line that is present and free has the effect of its cell of the table "Directory
transitions"; an absent line is filled first; a line that is BUSY or reserved NACKs it, and a RED joins the line's pending
reductions instead; behind those every other request waits (11 R253); WB merges the owner's bytes and ends the ownership. -/
def Obligations.RequestsFollowTheDirectoryTable : Prop :=
  ∀ p ∈ Claims.cohRows, ∀ (s : State) (req r : CohReq) (x : Line), r = { req with kind := p.2, nacks := 0, keep := true } →
    Claims.Reaches s r → x = s.line r.line →
    (x.present = true → Claims.Free x → x.valid = BitVec.allOnes 128 →
      (x.dir = .uncached → ∃ t, exec (p.1 req) s = .next t ∧ Claims.Completed s t r) ∧
      (x.dir = .shared →
        (p.2 = .rd → ∃ t, exec (p.1 req) s = .next t ∧ (t.line r.line).dir = .shared ∧ (t.line r.line).busy = none ∧
          CohMsg.toReq r.line r.who .shared (s.lineBytes r.line) 0 ∈ t.cohMsgs ∧ (∀ d, t.byte d = s.byte d) ∧
          ((t.line r.line).overflow = true ∨ r.who ∈ (t.line r.line).ptrs) ∧
          ((t.line r.line).overflow = (x.overflow || (decide (r.who ∉ x.ptrs) && decide (3 ≤ x.ptrs.length)))) ∧
          (∀ n ∈ (t.line r.line).ptrs, n = r.who ∨ n ∈ x.ptrs)) ∧
        (p.2 = .nrd → ∃ t, exec (p.1 req) s = .next t ∧ t.line r.line = x ∧
          CohMsg.toReq r.line r.who .nothing (s.lineBytes r.line) 0 ∈ t.cohMsgs ∧ ∀ d, t.byte d = s.byte d) ∧
        (p.2 ≠ .rd → p.2 ≠ .nrd → (∀ n ∈ x.ptrs, n < 96) → x.ptrs.Nodup →
          (Claims.roundOf s r = [] → ∃ t, exec (p.1 req) s = .next t ∧
            (p.2 = .upg → r.who ∈ x.ptrs → Claims.Upgraded s t r) ∧
            (p.2 ≠ .upg ∨ r.who ∉ x.ptrs → Claims.Completed s t r)) ∧
          (Claims.roundOf s r ≠ [] → ∃ t, exec (p.1 req) s = .next t ∧
            (t.line r.line).busy = some { req := r, waits := (Claims.roundOf s r).length,
                                          ackOnly := decide (p.2 = .upg ∧ r.who ∈ x.ptrs) } ∧
            (∀ n, CohMsg.inv r.line n ∈ t.cohMsgs ↔ CohMsg.inv r.line n ∈ s.cohMsgs ∨ n ∈ Claims.roundOf s r) ∧
            ∀ d, t.byte d = s.byte d))) ∧
      (x.dir = .owned → ∃ t, exec (p.1 req) s = .next t ∧ (t.line r.line).busy = some { req := r, waits := 1 } ∧
        (if p.2 = .rd ∨ p.2 = .nrd then CohMsg.fwdS r.line (x.ptrs.getD 0 0) else CohMsg.fwdX r.line (x.ptrs.getD 0 0)) ∈ t.cohMsgs ∧
        ∀ d, t.byte d = s.byte d)) ∧
    (x = {} → (s.waysUsed r.line).length < 16 →
      (p.2 ∈ [ReqKind.rd, .rdo, .upg, .nrd, .atm] → ∃ t, exec (p.1 req) s = .next t ∧
        t.line r.line = { present := true, way := (t.line r.line).way, filling := true, busy := some { req := r } } ∧
        ∀ d, t.byte d = s.byte d) ∧
      (p.2 = .own ∨ p.2 = .nwr → ∃ t, exec (p.1 req) s = .next t ∧ Claims.Completed s t r ∧ (t.line r.line).present = true) ∧
      (p.2 = .red → s.pendingOf (s.home r.line) < 256 → ∃ t, exec (p.1 req) s = .next t ∧
        t.line r.line = { present := true, way := (t.line r.line).way, filling := true, pend := [r] } ∧ ∀ d, t.byte d = s.byte d)) ∧
    (p.2 ≠ .red → x.busy = none → x.filling = false → x.prio = none → x.pend ≠ [] → ∃ t, exec (p.1 req) s = .next t ∧
      (t.slice (s.home r.line)).intake = (s.slice (s.home r.line)).intake ++ [r] ∧ t.line r.line = x ∧ ∀ d, t.byte d = s.byte d) ∧
    (x.busy.isSome = true ∨ x.filling = true ∨ (p.2 = .red ∧ x.pend ≠ []) →
      (p.2 ≠ .red → ∃ t, exec (p.1 req) s = .next t ∧ Claims.Nacked s t r (s.slice (s.home r.line)).intake) ∧
      (p.2 = .red → s.pendingOf (s.home r.line) < 256 → ∃ t, exec (p.1 req) s = .next t ∧
        t.line r.line = { x with pend := x.pend ++ [r] } ∧ ∀ d, t.byte d = s.byte d) ∧
      (p.2 = .red → 256 ≤ s.pendingOf (s.home r.line) →
        ∃ t, exec (p.1 req) s = .next t ∧ Claims.Nacked s t r (s.slice (s.home r.line)).intake)) ∧
    (x.prio.isSome = true → p.2 ≠ .red →
      ∃ t, exec (p.1 req) s = .next t ∧ Claims.Nacked s t r (s.slice (s.home r.line)).intake) ∧
    (∀ w : CohReq, w = { req with kind := .wb, nacks := 0, keep := true } → w.fits = true → s.mayHold w.line w.who = true → x.present = true → (s.copy r.line w.who).owned = true →
      ∃ t, exec (.wb req) s = .next t ∧ t.copy r.line w.who = {} ∧
        (∀ d, t.byte d = if d / 128 = r.line ∧ w.mask.getLsbD (d % 128) = true then w.data.getD (d % 128) 0 else s.byte d) ∧
        (x.busy = none → x.filling = false → (t.line r.line).dir = .uncached ∧ (t.line r.line).ptrs = []))

/-- 10 R227, R231 to R235, R237, R239, 12 R263, R269, R279: forwards and invalidations act on the cluster's copy and answer the slice; the last
reply ends the transaction; a NACKed request is looked up again, with priority after its fourth NACK; pending reductions are
performed in order, and the end of a fill lets its request go on; a victim leaves its way once its copies have; a controller
counts corrected reads and keeps a package's refresh code. -/
def Obligations.TransactionsRunToTheirEnd : Prop :=
  (∀ (s : State) (ln n : Nat) (u : Txn) (r : CohReq) (c : Copy), s.running = true → c = s.copy ln n →
    (s.line ln).busy = some u → u.req = r → s.grantFlying ln n = false →
    (∀ q ∈ [(Instr.fwdS ln n, CohMsg.fwdS ln n), (.fwdX ln n, .fwdX ln n)], q.2 ∈ s.cohMsgs →
      ((s.cluster n).asleep = true ∨ c.owned = false → ∃ t, exec q.1 s = .next t ∧ CohMsg.toSlice ln n true false 0 ∈ t.cohMsgs ∧
        t.copy ln n = c) ∧
      ((s.cluster n).asleep = false → c.owned = true → c.valid ≠ BitVec.allOnes 128 → ∃ t, exec q.1 s = .next t ∧
        CohMsg.toSlice ln n true false c.dirty ∈ t.cohMsgs ∧ t.copy ln n = {})) ∧
    ((s.cluster n).asleep = false → c.owned = true → c.valid = BitVec.allOnes 128 →
      (CohMsg.fwdS ln n ∈ s.cohMsgs → ∃ t, exec (.fwdS ln n) s = .next t ∧ t.copy ln n = { c with owned := false, dirty := 0 } ∧
        CohMsg.toSlice ln n true true c.dirty ∈ t.cohMsgs ∧
        CohMsg.toReq ln r.who (if r.kind = .rd ∧ r.keep = true then .shared else .nothing) (s.lineBytes ln) 0 ∈ t.cohMsgs) ∧
      (CohMsg.fwdX ln n ∈ s.cohMsgs → u.evict = false → r.kind = .rdo ∨ r.kind = .upg → ∃ t, exec (.fwdX ln n) s = .next t ∧ t.copy ln n = {} ∧
        CohMsg.toSlice ln n true true 0 ∈ t.cohMsgs ∧ CohMsg.toReq ln r.who .owned (s.lineBytes ln) c.dirty ∈ t.cohMsgs) ∧
      (CohMsg.fwdX ln n ∈ s.cohMsgs → u.evict = true ∨ (r.kind ≠ .rdo ∧ r.kind ≠ .upg) → ∃ t, exec (.fwdX ln n) s = .next t ∧ t.copy ln n = {} ∧
        CohMsg.toSlice ln n true false c.dirty ∈ t.cohMsgs))) ∧
  (∀ (s : State) (ln n : Nat), s.running = true → CohMsg.inv ln n ∈ s.cohMsgs →
    ∃ t, exec (.inv ln n) s = .next t ∧ CohMsg.toSlice ln n false false 0 ∈ t.cohMsgs ∧
      ((s.copy ln n).owned = false → t.copy ln n = {}) ∧ (∀ b d, CohMsg.toReq ln n .shared b d ∉ t.cohMsgs) ∧
      (∀ r ∈ (t.slice (s.home ln)).intake, r.kind = .rd → r.line = ln → r.who = n → r.keep = false) ∧
      ∀ d, t.byte d = s.byte d) ∧
  (∀ (s : State) (ln src who : Nat) (x : Line) (u : Txn) (r : CohReq) (dirty : BitVec 128) (data : List Byte) (keep : Keep),
    s.running = true → x = s.line ln → u.req = r → r.line = ln → (r.op = .fadd → r.bytes = 4) →
    (s.cohMsgs.find? (CohMsg.replyOf ln) = some (.toSlice ln src true true dirty) → x.busy = some u → u.evict = false →
      r.kind ∈ [ReqKind.rd, .nrd, .rdo, .upg] → ∃ t, exec (.cohReply ln) s = .next t ∧ (t.line ln).busy = none ∧
        (r.kind = .rd → (t.line ln).dir = .shared ∧ ∀ n, n ∈ (t.line ln).ptrs ↔ n = src ∨ n = r.who) ∧
        (r.kind = .nrd → (t.line ln).dir = .shared ∧ (t.line ln).ptrs = [src]) ∧
        (r.kind = .rdo ∨ r.kind = .upg → (t.line ln).dir = .owned ∧ (t.line ln).ptrs = [r.who])) ∧
    (s.cohMsgs.find? (CohMsg.replyOf ln) = some (.toSlice ln src true false dirty) → x.busy = some u → u.evict = false →
      x.valid ||| dirty = BitVec.allOnes 128 → r.kind ≠ .wb →
      ∃ t, exec (.cohReply ln) s = .next t ∧ Claims.Completed s t r) ∧
    (s.cohMsgs.find? (CohMsg.replyOf ln) = some (.toSlice ln src false false dirty) → x.busy = some u →
      (2 ≤ u.waits → ∃ t, exec (.cohReply ln) s = .next t ∧ t.line ln = { x with busy := some { u with waits := u.waits - 1 } }) ∧
      (u.waits = 1 → u.evict = false → u.ackOnly = true → ∃ t, exec (.cohReply ln) s = .next t ∧ Claims.Upgraded s t r) ∧
      (u.waits = 1 → u.evict = false → u.ackOnly = false → x.valid = BitVec.allOnes 128 → r.kind ≠ .wb →
        ∃ t, exec (.cohReply ln) s = .next t ∧ Claims.Completed s t r)) ∧
    (s.cohMsgs.find? (CohMsg.replyOf ln) = some (.toReq ln who keep data dirty) →
      ∃ t, exec (.cohReply ln) s = .next t ∧ t.out = Out.coh who ln (if data = [] then 1 else 0) data :: s.out ∧
        t.copy ln who = (match (if s.mayHold ln who then keep else .nothing) with
          | .nothing => s.copy ln who
          | .shared => { held := true, valid := BitVec.allOnes 128 }
          | .owned => { held := true, owned := true, valid := BitVec.allOnes 128, dirty := dirty }
          | .empty => { held := true, owned := true }
          | .upgrade => { s.copy ln who with held := true, owned := true }))) ∧
  (∀ (s : State) (ln src : Nat) (u : Txn) (sent : Bool) (dirty : BitVec 128), s.running = true → (s.line ln).busy = some u →
    u.evict = true → u.req.line ≠ ln →
    s.cohMsgs.find? (CohMsg.replyOf ln) = some (.toSlice ln src true sent dirty) ∨
      (s.cohMsgs.find? (CohMsg.replyOf ln) = some (.toSlice ln src false sent dirty) ∧ u.waits = 1) →
    ∃ t, exec (.cohReply ln) s = .next t ∧ (t.line ln).present = false) ∧
  (∀ (s : State) (sl : Nat) (r : CohReq) (q : List CohReq) (x : Line), s.running = true → (s.slice sl).intake = r :: q →
    sl = s.home r.line → x = s.line r.line → r.kind ≠ .wb → (r.op = .fadd → r.bytes = 4) →
    (r.nacks < 4 → r.kind ≠ .red → x.busy.isSome = true → ∃ t, exec (.nackReissue sl) s = .next t ∧ Claims.Nacked s t r q) ∧
    (r.nacks < 4 → x.present = true → Claims.Free x → x.dir = .uncached → x.valid = BitVec.allOnes 128 →
      ∃ t, exec (.nackReissue sl) s = .next t ∧ (t.slice sl).intake = q ∧ Claims.Completed s t r) ∧
    (4 ≤ r.nacks → r.kind ≠ .red → x.prio = none → x.busy.isSome = true → ∃ t, exec (.nackReissue sl) s = .next t ∧
      t.line r.line = { x with prio := some r.who } ∧ (t.slice sl).intake = r :: q) ∧
    (4 ≤ r.nacks → r.kind ≠ .red → x.prio = none ∨ x.prio = some r.who → x.present = true → x.busy = none → x.filling = false → x.pend = [] →
      x.dir = .uncached → x.valid = BitVec.allOnes 128 →
      ∃ t, exec (.nackReissue sl) s = .next t ∧ (t.slice sl).intake = q ∧ (t.line r.line).prio = none ∧ Claims.Completed s t r)) ∧
  (∀ (s : State) (ln : Nat) (x : Line) (r : CohReq) (rest : List CohReq), s.running = true → x = s.line ln → x.present = true →
    x.busy = none → x.filling = false → x.pend = r :: rest → r.line = ln → r.kind = .red → x.dir = .uncached →
    x.valid = BitVec.allOnes 128 → (r.op = .fadd → r.bytes = 4) →
    ∃ t, exec (.pendingReductionPerform ln) s = .next t ∧ (t.line ln).pend = rest ∧ Claims.Completed s t r) ∧
  (∀ (s : State) (ln : Nat) (x : Line) (rep : MemReport), s.running = true → s.dpaLoc (ln * 128) = .mem (ln * 128) → x = s.line ln →
    (∀ u, x.filling = true → x.busy = some u → u.req.line = ln → u.req.kind ≠ .wb → (u.req.op = .fadd → u.req.bytes = 4) →
      x.dir = .uncached → ∃ t, exec (.memoryRequestComplete ln .fill rep) s = .next t ∧ (t.line ln).filling = false ∧
        BitVec.allOnes 128 = (t.line ln).valid ∧ Claims.Completed s t u.req) ∧
    (∀ work, work ≠ .fill → ∃ t, exec (.memoryRequestComplete ln work rep) s = .next t ∧ t.line ln = x ∧ (∀ d, t.byte d = s.byte d) ∧
      (rep.corrected = true → work ≠ .writeBack → ln * 128 < lpxBase →
        ∀ k, k = pcStack (s.pcOf (ln * 128)).1 → (s.stack k).ce < 4294967294 → (t.stack k).ce = (s.stack k).ce + 1) ∧
      (rep.corrected = true → work ≠ .writeBack → lpxBase ≤ ln * 128 →
        ∀ i, i = s.pkgOf (ln * 128) / 8 → (s.lpxOf i).ce < 4294967294 → (t.lpxOf i).ce = (s.lpxOf i).ce + 1) ∧
      (lpxBase ≤ ln * 128 → ∀ p, p = s.pkgOf (ln * 128) → (t.lpxOf (p / 8)).ref / 16 ^ (p % 8) % 16 = rep.refresh % 16) ∧
      ∀ b, rep.vc2 = some b → s.berthAssured b = true → ln * 128 < lpxBase → 1024 ≤ s.creditOf (s.pcOf (ln * 128)).1 b →
        t.creditOf (s.pcOf (ln * 128)).1 b =
          s.creditOf (s.pcOf (ln * 128)).1 b - 1024 * (if work = .writeBack then 2 else 4)))

/-! ### Islands, halves and power -/

/-- 01 R23 to R25, 18 R386 to R389, 21 R471: an island wakes for a flit and sleeps once it has been idle; a half clocks
down once its islands have slept; both halves of a die go off and on by command, with what their memories hold; a
steward domain is toggled unless it must stay on. The cause of a teardown by a flit into an off die is the model's choice (log
entry 75), and so is that a command that is not due changes nothing (log entry 2). -/
def Obligations.IslandsAndHalvesFollowTheirWork : Prop :=
  (∀ (s : State) (n src : Nat) (ctx : Option Nat) (c : Cluster), s.running = true → n < 96 → c = s.cluster n →
    (s.halfOff n = true → ∃ t, exec (.flitToAsleepIsland n src ctx) s = .next t ∧ (t.die src).csErr = true ∧
      ∀ k x, ctx = some k → s.ctx k = some x → x.stopping = none → Claims.TearsDown s t k 7 0x06) ∧
    (s.halfOff n = false → c.asleep = true →
      ∃ t, exec (.flitToAsleepIsland n src ctx) s = .next t ∧ (t.cluster n).asleep = true ∧ (t.cluster n).waking = true ∧
        (t.cluster n).waitFlits = c.waitFlits + 1 ∧ (c.waking = false → s.halfOf n = 1 → t.halfOf n = 2) ∧
        (c.waking = false → c.test.isSome = true → (t.cluster n).test = none ∧ (t.die (n / 12)).rpr.result = 3)) ∧
    (s.halfOff n = false → c.asleep = false → exec (.flitToAsleepIsland n src ctx) s = .next s) ∧
    (c.waking = true → ∃ t, exec (.islandWakeComplete n) s = .next t ∧ (t.cluster n).asleep = false ∧ (t.cluster n).waking = false ∧
      (t.cluster n).waitFlits = 0) ∧
    (c.asleep = false →
      (s.quiet n = true → max 1 (s.die (n / 12)).pwr.islandIdle * 10 ≤ c.idle →
        ∃ t, exec (.islandSleepEntry n) s = .next t ∧ (t.cluster n).asleep = true ∧ (∀ ln, t.copy ln n = {}) ∧
          ∀ d, t.byte d = s.byte d) ∧
      (s.quiet n = false ∨ c.idle < max 1 (s.die (n / 12)).pwr.islandIdle * 10 → exec (.islandSleepEntry n) s = .next s)) ∧
    (s.quiet n = true → ∀ j, j < 9 → (s.core (n * 9 + j)).work.mq = [] ∧ (s.core (n * 9 + j)).work.waiting = [] ∧
      ∀ i g, (s.core (n * 9 + j)).work.group i = some g → g.ended = true ∨ g.hold ≠ none)) ∧
  (∀ (s : State) (d e : Nat) (half idle : Nat), s.running = true → d < 8 → e < 2 →
    half = (if e = 1 then (s.die d).pwr.east else (s.die d).pwr.west) →
    idle = (if e = 1 then (s.die d).pwr.eastIdle else (s.die d).pwr.westIdle) →
    (half = 2 → (∀ j, j < 6 → (s.cluster (d * 12 + e * 6 + j)).asleep = true ∧ (s.cluster (d * 12 + e * 6 + j)).waking = false) →
      (s.die d).pwr.halfIdle * 10 ≤ idle →
      ∃ t, exec (.halfClockDown (2 * d + e)) s = .next t ∧
        (if e = 1 then (t.die d).pwr.east else (t.die d).pwr.west) = 1) ∧
    (half ≠ 2 ∨ idle < (s.die d).pwr.halfIdle * 10 ∨ (∃ j, j < 6 ∧ (s.cluster (d * 12 + e * 6 + j)).asleep = false) →
      exec (.halfClockDown (2 * d + e)) s = .next s)) ∧
  (∀ (s : State) (d : Nat), s.fwActs = true → d < 8 →
    ((∀ j, j < 12 → (s.cluster (d * 12 + j)).parts = [] ∧ (s.cluster (d * 12 + j)).waking = false) → (s.die d).pwr.rising = none →
      (∀ o x, s.order o = some x → x.hdr.cls = 0 → x.answered = false → ∀ n ∈ s.poolCls (s.poolOf x.hdr.berth), n / 12 ≠ d) →
      ∃ t, exec (.pwrCmdHalvesOff d) s = .next t ∧ (t.die d).pwr.west = 0 ∧ (t.die d).pwr.east = 0 ∧
        (∀ j, j < 12 → (t.cluster (d * 12 + j)).asleep = true) ∧ (∀ j, j < 108 → (t.core (d * 108 + j)).work = {}) ∧
        ∀ a, t.byte a = s.byte a) ∧
    ((∃ j, j < 12 ∧ ((s.cluster (d * 12 + j)).parts ≠ [] ∨ (s.cluster (d * 12 + j)).waking = true)) ∨
        (∃ o x, s.order o = some x ∧ x.hdr.cls = 0 ∧ x.answered = false ∧ ∃ n ∈ s.poolCls (s.poolOf x.hdr.berth), n / 12 = d) →
      ∃ t, exec (.pwrCmdHalvesOff d) s = .next t ∧ (t.die d).pwr.refused = true ∧ (t.die d).pwr.west = (s.die d).pwr.west ∧
        (t.die d).pwr.east = (s.die d).pwr.east ∧ t.cores = s.cores ∧ t.clusters = s.clusters) ∧
    ((s.die d).pwr.west = 0 → (s.die d).pwr.rising = none →
      ∃ t, exec (.pwrCmdHalvesOn d) s = .next t ∧ (t.die d).pwr.rising = some (s.tick + 1500)) ∧
    (∀ u, (s.die d).pwr.rising = some u →
      (u ≤ s.tick → ∃ t, exec (.halvesOnComplete d) s = .next t ∧ (t.die d).pwr.rising = none ∧ (t.die d).pwr.west = 2 ∧
        (t.die d).pwr.east = 2 ∧ ∀ j, j < 12 → (t.cluster (d * 12 + j)).asleep = false) ∧
      (s.tick < u → exec (.halvesOnComplete d) s = .next s)) ∧
    ((s.die d).pwr.steward = false → ∃ t, exec (.pwrCmdSteward d) s = .next t ∧ (t.die d).pwr.steward = true) ∧
    ((s.die d).pwr.steward = true →
      ((∃ e, e < 8 ∧ e ≠ d ∧ (s.die e).pwr.steward = true) → d ≠ 0 ∨ s.mbx.linkUp = false →
        ∃ t, exec (.pwrCmdSteward d) s = .next t ∧ (t.die d).pwr.steward = false ∧ (t.die d).pwr.running = 0) ∧
      ((∀ e, e < 8 → e ≠ d → (s.die e).pwr.steward = false) ∨ (d = 0 ∧ s.mbx.linkUp = true) →
        exec (.pwrCmdSteward d) s = .next s)) ∧
    (∀ step, step < 32 → ∃ t, exec (.stwFreqWrite d step) s = .next t ∧ (t.die d).pwr.freq = min 25 step) ∧
    (∀ n entry, n < 4 → (s.die d).pwr.steward = true →
      ∃ t, exec (.stwStart d n entry) s = .next t ∧ (t.die d).pwr.running.testBit n = true))

/-- 18 R383, R384, R394 to R401: the estimate of a die is the sum of its figures; each 1 µs the bubbles take the excess
above the cap from bulk, then standard, then assured work, up to 9/64; a third reading of the regulators that fails is
told, and a good one corrects the gain; a cause of EMERGENCY puts every class to 32/64 and revokes assured promises;
loss of REFCLK darkens every transmitter; in compatibility mode PWR6_CAP sets the cap within its limits. A command
that is not due changes nothing (the model's choice, log entry 2). -/
def Obligations.PowerFollowsItsCap : Prop :=
  (∀ (s : State) (d : Nat) (f : PowerFig), s.rst.power = true → d < 8 ∨ (16 ≤ d ∧ d < 20) ∨ d = 32 ∨ d = 33 →
    ∃ t, exec (.powerEstimate d f) s = .next t ∧ (t.die d).pwr.est = f.stat + f.bulk + f.std + f.asr ∧ (t.die d).pwr.fig = f ∧
      (105 ≤ f.tj → s.running = true → s.pwr.state ≠ 5 → t.pwr.state = 5 ∧ t.pwr.bulk = 32 ∧ t.pwr.std = 32 ∧ t.pwr.asr = 32)) ∧
  (∀ s : State, s.running = true → s.rst.power = true →
    (s.tick < s.pwr.updated + 10 → ∀ sh, exec (.bubbleUpdate sh) s = .next s) ∧
    (s.pwr.updated + 10 ≤ s.tick → ∀ sh, ∃ t, exec (.bubbleUpdate sh) s = .next t ∧ t.pwr.updated = s.tick ∧
      (s.pwr.state = 5 → t.pwr.bulk = s.pwr.bulk ∧ t.pwr.std = s.pwr.std ∧ t.pwr.asr = s.pwr.asr) ∧
      (∀ (P B S A : Nat) (x0 x1 x2 : Int) (b c a : Nat), s.pwr.state ≠ 5 → s.pwr.estimator ≠ 1 → s.pwr.bulk = 0 → s.pwr.std = 0 →
        s.pwr.asr = 0 → P = s.scaled PowerFig.total → B = s.scaled PowerFig.bulk → S = s.scaled PowerFig.std →
        A = s.scaled PowerFig.asr →
        x0 = 64 * ((P : Int) - (s.capNow * 65536 : Nat)) → b = (if x0 ≤ 0 ∨ B = 0 then 0 else min 64 (Claims.up x0.toNat B)) →
        x1 = x0 - (B * b : Nat) → c = (if x1 ≤ 0 ∨ S = 0 then 0 else min 64 (Claims.up x1.toNat S)) →
        x2 = x1 - (S * c : Nat) → a = (if x2 ≤ 0 ∨ A = 0 then 0 else min 9 (Claims.up x2.toNat A)) →
        t.pwr.bulk = b ∧ t.pwr.std = c ∧ t.pwr.asr = a ∧ (t.pwr.excess = true ↔ 0 < x2 - (A * a : Nat))))) ∧
  (∀ (s : State) (fault : Bool), s.fwActs = true → s.pwr.readTick + 10000 ≤ s.tick →
    (∃ t, exec (.gainUpdate none fault) s = .next t ∧ t.pwr.missed = min 3 (s.pwr.missed + 1) ∧
      (2 ≤ s.pwr.missed → t.pwr.telemetryLost = true) ∧ t.pwr.gain = s.pwr.gain) ∧
    (∀ m, m < 1048576 → ∃ t, exec (.gainUpdate (some m) fault) s = .next t ∧ t.pwr.missed = 0 ∧ t.pwr.telemetryLost = false ∧
      t.pwr.measured = m ∧ (s.pwr.estimator = 1 → t.pwr.gain = s.pwr.gain) ∧
      (∀ q, q = s.pwr.acc / (4096 * max 1 s.pwr.accN) → q ≠ 0 → s.pwr.estimator ≠ 1 →
        t.pwr.gain = min 5120 (max 3277 (s.pwr.gain * (3 * q + m) / (4 * q)))) ∧
      (fault = true → s.running = true → t.pwr.state = 5))) ∧
  (∀ s : State, s.running = true → s.rst.power = true →
    (s.pwr.state ≠ 5 → ∃ t, exec (.emergencyEntry true) s = .next t ∧ t.pwr.state = 5 ∧ t.pwr.bulk = 32 ∧ t.pwr.std = 32 ∧
      t.pwr.asr = 32 ∧ ∀ o x, s.order o = some x → x.hdr.cls = 0 → x.answered = false → x.lastGone = false →
        (t.order o).map Order.revoked = some true) ∧
    (s.pwr.state = 5 → s.pwr.emerg = 0 → ∀ u, s.pwr.calm = some u →
      (u + 100000 ≤ s.tick → ∃ t, exec .emergencyExit s = .next t ∧ t.pwr.state = 2) ∧
      (s.tick < u + 100000 → exec .emergencyExit s = .next s))) ∧
  (∀ s : State, s.rst.power = true →
    (s.aon.osc = false → (∀ p, p < 64 → Claims.Bare s p) → ∃ t, exec .refclkLoss s = .next t ∧ t.aon.osc = true ∧
      t.aon.refclkLost = true ∧ t.rst.refclk = false ∧ (∀ i, (t.iface i).up = false) ∧
      (∀ p, p < 64 → (s.port p).mode = 1 → (s.port p).state ≠ 0 → (t.port p).state = 0 ∧ (t.port p).lastCause = 1) ∧
      (s.running = true → ∀ o x, s.order o = some x → x.hdr.cls = 0 → x.answered = false → x.lastGone = false →
        (t.order o).map Order.revoked = some true)) ∧
    (s.aon.osc = true → ∀ u, s.aon.refclkGood = some u →
      (u + 100000 ≤ s.tick → ∃ t, exec .refclkReturn s = .next t ∧ t.aon.osc = false ∧ t.rst.refclk = true) ∧
      (s.tick < u + 100000 → exec .refclkReturn s = .next s))) ∧
  (∀ (s : State) (w : Nat), s.fwActs = true → w < 65536 →
    (s.pwr.estimator = 1 → s.capLimits.1 ≤ w → w ≤ s.capLimits.2 → w % 25 = 0 →
      ∃ t, exec (.pwr6CapWrite w) s = .next t ∧ t.pwr.cap = w ∧ t.pwr.rejected = false) ∧
    (s.pwr.estimator = 1 → w < s.capLimits.1 ∨ s.capLimits.2 < w ∨ w % 25 ≠ 0 →
      ∃ t, exec (.pwr6CapWrite w) s = .next t ∧ t.pwr.cap = s.pwr.cap ∧ t.pwr.rejected = true) ∧
    (s.pwr.estimator ≠ 1 → exec (.pwr6CapWrite w) s = .next s))

/-! ### Memory tiers and repair -/

/-- 12 R263, R264, R267, R268, R271, R272, R274, 17 R361, R371 to R373: an uncorrectable read retires its page before any
later lookup and tears down a consumer; parity errors have the outcome of their place; a failed pseudo-channel or
slice is recorded; a frame gives each assured berth its credit; a stack's level follows its samples, and level 3 is a
cause of EMERGENCY. A command that is not due changes nothing (the model's choice, log entry 2). -/
def Obligations.MemoryTiersFollowTheirRules : Prop :=
  (∀ (s : State) (a b : Nat), s.running = true → s.dpaLoc a = .mem b → s.memOk = true →
    (∀ r ∈ [Reader.prefetch, .merge], ∃ t, exec (.uncorrectableRead a r) s = .next t ∧ a / 65536 ∈ t.retired ∧
      (∀ ln, t.line ln = if ln / 512 = a / 65536 then {} else s.line ln) ∧
      (∀ d, t.byte d = if d / 65536 = a / 65536 then (tget none s.backing d).getD (s.byte d) else s.byte d) ∧
      (s.nv.listed.length < 65536 → a / 65536 ∈ t.nv.listed) ∧
      (a < lpxBase → (s.stack (pcStack (s.pcOf a).1)).ue < 4294967295 →
        (t.stack (pcStack (s.pcOf a).1)).ue = (s.stack (pcStack (s.pcOf a).1)).ue + 1 ∧
        (t.stack (pcStack (s.pcOf a).1)).ueDpa = a / 128 * 128)) ∧
    (∀ k x, s.ctx k = some x → x.stopping = none →
      ∃ t, exec (.uncorrectableRead a (.consumer k)) s = .next t ∧ a / 65536 ∈ t.retired ∧ Claims.TearsDown s t k 7 0x09) ∧
    (a < lpxBase → (s.stack (pcStack (s.pcOf a).1)).parity < 4294967295 →
      ∃ t, exec (.parityError (.readBuffer a)) s = .next t ∧
        (t.stack (pcStack (s.pcOf a).1)).parity = (s.stack (pcStack (s.pcOf a).1)).parity + 1 ∧ t.retired = s.retired) ∧
    (∀ d k x, s.ctx k = some x → x.stopping = none →
      (∃ t, exec (.parityError (.dirtyRead d a k)) s = .next t ∧ a / 65536 ∈ t.retired ∧ Claims.TearsDown s t k 7 0x09) ∧
      (∃ t, exec (.parityError (.flit d k)) s = .next t ∧ t.retired = s.retired ∧ Claims.TearsDown s t k 7 0x09) ∧
      (∃ t, exec (.parityError (.scratch d k)) s = .next t ∧ t.retired = s.retired ∧ Claims.TearsDown s t k 7 0x09)) ∧
    (∀ p ∈ [ParityAt.dirtyEvict (s.storeDie a) a, .cohFlit (s.storeDie a) a, .writeData a],
      (s.die (s.storeDie a)).rpr.lost < 4294967295 →
      ∃ t, exec (.parityError p) s = .next t ∧ a / 65536 ∈ t.retired ∧ t.ctxs = s.ctxs ∧
        (t.die (s.storeDie a)).rpr.lost = (s.die (s.storeDie a)).rpr.lost + 1) ∧
    (∀ port tag m, (s.port port).inq.find? (fun m => decide (m.op < 0x81) && m.tag == tag) = some m → m.stale = false →
      (s.port port).exportWait = [] → (s.port port).state = 4 → (s.port port).replay.length < 2048 →
      ∃ t, exec (.parityError (.exported port tag a)) s = .next t ∧ a / 65536 ∈ t.retired ∧ (t.port port).inq = (s.port port).inq.erase m ∧
        Out.flit port 1 (if (s.port port).txEpoch then 1 else 0) (s.port port).nextSeq (s.port port).expSeq
          (bytesOf 8 (0x84 + m.tag * 2 ^ 8 + 2 ^ 20) ++ List.replicate 224 0) [] ∈ Claims.sent t)) ∧
  (∀ s : State, s.running = true →
    (∀ d, (s.die d).rpr.refetch < 4294967295 → ∃ t, exec (.parityError (.copyBelow d)) s = .next t ∧
      (t.die d).rpr.refetch = (s.die d).rpr.refetch + 1) ∧
    (∀ d, s.failed = none → ∃ t, exec (.parityError (.steward d)) s = .next t ∧ t.failed = some 4) ∧
    (∀ pc, pc < 512 → s.pcMapped pc = false → s.pcFailed pc = false →
      (∃ t, exec (.pseudoChannelFailure pc) s = .next t ∧ t.pcFailed pc = true ∧ pc ∈ t.nv.mappedPcs ∧ t.retired = s.retired) ∧
      ((s.stack (pcStack pc)).state = 2 → (∀ b ∈ tkeys s.berths, b < 256) →
        ∃ t, exec (.hbmFrameStart pc) s = .next t ∧ (∀ b, b < 256 →
          t.creditOf pc b = (s.berth b).grant.assured * ceilDiv 81920 (128 - s.mappedOn (pc % 4))) ∧
          tget 10 (t.stack (pcStack pc)).frameRate (pcLocal pc) = (s.stack (pcStack pc)).rate)) ∧
    (∀ n, n < 256 → (s.slice n).inService = true → (s.slice n).failed = false →
      ∃ t, exec (.sliceFailure n) s = .next t ∧ (t.slice n).failed = true ∧ (t.slice n).intake = [] ∧ n ∈ t.nv.failedSlices ∧
        ∀ ln, s.home ln = n → t.line ln = {}) ∧
    (∀ pkg, pkg ∈ s.packages → (∀ b ∈ tkeys s.berths, b < 256) →
      ∃ t, exec (.lpxFrameStart pkg) s = .next t ∧ ∀ b, b < 256 → t.creditOf (512 + pkg) b =
        if 0 < (s.berth b).grant.lpxMib then (s.berth b).grant.assured * 112 / s.lpxCount else 0)) ∧
  (∀ (s : State) (k : Nat) (x : Stack), s.rst.power = true → k < 8 → x = s.stack k →
    (s.tick < x.sampled + 1000 → ∀ r, exec (.stackTemperatureSample k r) s = .next s) ∧
    (x.sampled + 1000 ≤ s.tick → x.therm ≤ 3 →
      (∀ r, ∃ t, exec (.stackTemperatureSample k (some r)) s = .next t ∧ (t.stack k).temp = min 255 r ∧
        (t.stack k).sampled = s.tick ∧ (t.stack k).noReading = 0 ∧
        (x.therm ≤ levelOf r → (t.stack k).therm = levelOf r) ∧
        (levelOf r < x.therm → 75 + 10 * x.therm < r + 3 → (t.stack k).therm = x.therm) ∧
        (r + 3 ≤ 85 → (∀ i, i < 3 → x.warm.getD i 0 + 100000 ≤ s.tick) → (t.stack k).therm = 0) ∧
        (2 ≤ (t.stack k).therm → s.running = true → (t.mdDie (k / 2)).half = true) ∧
        ((t.stack k).therm = 3 → s.running = true → t.pwr.state = 5)) ∧
      (∃ t, exec (.stackTemperatureSample k none) s = .next t ∧ (t.stack k).sampled = s.tick ∧
        (x.noReading < 2 → (t.stack k).noReading = x.noReading + 1 ∧ (t.stack k).therm = x.therm) ∧
        (2 ≤ x.noReading → (t.stack k).sensorLost = true ∧ 2 ≤ (t.stack k).therm))) ∧
    (x.stepped + 10000 ≤ s.tick → ∃ t, exec (.stackRateStep k) s = .next t ∧ (t.stack k).stepped = s.tick ∧
      (t.stack k).rate = if x.therm = 0 then min 10 (x.rate + 1) else if 85 ≤ x.temp then max 7 (x.rate - 1) else x.rate) ∧
    (s.tick < x.stepped + 10000 → exec (.stackRateStep k) s = .next s) ∧
    (∀ u, (s.mdDie (k / 2)).hotSince = some u →
      (u + 100000 ≤ s.tick → ∃ t, exec (.sliceClockThrottle (k / 2)) s = .next t ∧ (t.mdDie (k / 2)).clock75 = true) ∧
      (s.tick < u + 100000 → exec (.sliceClockThrottle (k / 2)) s = .next s)))

/-- 04 R97, R99, 16 R356, 17 R359, R360, R362, R367 to R370, R377, R378: a failed core's work resumes on the cluster's spare from its
last checkpoint, waits where there is none, or is torn down where it cannot resume; a self-test records what fails and restores
what passes; a failed lane of the gangway or the loss of XD0 puts the device into the failed
state, where every session and order is lost. -/
def Obligations.FailedCoresResumeFromTheirCheckpoint : Prop :=
  (∀ (s : State) (i n b : Nat) (bad : Bool) (c : Core), s.running = true → i < 864 → n = i / 9 → c = s.core i →
    c.slotState = 1 → c.bound = some b → i ∉ s.nv.failedSlots →
    (∀ j, j / 9 = n → (s.core j).slotState = 0 → (s.core j).bound = none → j ∉ s.nv.failedSlots →
      (∀ m, m / 9 = n → m < j → (s.core m).slotState ≠ 0 ∨ (s.core m).bound ≠ none ∨ m ∈ s.nv.failedSlots) →
      ∃ t, exec (.coreFailure i bad) s = .next t ∧ (t.core i).slotState = 2 ∧ (t.core i).bound = none ∧ i ∈ t.nv.failedSlots ∧
        (t.core j).slotState = 1 ∧ (t.core j).bound = some b ∧
        (∀ k x w o y, c.ctx = some k → s.ctx k = some x → i ∈ x.cores → j ∉ x.cores → (s.core j).ctx = none → bad = false →
          c.ckpt = some w → (∀ m ∈ tkeys c.work.blocks, (tget none w.blocks m).isSome = true) →
          x.order = some o → c.ckptOrder = some o → s.order o = some y → y.runEnded = false → y.lastGone = false →
          (t.core j).ctx = some k ∧ (t.core j).replaying = true ∧ (t.core i).ctx = none ∧
            (t.ctx k).map Ctx.cores = some (x.cores.map fun m => if m = i then j else m) ∧
            (t.core j).work.acc = w.acc ∧ (t.core j).work.tokens = w.tokens ∧ (t.core j).work.blocks = w.blocks ∧
            ∀ m g, m < 32 → w.group m = some g → g.hold = none → (t.core j).work.group m = some g) ∧
        (∀ k x w, c.ctx = some k → s.ctx k = some x → x.stopping = none → c.ckpt = some w →
          bad = true ∨ (∃ m ∈ tkeys c.work.blocks, tget none w.blocks m = none) →
          Claims.TearsDown s t k 7 0x09)) ∧
    ((∀ j, j / 9 = n → (s.core j).slotState ≠ 0 ∨ (s.core j).bound ≠ none ∨ j ∈ s.nv.failedSlots) →
      ∃ t, exec (.coreFailure i bad) s = .next t ∧ (t.core i).slotState = 2 ∧ (t.core i).bound = none ∧ i ∈ t.nv.failedSlots ∧
        ∀ k x o y, c.ctx = some k → s.ctx k = some x → bad = false → c.ckpt = some c.work →
          (∀ m ∈ tkeys c.work.blocks, (tget none c.work.blocks m).isSome = true) →
          x.order = some o → c.ckptOrder = some o → s.order o = some y → y.runEnded = false → y.lastGone = false →
          (t.core i).ctx = some k ∧ (t.ctx k).isSome = true)) ∧
  (∀ (s : State) (i : Nat) (bad : Bool), s.running = true → i < 864 → (s.core i).slotState < 2 → (s.core i).bound = none →
    i ∉ s.nv.failedSlots → ∃ t, exec (.coreFailure i bad) s = .next t ∧ (t.core i).slotState = 2 ∧ i ∈ t.nv.failedSlots) ∧
  (∀ (s : State) (i : Nat), s.dieRuns (i / 108) = true →
    ((s.core i).replaying = true → ∃ t, exec (.replayResume i) s = .next t ∧ (t.core i).replaying = false ∧
      (t.core i).work = (s.core i).work) ∧
    (∀ j k x, i < 864 → (s.core i).slotState = 1 → (s.core i).bound.isSome = true → (s.core i).ctx = none → j / 9 = i / 9 →
      (s.core j).slotState = 2 → (s.core j).ctx = some k → s.ctx k = some x → x.switchedIn = true → i ∉ x.cores → j ∈ x.cores →
      (∀ m, m / 9 = i / 9 → m < j → (s.core m).slotState ≠ 2 ∨
        ∀ q y, (s.core m).ctx = some q → s.ctx q = some y → y.switchedIn = false) →
      ∃ t, exec (.resumeWithoutSpare i) s = .next t ∧ (t.core i).ctx = some k ∧ (t.core j).ctx = none ∧
        (t.core i).work.groups = (s.core j).work.groups ∧ (t.core i).work.acc = (s.core j).work.acc ∧
        (t.ctx k).map Ctx.cores = some (x.cores.map fun m => if m = j then i else m))) ∧
  (∀ (s : State) (n : Nat) (r : TestReport), s.running = true → (s.cluster n).test.isSome = true → (∀ j ∈ r.failing, j < 9) →
    ∃ t, exec (.selftestComplete n r) s = .next t ∧ (t.cluster n).test = none ∧
      (∀ j, j < 9 → (n * 9 + j ∈ t.nv.failedSlots ↔ j ∈ r.failing)) ∧
      (∀ i, i / 9 ≠ n → (i ∈ t.nv.failedSlots ↔ i ∈ s.nv.failedSlots)) ∧
      (∀ j ∈ r.failing, n * 9 + j ∉ s.nv.failedSlots → (t.core (n * 9 + j)).bound = none) ∧
      (t.die (n / 12)).rpr.result =
        (if (∀ j ∈ r.failing, n * 9 + j ∈ s.nv.failedSlots) ∧ r.arrays = 0 then 1 else 2)) ∧
  (∀ s : State, s.rst.power = true → s.failed = none →
    (∀ d, d < 8 ∨ (16 ≤ d ∧ d < 20) ∨ d = 32 ∨ d = 33 → ∃ t, exec (.gangwayLaneFailure d) s = .next t ∧ t.failed = some 1 ∧
      t.nv.fatalCause = 1 ∧ t.nv.fatalDie = d ∧ t.rst.ready = false ∧ (∀ p, p < 64 → (t.port p).state = 0) ∧
      (∀ i, (t.iface i).up = false) ∧ t.conns = [] ∧ t.orders = []) ∧
    ∃ t, exec .xd0Loss s = .next t ∧ t.failed = some 2 ∧ t.rst.fwUp = false)

/-! ### Manifests and the security controller -/

/-- 02 R52, R55, R56, R58, R60, 04 R99: a submission is validated step by step and answered with the code of the first step that fails; one
that passes is written to its slot, a live one running at once, with vector 6 to the berths of a changed pool that falls short; a write that fails leaves the slot empty, and only a live
Manifest that is written raises the anti-rollback floor. -/
def Obligations.ManifestsAreValidatedInOrder : Prop :=
  ∀ s : State,
    (s.fwActs = true → s.mft.phase = .idle → ∃ t, exec .mftCmdSubmit s = .next t ∧ t.mft.phase = .validating ∧
      t.mft.candidate = if s.inSteward s.mft.src s.mft.len then (List.range s.mft.len).map (fun i => s.byte (s.mft.src + i)) else []) ∧
    (s.fwActs = true → s.mft.phase ≠ .idle → ∃ t, exec .mftCmdSubmit s = .next t ∧ t.mft.phase = s.mft.phase ∧
      t.mft.lastResult = 0x0C ∧ t.mft.resultNew = true) ∧
    (∀ (g : Sigs) (b : List Byte) (code : Nat), s.running = true → s.mft.phase = .validating → b = s.mft.candidate →
      code = Claims.firstOf (Claims.mftFaults s b g) → ∃ t, exec (.mftValidationComplete g) s = .next t ∧
        (code ≠ 0 → t.mft.phase = .idle ∧ t.mft.lastResult = code ∧ t.mft.resultNew = true ∧ t.mft.running = s.mft.running ∧
          t.mft.slots = s.mft.slots) ∧
        (code = 0 → s.isLive b = false → t.mft.phase = .writing s.storeSlot false ∧ t.mft.running = s.mft.running) ∧
        (code = 0 → s.isLive b = true → t.mft.phase = .writing (1 - s.mft.runSlot) true ∧ t.mft.running = some (readMft b) ∧
          t.orders = s.orders ∧
          (∀ c, t.berth c = { s.berth c with evtPend := (t.berth c).evtPend, evtCount := (t.berth c).evtCount }) ∧
          ∀ old q c, s.mft.running = some old → q < 16 → old.pool q ≠ (readMft b).pool q → t.poolShort q = true → c < 256 →
            (s.berth c).state ≠ 0 → s.poolOf c = q → bitAt 6 (t.berth c).evtPend = true)) ∧
    (∀ (ok : Bool) (slot : Nat) (live : Bool), s.running = true → s.mft.phase = .writing slot live →
      ∃ t, exec (.mftFlashWriteComplete ok) s = .next t ∧ t.mft.phase = .idle ∧ t.mft.resultNew = true ∧
        t.mft.lastResult = (if ok then 0 else 0x0D) ∧
        tget {} t.mft.slots slot = (if ok then { bytes := s.mft.candidate, sigs := s.mft.sigs } else {}) ∧
        (∀ i, i ≠ slot → tget {} t.mft.slots i = tget {} s.mft.slots i) ∧ t.mft.running = s.mft.running ∧
        t.mft.floor = (if ok && live then (readMft s.mft.candidate).seq else s.mft.floor))

/-- 19 R416 to R422, R426, R429: a SEC command ends with the code of the first of its checks that fails, or has its effect: a
new owner key record, then (at the end of the tick, the model's choice, log entry 59) a fuse blown and a cold reset; a chain with a fresh HSS index, the calibration record or certificate read, a record stored for the
next boot, a token in force; TOP is raised by 1,024, and the next lower tree built, when they are due. -/
def Obligations.SecurityCommandsFollowTheirChecks : Prop :=
  (∀ (s : State) (b : List Byte) (g : Sigs),
    (∀ r, Claims.SecRuns s 1 b → r = Claims.firstOf (Claims.lifeFaults s b g) → ∃ t, exec (.lifecycle g) s = .next t ∧
      (r ≠ 0 → Claims.SecEnded t r ∧ t.sec.entries = s.sec.entries ∧ t.berths = s.berths) ∧
      (r = 0 → t.sec.moving = some (bf b 8 1) ∧ t.sec.running = some 1 ∧ t.sec.entries = s.sec.entries ∧ t.berths = s.berths ∧
        (bf b 8 1 = 2 → t.sec.ownerTrans = s.transitions + 1 ∧
          t.sec.owner = some ((sha384 ((b.drop 0x20).take 97 ++ (b.drop 0x84).take 56)).take 16)))) ∧
    (Claims.SecRuns s 2 b →
      (b.length ≠ 33 → ∃ t, exec .attest s = .next t ∧ Claims.SecEnded t 1 ∧ t.sec.next = s.sec.next) ∧
      (b.length = 33 → bf b 32 1 ≠ 0xFF → (s.berth (bf b 32 1)).state = 0 → ∃ t, exec .attest s = .next t ∧ Claims.SecEnded t 7) ∧
      (b.length = 33 → bf b 32 1 = 0xFF ∨ (s.berth (bf b 32 1)).state ≠ 0 →
        (s.lmsOk = false → ∃ t, exec .attest s = .next t ∧ Claims.SecEnded t 8 ∧ t.sec.next = s.sec.next) ∧
        (s.lmsOk = true → ∃ t rest, exec .attest s = .next t ∧ Claims.SecEnded t 0 ∧ t.sec.next = s.sec.next + 1 ∧
          Claims.SecOutput s t (bytesOf 1 3 ++ s.deviceCert ++ s.aliasCert ++
            (s.reportBody 1 3 (if bf b 32 1 = 0xFF then none else some (bf b 32 1)) (b.take 32) ++ rest))))) ∧
    (∀ (stored : Bool) (r : Nat), Claims.SecRuns s 3 b → r = Claims.firstOf (Claims.calFaults s b g) →
      ∃ t, exec (.calWrite g stored) s = .next t ∧ t.cal.inForce = s.cal.inForce ∧
        (r ≠ 0 → Claims.SecEnded t r ∧ t.cal = s.cal) ∧ (r = 0 → stored = false → Claims.SecEnded t 9 ∧ t.cal = s.cal) ∧
        (r = 0 → stored = true → Claims.SecEnded t 0 ∧ t.cal.pending = true ∧
          (t.cal.stored.drop 0x10).take 0x1FEC = (b.drop 0x10).take 0x1FEC ∧
          bf t.cal.stored 0x0C 4 = ((if s.cal.stored = [] then 0 else bf s.cal.stored 0x0C 4) + 1) % 4294967296)) ∧
    (Claims.SecRuns s 4 b → ∃ t, exec .calRead s = .next t ∧ Claims.SecEnded t 0 ∧ t.cal = s.cal ∧
      Claims.SecOutput s t (s.cal.stored ++ List.replicate (8192 - s.cal.stored.length) 0)) ∧
    (∀ r, Claims.SecRuns s 5 b → r = Claims.firstOf (Claims.tokenFaults s b g) → ∃ t, exec (.debugToken g) s = .next t ∧
      Claims.SecEnded t r ∧ t.sec.challenge.length = 32 ∧ t.sec.token = if r = 0 then some (bf b 8 1) else s.sec.token) ∧
    (Claims.SecRuns s 6 b →
      (s.lifecycle = 0 → ∃ t, exec .idCert s = .next t ∧ Claims.SecEnded t 3) ∧
      (s.lifecycle ≠ 0 → ∃ t, exec .idCert s = .next t ∧ Claims.SecEnded t 0 ∧ Claims.SecOutput s t s.deviceCert))) ∧
  (∀ (s : State) (m : Nat), s.pending = [] → s.rst.power = true → s.failed = none → s.sec.moving = some m →
    ∃ t, step s = .next t ∧ t.sec.moving = none ∧ t.sec.entries = s.sec.entries ++ [m] ∧ t.rst.pending = true ∧ t.rst.cause = 3 ∧
      (m = 4 → t.sec.udsGone = true) ∧ t.sec.owner = (if m = 2 then s.sec.owner else none)) ∧
  (∀ (s : State) (ok : Bool),
    (s.sec.reserving = true → ∃ t, exec (.lmsTopReserve ok) s = .next t ∧ t.sec.reserving = false ∧
      t.sec.top = (if ok then s.sec.top + 1024 else s.sec.top) ∧ (ok = false → t.sec.reserveFailed = true)) ∧
    (524288 ≤ s.sec.next % 1048576 → s.sec.built ≤ s.sec.next / 1048576 → s.sec.udsGone = false →
      ∃ t, exec .lowerTreeBuild s = .next t ∧ t.sec.built = s.sec.next / 1048576 + 1))

/-! ### The mailbox -/

/-- 21 R458, R465 to R467, R469: a doorbell is ignored where no controller serves; while BUSY it is only counted; a malformed
request is answered BAD_ARG, an OPCODE that the present state does not serve or the table does not list UNKNOWN_OP, each with
nothing else changed; the link goes down and up. -/
def Obligations.DoorbellsAreServedOrTurnedAway : Prop :=
  (∀ (s : State) (r : MbxReq) (g : Sigs) (c : Instr) (op len : Nat), Claims.MbxRow r g c op len →
    (s.rst.power = false ∨ s.mbx.linkUp = false ∨ s.stopped = true ∨ s.aon.tripped = true → exec c s = .next s) ∧
    (s.rst.power = true → s.mbx.linkUp = true → s.stopped = false → s.aon.tripped = false →
      (s.mbx.req.isSome = true → s.aon.moored = true ∨ s.rst.recovery = true ∨ s.rst.fwUp = true →
        exec c s = .next { s with mbx := { s.mbx with dropped := min 4294967295 (s.mbx.dropped + 1) } }) ∧
      (s.mbx.req = none →
        (s.aon.moored = true → op ≠ 0x01 → op ≠ 0x81 → ∃ t, exec c s = .next t ∧ Claims.MbxSays s t op r 1 0 []) ∧
        (s.aon.moored = false → s.failed.isSome = true → s.rst.fwUp = true → op ≠ 0x01 → op ≠ 0x52 → op ≠ 0x72 →
          ∃ t, exec c s = .next t ∧ Claims.MbxSays s t op r 1 0 []) ∧
        (s.aon.moored = false → s.failed = none → s.rst.recovery = true → op ≠ 0x01 → op ≠ 0x70 → op ≠ 0x72 →
          ∃ t, exec c s = .next t ∧ Claims.MbxSays s t op r 1 0 []))) ∧
    (Claims.Serving s → r.clean = false ∨ r.body.length ≠ len → ∃ t, exec c s = .next t ∧ Claims.MbxSays s t op r 2 0 [])) ∧
  (∀ (s : State) (r : MbxReq) (op : Nat), op < 65536 →
    op ∉ [0x01, 0x10, 0x11, 0x20, 0x21, 0x22, 0x23, 0x30, 0x31, 0x32, 0x33, 0x40, 0x41, 0x50, 0x51, 0x52, 0x53, 0x60, 0x61, 0x62, 0x70,
      0x71, 0x72, 0x73, 0x80, 0x81] →
    Claims.Serving s → ∃ t, exec (.mbxUnknownOp op r) s = .next t ∧ Claims.MbxSays s t op r 1 0 []) ∧
  (∀ s : State, exec .pcieLinkDown s = .next { s with mbx := { s.mbx with linkUp := false } } ∧
    (s.rst.power = true → exec .pcieLinkUp s = .next { s with mbx := { s.mbx with linkUp := true } }) ∧
    (s.rst.power = false → exec .pcieLinkUp s = .next s))

/-- 21 R467, 02 R55, 03 R79, 15 R336, 16 R357, 18 R386 to R394, 19 R407, R429, 20 R440, R441, R445, 21 R457 to R461, 22
R476: each mailbox command that firmware serves reports what the table names, has its effect, waits for its subsystem,
or is refused with nothing else changed. Result codes and layouts that the rules do not give are the model's (log
entries 30, 33 and 67). -/
def Obligations.MailboxCommandsHaveTheirEffect : Prop :=
  (∀ (s : State) (r : MbxReq), Claims.Asks s r 0 →
    (∃ (t : State) (b : List Byte), exec (.info r) s = .next t ∧ Claims.Reply t 0x01 r 0 0 b ∧
      b.take 12 = bytesOf 1 s.lifecycle ++ bytesOf 1 s.powerState ++ bytesOf 1 s.mft.state ++ bytesOf 1 (if s.rst.ready then 1 else 0) ++
        bytesOf 1 s.rst.image ++ List.replicate 3 0 ++ bytesOf 4 s.sec.fwVersion ∧
      b.drop 16 = bytesOf 8 s.sec.bootId.toNat ++ s.identity ++ bytesOf 8 s.tick ∧
      t = { s with mbx := t.mbx, out := t.out, free := t.free }) ∧
    (∃ t, exec (.mftQuery r) s = .next t ∧
      Claims.MbxSays s t 0x11 r 0 0 ((List.range 16).flatMap fun i => bytesOf 8 (s.mftReg (8 * i)))) ∧
    (min s.grantLevel s.maxLevel = 3 → (∀ b, b < 256 → (s.berth b).state = 0) → s.mft.phase = .idle →
      ∃ t, exec (.engage r) s = .next t ∧ Claims.Reply t 0x61 r 0 0 [] ∧ t.engaged = true ∧ t.debugLevel = 3) ∧
    (min s.grantLevel s.maxLevel ≠ 3 ∨ (∃ b, b < 256 ∧ (s.berth b).state ≠ 0) ∨ s.mft.phase ≠ .idle →
      ∃ t, exec (.engage r) s = .next t ∧ Claims.MbxSays s t 0x61 r 4 0 []) ∧
    (s.engaged = true → (s.die 0x20).dbg.stopped = false →
      ∃ t, exec (.allstop r) s = .next t ∧ Claims.Reply t 0x62 r 0 0 [] ∧ t.stopAsked = true ∧ (t.die 0x20).dbg.stopped = true) ∧
    (s.engaged = false → ∃ t, exec (.allstop r) s = .next t ∧ Claims.MbxSays s t 0x62 r 4 0 []) ∧
    (∃ t, exec (.coldReset r) s = .next t ∧ Claims.ColdReset s t 2 ∧ t.mbx.respReady = false ∧ t.out = s.out) ∧
    ((∀ b, b < 256 → (s.berth b).state = 0) → ∃ t, exec (.moor r) s = .next t ∧ Claims.Reply t 0x80 r 0 0 [] ∧ t.aon.moored = true ∧
      t.rst.fwUp = false ∧ t.rst.pending = false ∧ t.mem = [] ∧ t.ctxs = [] ∧ t.cores = [] ∧ t.tick = s.tick ∧ t.nv = s.nv) ∧
    ((∃ b, b < 256 ∧ (s.berth b).state ≠ 0) → ∃ t, exec (.moor r) s = .next t ∧ Claims.MbxSays s t 0x80 r 3 0 []) ∧
    (∃ t, exec (.unmoor r) s = .next t ∧ Claims.MbxSays s t 0x81 r 4 0 [])) ∧
  (∀ (s : State) (r : MbxReq), s.rst.power = true → s.mbx.linkUp = true → s.stopped = false → s.aon.tripped = false →
    s.aon.moored = true → s.mbx.req = none → r.clean = true → r.body = [] →
    ∃ t, exec (.unmoor r) s = .next t ∧ Claims.Reply t 0x81 r 0 0 [] ∧ t.aon.moored = false ∧ t.rst.pending = true ∧
      t.rst.bootFrom5 = true ∧ t.rst.cause = 5) ∧
  (∀ (s : State) (r : MbxReq), Claims.Asks s r 1 → ∀ n, n = Claims.arg r 0 1 →
    (∃ t, exec (.berthQuery r) s = .next t ∧ Claims.Reply t 0x22 r 0 0 (s.readRow 0x20 (berthRegs n)).1) ∧
    (∃ t, exec (.evtAck r) s = .next t ∧ Claims.Reply t 0x50 r 0 0 [] ∧
      ∀ c, c < 8 → t.evtOpen.testBit c = (s.evtOpen.testBit c && !n.testBit c)) ∧
    (isDie n = true → ∃ t, exec (.monStart r) s = .next t ∧ Claims.Reply t 0x51 r 0 0 [] ∧ (t.die n).mon.units = [] ∧
      (t.die n).mon.interval = (s.die n).mon.time) ∧
    (isDie n = false → ∃ t, exec (.monStart r) s = .next t ∧ Claims.MbxSays s t 0x51 r 2 0 []) ∧
    (n < 2 → ∃ t, exec (.prefer r) s = .next t ∧ Claims.Reply t 0x71 r 0 0 [] ∧ t.rst.prefer = n) ∧
    (2 ≤ n → ∃ t, exec (.prefer r) s = .next t ∧ Claims.MbxSays s t 0x71 r 2 0 []) ∧
    (n < 8 → (s.die n).pwr.west = 0 → (s.die n).pwr.rising = none →
      ∃ t, exec (.dieReset r) s = .next t ∧ Claims.Waits t 0x73 r (.dieReset n) ∧ (t.die n).state = 1 ∧
        (t.die n).resetEnd = some (s.tick + 200000) ∧ ∀ j, j < 108 → (t.core (n * 108 + j)).work = {}) ∧
    (isDie n = true → 8 ≤ n ∨ (s.die n).pwr.west ≠ 0 ∨ (s.die n).pwr.rising ≠ none →
      ∃ t, exec (.dieReset r) s = .next t ∧ Claims.Reply t 0x73 r 3 0 [] ∧ t.rst.refused = true ∧ t.dies = s.dies) ∧
    (isDie n = false → ∃ t, exec (.dieReset r) s = .next t ∧ Claims.MbxSays s t 0x73 r 2 0 [])) ∧
  (∀ (s : State) (r : MbxReq), Claims.Asks s r 2 → ∀ d v w, d = Claims.arg r 0 1 → v = Claims.arg r 1 1 → w = Claims.arg r 0 2 →
    (s.capLimits.1 ≤ w → w ≤ s.capLimits.2 → w % 25 = 0 →
      ∃ t, exec (.setCap r) s = .next t ∧ Claims.Reply t 0x30 r 0 0 [] ∧ t.pwr.cap = w) ∧
    (w < s.capLimits.1 ∨ s.capLimits.2 < w ∨ w % 25 ≠ 0 → ∃ t, exec (.setCap r) s = .next t ∧ Claims.MbxSays s t 0x30 r 3 0 []) ∧
    (d < 14 → s.lifecycle = 3 → (signed 8 v).natAbs ≤ 30 → ∃ t, exec (.margin r) s = .next t ∧ Claims.Reply t 0x31 r 0 0 [] ∧
      (∀ i, tget 0 t.pwr.rails i = if i = d then v else tget 0 s.pwr.rails i) ∧
      (s.pwr.rails = [] → v ≠ 0 → ∀ b, b < 256 → (s.berth b).state ≠ 0 → bitAt 6 (t.berth b).evtPend = true)) ∧
    (d < 14 → s.lifecycle ≠ 3 ∨ 30 < (signed 8 v).natAbs → ∃ t, exec (.margin r) s = .next t ∧ Claims.MbxSays s t 0x31 r 3 0 []) ∧
    (14 ≤ d → ∃ t, exec (.margin r) s = .next t ∧ Claims.MbxSays s t 0x31 r 2 0 []) ∧
    (d < 8 → v = 1 → s.mayPowerOff d = true → ∃ t, exec (.halves r) s = .next t ∧ Claims.Reply t 0x32 r 0 0 [] ∧
      (t.die d).pwr.west = 0 ∧ (t.die d).pwr.east = 0) ∧
    (d < 8 → v = 1 → s.mayPowerOff d = false → ∃ t, exec (.halves r) s = .next t ∧ Claims.Reply t 0x32 r 3 0 [] ∧
      (t.die d).pwr.refused = true ∧ (t.die d).pwr.west = (s.die d).pwr.west) ∧
    (d < 8 → v = 2 → (s.die d).pwr.rising = none →
      ((s.die d).pwr.west = 0 → ∃ t, exec (.halves r) s = .next t ∧ Claims.Waits t 0x32 r (.halves d) ∧
        (t.die d).pwr.rising = some (s.tick + 1500)) ∧
      ((s.die d).pwr.west ≠ 0 → ∃ t, exec (.halves r) s = .next t ∧ Claims.MbxSays s t 0x32 r 0 0 [])) ∧
    (8 ≤ d ∨ (v ≠ 1 ∧ v ≠ 2) → ∃ t, exec (.halves r) s = .next t ∧ Claims.MbxSays s t 0x32 r 2 0 []) ∧
    (d < 8 → v < 2 → ((s.die d).pwr.steward = true ↔ v = 1) → ∃ t, exec (.steward r) s = .next t ∧ Claims.MbxSays s t 0x33 r 0 0 []) ∧
    (d < 8 → v = 1 → (s.die d).pwr.steward = false →
      ∃ t, exec (.steward r) s = .next t ∧ Claims.Reply t 0x33 r 0 0 [] ∧ (t.die d).pwr.steward = true) ∧
    (d < 8 → v = 0 → (s.die d).pwr.steward = true →
      ((∃ e, e < 8 ∧ e ≠ d ∧ (s.die e).pwr.steward = true) → d ≠ 0 →
        ∃ t, exec (.steward r) s = .next t ∧ Claims.Reply t 0x33 r 0 0 [] ∧ (t.die d).pwr.steward = false) ∧
      ((∀ e, e < 8 → e ≠ d → (s.die e).pwr.steward = false) ∨ d = 0 →
        ∃ t, exec (.steward r) s = .next t ∧ Claims.MbxSays s t 0x33 r 3 0 [])) ∧
    (8 ≤ d ∨ 2 ≤ v → ∃ t, exec (.steward r) s = .next t ∧ Claims.MbxSays s t 0x33 r 2 0 []) ∧
    (64 ≤ d ∨ 2 ≤ v → ∃ t, exec (.portReset r) s = .next t ∧ Claims.MbxSays s t 0x41 r 2 0 []) ∧
    (d < 64 → v < 2 →
      ((s.port d).mode = 0 → ∃ t, exec (.portReset r) s = .next t ∧ Claims.MbxSays s t 0x41 r 0 0 []) ∧
      ((s.port d).mode = 1 → (s.port d).carries = true → Claims.Bare s d →
        ∃ t, exec (.portReset r) s = .next t ∧ Claims.Reply t 0x41 r 0 0 [] ∧ Claims.PortLost s t d 6) ∧
      ((s.port d).mode = 1 → (s.port d).carries = false → ∃ t, exec (.portReset r) s = .next t ∧ Claims.Reply t 0x41 r 0 0 [] ∧
        (t.port d).state = 0 ∧ (t.port d).darkEnd = some (s.tick + 100000)) ∧
      (2 ≤ (s.port d).mode → ∃ t, exec (.portReset r) s = .next t ∧ Claims.Reply t 0x41 r 0 0 [] ∧
        ∀ i, t.iface i = if i = 2 * d + v then { s.iface i with up := false } else s.iface i)) ∧
    (d < 8 → v < 12 →
      ((s.cluster (d * 12 + v)).asleep = true → (s.cluster (d * 12 + v)).waking = false → (s.cluster (d * 12 + v)).parts = [] →
        (s.cluster (d * 12 + v)).test = none → s.halfOff (d * 12 + v) = false →
        ∃ t, exec (.selftest r) s = .next t ∧ Claims.Waits t 0x53 r (.selftest (d * 12 + v)) ∧
          (t.cluster (d * 12 + v)).test = some s.tick ∧ ∀ j, j < 9 → (t.core ((d * 12 + v) * 9 + j)).slotState = 3) ∧
      ((s.cluster (d * 12 + v)).asleep = false ∨ (s.cluster (d * 12 + v)).waking = true ∨ (s.cluster (d * 12 + v)).parts ≠ [] ∨
          (s.cluster (d * 12 + v)).test ≠ none ∨ s.halfOff (d * 12 + v) = true →
        ∃ t, exec (.selftest r) s = .next t ∧ Claims.MbxSays s t 0x53 r 3 0 [])) ∧
    (8 ≤ d ∨ 12 ≤ v → ∃ t, exec (.selftest r) s = .next t ∧ Claims.MbxSays s t 0x53 r 2 0 [])) ∧
  (∀ (s : State) (r : MbxReq),
    (Claims.Asks s r 8 → ∀ p e f b u, p = Claims.arg r 0 1 → e = Claims.arg r 1 1 → f = Claims.arg r 2 1 → b = Claims.arg r 3 1 →
      u = Claims.arg r 4 4 →
      (64 ≤ p ∨ 128 ≤ e ∨ 4 ≤ f ∨ 262144 ≤ u → ∃ t, exec (.exportEntry r) s = .next t ∧ Claims.MbxSays s t 0x23 r 2 0 []) ∧
      (p < 64 → e < 128 → f < 4 → u < 262144 →
        (f % 2 = 1 → bitAt p (s.berth b).grant.ports = false →
          ∃ t, exec (.exportEntry r) s = .next t ∧ Claims.MbxSays s t 0x23 r 3 1 []) ∧
        (f % 2 = 0 ∨ bitAt p (s.berth b).grant.ports = true →
          ((∀ m ∈ (s.port p).inq, m.op < 0x81 → exportOf m.addr ≠ e) → ∃ t, exec (.exportEntry r) s = .next t ∧
            Claims.Reply t 0x23 r 0 0 [] ∧ tget 0 (t.port p).exports e = BitVec.ofNat 64 (f + b * 256 + u * 1073741824)) ∧
          ((∃ m ∈ (s.port p).inq, m.op < 0x81 ∧ exportOf m.addr = e) → ∃ t, exec (.exportEntry r) s = .next t ∧
            Claims.Waits t 0x23 r (.exportEntry p e) ∧ (t.port p).exports = (s.port p).exports ∧
            (t.port p).exportWait = (s.port p).exportWait ++ [(e, BitVec.ofNat 64 (f + b * 256 + u * 1073741824))])))) ∧
    (Claims.Asks s r 10 → ∀ d n o, d = Claims.arg r 0 1 → o = Claims.arg r 4 4 → n = Claims.arg r 8 2 →
      (Claims.arg r 1 3 ≠ 0 ∨ n = 0 ∨ 256 < n → ∃ t, exec (.regRead r) s = .next t ∧ Claims.MbxSays s t 0x52 r 2 0 []) ∧
      (Claims.arg r 1 3 = 0 → 0 < n → n ≤ 256 →
        ((∃ i, i < n ∧ s.debugLevel < readLevel d (o + 8 * i)) →
          ∃ t, exec (.regRead r) s = .next t ∧ Claims.MbxSays s t 0x52 r 4 0 []) ∧
        ((∀ i, i < n → readLevel d (o + 8 * i) ≤ s.debugLevel) →
          ∃ t, exec (.regRead r) s = .next t ∧ Claims.Reply t 0x52 r 0 0 (s.readRow d (rowOf o n)).1))) ∧
    (Claims.Asks s r 12 →
      (Claims.Undelivered r 0 8 → ∃ t, exec (.mftSubmit r) s = .next t ∧ Claims.MbxSays s t 0x10 r 5 0 []) ∧
      (∀ b, Claims.Delivered r 0 8 b →
        (s.mft.phase = .idle → ∃ t, exec (.mftSubmit r) s = .next t ∧ Claims.Waits t 0x10 r .manifest ∧ t.mft.phase = .validating ∧
          t.mft.candidate = b) ∧
        (s.mft.phase ≠ .idle → ∃ t, exec (.mftSubmit r) s = .next t ∧ Claims.Reply t 0x10 r 3 0x0C [] ∧ t.mft.phase = s.mft.phase))) ∧
    (∀ (g : Sigs) (i : Nat), Claims.Asks s r 20 → i = Claims.arg r 0 1 →
      (1 < i ∨ Claims.arg r 1 7 ≠ 0 → ∃ t, exec (.imageWrite r g) s = .next t ∧ Claims.MbxSays s t 0x70 r 2 0 []) ∧
      (i < 2 → Claims.arg r 1 7 = 0 →
        (Claims.Undelivered r 8 16 → ∃ t, exec (.imageWrite r g) s = .next t ∧ Claims.MbxSays s t 0x70 r 5 0 []) ∧
        (∀ b c, Claims.Delivered r 8 16 b → c = Claims.firstOf (Claims.imageFaults s i b g) →
          (c ≠ 0 → ∃ t, exec (.imageWrite r g) s = .next t ∧ Claims.Reply t 0x70 r 3 c [] ∧ t.rst = s.rst) ∧
          (c = 0 → ∃ t, exec (.imageWrite r g) s = .next t ∧ Claims.Reply t 0x70 r 0 0 [] ∧
            ∀ j, tget none t.rst.firmwares j = if j = i then
              some { keyIx := bf b 0x0A 1, version := bf b 0x0C 4, digest := sha384 (b.take (192 + bf b 0x10 4)) }
              else tget none s.rst.firmwares j)))) ∧
    (Claims.Asks s r 28 →
      (∀ i m v, i = Claims.arg r 0 2 → m = Claims.arg r 2 2 → v = Claims.arg r 4 2 →
        (128 ≤ i ∨ m < 1280 ∨ 9000 < m ∨ 4096 ≤ v ∨ Claims.arg r 6 2 ≠ 0 →
          ∃ t, exec (.ifConfig r) s = .next t ∧ Claims.MbxSays s t 0x40 r 2 0 []) ∧
        (i < 128 → 1280 ≤ m → m ≤ 9000 → v < 4096 → Claims.arg r 6 2 = 0 →
          ∃ t, exec (.ifConfig r) s = .next t ∧ Claims.Reply t 0x40 r 0 0 [] ∧ ∀ j, t.iface j = if j = i then
            { s.iface i with mtu := m, vlan := v, ip6Hi := BitVec.ofNat 64 (Claims.arg r 8 8),
                             ip6Lo := BitVec.ofNat 64 (Claims.arg r 16 8), ip4 := Claims.arg r 24 4 }
            else s.iface j)) ∧
      (Claims.arg r 1 7 ≠ 0 → ∃ t, exec (.sec r) s = .next t ∧ Claims.MbxSays s t 0x60 r 2 0 []) ∧
      (Claims.arg r 1 7 = 0 →
        (0 < Claims.arg r 16 4 → Claims.Undelivered r 8 16 → ∃ t, exec (.sec r) s = .next t ∧ Claims.MbxSays s t 0x60 r 5 0 []) ∧
        (∀ op b, op = Claims.arg r 0 1 → (Claims.arg r 16 4 = 0 ∧ b = []) ∨ (0 < Claims.arg r 16 4 ∧ Claims.Delivered r 8 16 b) →
          (s.sec.running = none → 1 ≤ op → op ≤ 6 → ∃ t, exec (.sec r) s = .next t ∧ Claims.Waits t 0x60 r .security ∧
            t.sec.running = some op ∧ t.sec.input = b ∧ t.sec.viaMbx = true) ∧
          (s.sec.running = none → op = 0 ∨ 6 < op → ∃ t, exec (.sec r) s = .next t ∧ Claims.Reply t 0x60 r 3 1 (bytesOf 4 0)) ∧
          (s.sec.running.isSome = true → ∃ t, exec (.sec r) s = .next t ∧ Claims.Reply t 0x60 r 3 5 (bytesOf 4 0) ∧
            t.sec.running = s.sec.running)))) ∧
    (Claims.Asks s r 56 → ∀ b, b = Claims.arg r 0 1 →
      (Claims.arg r 1 7 ≠ 0 → ∃ t, exec (.berthKey r) s = .next t ∧ Claims.MbxSays s t 0x21 r 2 0 []) ∧
      (Claims.arg r 1 7 = 0 → (s.berth b).state = 1 ∨ (s.berth b).state = 6 →
        ∃ t, exec (.berthKey r) s = .next t ∧ Claims.Reply t 0x21 r 0 0 [] ∧ (∀ c, c ≠ b → t.berth c = s.berth c) ∧
          ∀ j, j < 6 → tget 0 (t.berth b).tkey j = BitVec.ofNat 64 (Claims.arg r (8 + 8 * j) 8)) ∧
      (Claims.arg r 1 7 = 0 → (s.berth b).state ≠ 1 → (s.berth b).state ≠ 6 →
        ∃ t, exec (.berthKey r) s = .next t ∧ Claims.MbxSays s t 0x21 r 0 0 [])) ∧
    (Claims.Asks s r 56 → ∀ op b, op = Claims.arg r 0 1 → b = Claims.arg r 1 1 →
      (15 < op ∨ Claims.arg r 2 6 ≠ 0 → ∃ t, exec (.berth r) s = .next t ∧ Claims.MbxSays s t 0x20 r 2 0 []) ∧
      (op ≤ 15 → Claims.arg r 2 6 = 0 →
        (∃ t, exec (.berth r) s = .next t ∧ ∀ j, j < 6 → tget 0 t.bth.args j = BitVec.ofNat 64 (Claims.arg r (8 + 8 * j) 8)) ∧
        (s.bth.running.isSome = true → ∃ t, exec (.berth r) s = .next t ∧ Claims.Reply t 0x20 r 3 5 (bytesOf 1 b) ∧
          t.berths = s.berths) ∧
        (s.bth.running = none → (∀ q, s.poolHeld q = false) →
          (op = 2 → (s.berth b).state = 1 ∨ (s.berth b).state = 6 → s.mft.running.isSome = true →
            ∃ t, exec (.berth r) s = .next t ∧ Claims.Reply t 0x20 r 0 0 (bytesOf 1 b) ∧ (t.berth b).state = 2) ∧
          (op = 2 → (s.berth b).state ≠ 1 → (s.berth b).state ≠ 6 →
            ∃ t, exec (.berth r) s = .next t ∧ Claims.Reply t 0x20 r 3 3 (bytesOf 1 b) ∧ t.berths = s.berths) ∧
          (op = 0 ∨ 8 ≤ op →
            ∃ t, exec (.berth r) s = .next t ∧ Claims.Reply t 0x20 r 3 2 (bytesOf 1 b) ∧ t.berths = s.berths)))))

/-! ### Reset, boot and observation -/

/-- 17 R377, 18 R393, 19 R407, R421, 21 R452 to R461, R464, R470, 22 R474 to R479: a cold reset loses volatile state alone and a
boot follows once nothing holds it; a stale owner key record is zeroised; the boot ends ready, without a Manifest, in recovery, or in the failed state by
what it finds; the watchdog, READY and a die reset act as their registers say; supplies, RESET_IN_N and the trip latch
act at once. That a boot is one command, and what a die reset leaves, are log entries 27 and 28. A command that is not
due changes nothing (the model's choice, log entry 2). -/
def Obligations.ResetAndBootFollowTheirOrder : Prop :=
  (∀ (s : State) (r : BootReport), s.bootMay = true → s.failed = none → s.mft.running = none →
    (s.rst.bootFrom5 = false → r.entropyOk = false → ∃ t, exec (.bootBegin r) s = .next t ∧ Claims.BootFailed t 2 5 0x20) ∧
    (s.rst.bootFrom5 = false → r.entropyOk = true →
      ((∀ i, i < 2 → s.imageFits i = false) → ∃ t, exec (.bootBegin r) s = .next t ∧ t.rst.pending = false ∧ t.rst.step = 4 ∧
        t.rst.recovery = true ∧ t.rst.fwUp = s.rst.fwUp ∧ t.failed = none) ∧
      (∀ i j m, i = (if s.rst.cause = 4 then 1 - s.rst.image else s.rst.prefer) % 2 →
        j = (if s.imageFits i = true then i else 1 - i) → s.imageFits j = true → tget none s.rst.firmwares j = some m →
        (∀ d, r.laneFail = some d → ∃ t, exec (.bootBegin r) s = .next t ∧ Claims.BootFailed t 6 1 d ∧ t.rst.image = j) ∧
        (∀ d, r.laneFail = none → d < 4 → 4 < Claims.lostAt s r d → (∀ e, e < d → Claims.lostAt s r e ≤ 4) →
          ∃ t, exec (.bootBegin r) s = .next t ∧ Claims.BootFailed t 7 3 (16 + d)) ∧
        (Claims.BootsWell s r → ∃ t, exec (.bootBegin r) s = .next t ∧ Claims.Booted s t r ∧ t.rst.image = j ∧
          t.sec.fwVersion = m.version ∧ t.sec.ready = true ∧ s.sec.top ≤ t.sec.next ∧ t.sec.challenge.length = 32 ∧
          (s.sec.ownerTrans ≠ s.transitions → t.sec.owner = none) ∧
          (∀ k, k < m.keyIx → t.sec.revoked.testBit k = true) ∧
          ((∀ k, (tget {} s.mft.slots k).bytes = []) → t.mft.running = none)))) ∧
    (∀ m, s.rst.bootFrom5 = true → tget none s.rst.firmwares s.rst.image = some m →
      (s.imageGood m = true → m.digest = s.sec.fwDigest → Claims.BootsWell s r →
        ∃ t, exec (.bootBegin r) s = .next t ∧ Claims.Booted s t r ∧ t.rst.image = s.rst.image ∧ t.sec.fwVersion = s.sec.fwVersion) ∧
      (s.imageGood m = false ∨ m.digest ≠ s.sec.fwDigest →
        ∃ t, exec (.bootBegin r) s = .next t ∧ Claims.ColdReset s t 6))) ∧
  (∀ (s : State) (r : BootReport), s.rst.pending = false ∨ s.rst.power = false ∨ s.rst.refclk = false ∨ s.rst.resetIn = true ∨
    s.aon.tripped = true → exec (.bootBegin r) s = .next s) ∧
  (∀ s : State,
    (s.stopped = false → s.rst.fwUp = true → ∃ t, exec .rstCtlCold s = .next t ∧ Claims.ColdReset s t 2) ∧
    (s.stopped = true ∨ s.rst.fwUp = false → exec .rstCtlCold s = .next s) ∧
    (s.fwActs = true → exec .rstCtlReady s = .next { s with rst :=
      { s.rst with watchdog := none, tries := if s.mft.running = none then s.rst.tries else 0 } }) ∧
    (∀ d, s.fwActs = true →
      (d < 8 → (s.die d).pwr.west = 0 → (s.die d).pwr.rising = none → ∃ t, exec (.rstCtlDie d) s = .next t ∧ (t.die d).state = 1 ∧
        (t.die d).resetEnd = some (s.tick + 200000) ∧ (t.die d).binds = (s.die d).binds ∧
        (∀ j, j < 108 → (t.core (d * 108 + j)).work = {}) ∧ (∀ e, e ≠ d → t.die e = s.die e) ∧ t.mem = s.mem) ∧
      (8 ≤ d ∨ (s.die d).pwr.west ≠ 0 ∨ (s.die d).pwr.rising ≠ none →
        exec (.rstCtlDie d) s = .next { s with rst := { s.rst with refused := true } })) ∧
    (∀ d u, s.running = true → (s.die d).resetEnd = some u →
      (u ≤ s.tick → ∃ t, exec (.dieResetComplete d) s = .next t ∧ (t.die d).state = 2 ∧ (t.die d).resetEnd = none) ∧
      (s.tick < u → exec (.dieResetComplete d) s = .next s)) ∧
    (∀ u, s.rst.watchdog = some u → s.failed = none →
      (u + 100000000 ≤ s.tick → ∃ t, exec .bootWatchdogExpiry s = .next t ∧ Claims.ColdReset s t 4 ∧
        t.rst.tries = min 7 (s.rst.tries + 1) ∧ t.rst.prefer = if 1 ≤ s.rst.tries then s.rst.image else s.rst.prefer) ∧
      (s.tick < u + 100000000 → exec .bootWatchdogExpiry s = .next s)) ∧
    (s.rst.power = true → s.failed = none → ∃ t, exec .securityControllerFault s = .next t ∧ t.failed = some 5 ∧
      t.nv.fatalCause = 5 ∧ t.nv.fatalDie = 0x20 ∧ t.rst.ready = false)) ∧
  (∀ s : State,
    (s.rst.power = false → ∃ t, exec .powerGood s = .next t ∧ t.rst.power = true ∧ t.rst.vddAon = true ∧ t.rst.pending = true ∧
      t.rst.cause = 0 ∧ t.tick = 0 ∧ t.aon.tripped = s.aon.tripped) ∧
    (s.rst.power = true → exec .powerGood s = .next s) ∧
    (s.rst.power = true → ∃ t, exec .powerGoodLost s = .next t ∧ Claims.ColdReset s t 0 ∧ t.rst.power = false ∧ t.mbx = {} ∧
      t.aon.tripped = s.aon.tripped) ∧
    (s.rst.power = true → ∃ t, exec (.resetInN true) s = .next t ∧ Claims.ColdReset s t 1 ∧ t.rst.resetIn = true ∧
      t.aon.tripped = s.aon.tripped) ∧
    exec (.resetInN false) s = .next { s with rst := { s.rst with resetIn := false } } ∧
    (∀ j k : Bool, s.rst.vddAon = true → s.rst.power = true → j = true ∨ k = true → ∃ t, exec (.thermalTrip j k) s = .next t ∧
      t.aon.tripped = true ∧ t.aon.tripJunction = (s.aon.tripJunction || j) ∧ t.aon.tripStack = (s.aon.tripStack || k) ∧
      t.rst.fwUp = false ∧ t.rst.ready = false ∧ t.running = false ∧ (∀ p, p < 64 → (t.port p).state = 0) ∧
      (∀ i, (t.iface i).up = false) ∧ t.mem = s.mem) ∧
    (∃ t, exec .vddAonRemoval s = .next t ∧ Claims.ColdReset s t 0 ∧ t.rst.power = false ∧ t.rst.vddAon = false ∧
      t.aon.tripped = false))

/-- 00 R3 to R6, 01 R30, R38, R39, 02 R62, 03 R80, 19 R430, 21 R465, R470: a read returns a register and clears its RC fields; a
write changes the fields that its access code lets be written, clears a W1C bit by 1, and stores to memory; an access that meets
nothing reads zero, has no effect and sets CS_ERR. Every read and write of firmware, and every read of the manager, completes; what
a partner's memory reads as is free (the model's choice, log entry 76). -/
def Obligations.RegistersFollowTheirAccessCodes : Prop :=
  ∀ s : State, s.stopped = false → s.rst.fwUp = true →
    (∀ d, d < 8 → ∃ t, exec (.rcRead (.dpa 0 (csBase + d * 16777216 + 0x30010) 8)) s = .next t ∧
      t.out = Out.value (BitVec.ofNat 64 (s.die d).rpr.refetch) :: s.out ∧ (t.die d).rpr.refetch = 0 ∧
      ∀ e, e ≠ d → t.die e = s.die e) ∧
    (∀ die a n d off b o, Claims.RegisterAt a n d off b o →
      (∃ t, exec (.rcRead (.dpa die a n)) s = .next t ∧
        t = { s.regClear d b o with out := Out.value (BitVec.ofNat 64 (s.regValue d b o)) :: (s.regClear d b o).out }) ∧
      (s.fwActs = true → ∀ v, exec (.registerWrite (.dpa die a n) v) s = .next (s.regWrite d b o v))) ∧
    (∀ p ∈ Claims.plainRegs, exec (.rcRead (.dpa 0 (csBase + p.1) 8)) s = .next { s with out := Out.value (p.2.1 s) :: s.out } ∧
      (s.fwActs = true → ∀ v, exec (.registerWrite (.dpa 0 (csBase + p.1) 8) v) s = .next (p.2.2 v s))) ∧
    (∀ die a n, a < csBase → s.dpaLoc a = .nothing →
      (∃ t, exec (.rcRead (.dpa die a n)) s = .next t ∧ t.out = Out.value 0 :: s.out ∧ (t.die die).csErr = true) ∧
      ∀ v, ∃ t, exec (.registerWrite (.dpa die a n) v) s = .next t ∧ (t.die die).csErr = true ∧ t.mem = s.mem) ∧
    (∀ die a n p off, a < csBase → s.dpaLoc a = .remote p off →
      exec (.rcRead (.dpa die a n)) s = .next { s with free := s.free + 1, out := Out.value (Config.freeWord s.free 0) :: s.out } ∧
      (s.fwActs = true → s.linkUp p = true → ∀ v, ∃ t, exec (.registerWrite (.dpa die a n) v) s = .next t ∧ t.mem = s.mem ∧
        ∃ r ∈ (t.port p).outbound ++ (t.port p).waitq,
          r.msg = { wrMsg off (bytesOf (min 8 n) v.toNat) with tag := r.msg.tag })) ∧
    (∀ die a, a < csBase → s.dpaLoc a = .mem a → exec (.rcRead (.dpa die a 8)) s =
      .next { s with out := Out.value (BitVec.ofNat 64 (ofBytes ((List.range 8).map fun i => s.byte (a + i)))) :: s.out }) ∧
    (∀ d n, d < 8 → n ≠ 8 → (s.die d).mon.csErr < 4294967294 →
      (∃ t, exec (.rcRead (.dpa 0 (csBase + d * 16777216) n)) s = .next t ∧ t.out = Out.value 0 :: s.out ∧
        (t.die d).csErr = true ∧ (t.die d).mon.csErr = (s.die d).mon.csErr + 1) ∧
      ∀ v, ∃ t, exec (.registerWrite (.dpa 0 (csBase + d * 16777216) n) v) s = .next t ∧ (t.die d).csErr = true ∧
        (t.die d).mon.csErr = (s.die d).mon.csErr + 1 ∧ t.mem = s.mem) ∧
    (s.mbx.linkUp = true → s.rst.power = true →
      (∀ off, ∃ t, exec (.rcRead (.bar off)) s = .next t ∧ t.out = Out.value (BitVec.ofNat 64 (s.mbxReg off)) :: s.out) ∧
      exec (.rcRead (.bar 0x3020)) s = .next { s with mbx := { s.mbx with dropped := 0 },
                                                      out := Out.value (BitVec.ofNat 64 s.mbx.dropped) :: s.out } ∧
      (∀ v, exec (.registerWrite (.bar 0x3018) v) s = .next { s with mbx := { s.mbx with tail := v.toNat % 128 } }) ∧
      ∀ v, exec (.registerWrite (.bar 0x3008) v) s = .next { s with
        mbx := { s.mbx with respReady := s.mbx.respReady && !bitAt 1 v, evtLost := s.mbx.evtLost && !bitAt 5 v } }) ∧
    (s.fwActs = true →
      (∀ d v, d < 8 → ∃ t, exec (.registerWrite (.dpa 0 (csBase + d * 16777216 + 8) 8) v) s = .next t ∧
        (t.die d).csErr = ((s.die d).csErr && !bitAt 8 v) ∧ ∀ e, e ≠ d → t.die e = s.die e) ∧
      (∀ v, exec (.registerWrite (.dpa 0 (csBase + 0x20201000) 8) v) s = .next s) ∧
      (∀ die a v, a < csBase → s.dpaLoc a = .mem a → (∀ i, i < 8 → (s.line ((a + i) / 128)).pend = []) → ∃ t, exec (.registerWrite (.dpa die a 8) v) s = .next t ∧
        (∀ i, i < 8 → t.byte (a + i) = BitVec.ofNat 8 (v.toNat / 256 ^ i)) ∧
        (∀ b, b < a ∨ a + 8 ≤ b → t.byte b = s.byte b) ∧ t.berths = s.berths))

/-- 15 R328, R336, 16 R357, 17 R362, 20 R434, R440 to R451, 22 R475 to R477, R482, R483, R486: the rows of one register
have its effect; while D3 is engaged a trigger stops its die within 12 cycles, and the broadcast every die; a stopped
die is scanned out; JTAG and I3C answer at their pins; a pin that disagrees ten samples in a row is reported; ten
coolant evaluations turn the flow. A command that is not due changes nothing (the model's choice, log entry 2).
Layouts of scanned bytes are log entry 31. -/
def Obligations.ObservationAndPinsFollowTheirRows : Prop :=
  (∀ s : State, s.fwActs = true →
    (∀ d c n, d < 8 → c < 12 → n = d * 12 + c →
      ((s.cluster n).asleep = true → (s.cluster n).waking = false → (s.cluster n).parts = [] → (s.cluster n).test = none →
        s.halfOff n = false → ∃ t, exec (.rprSelftestStart d c) s = .next t ∧ (t.cluster n).test = some s.tick ∧
          (∀ j, j < 9 → (t.core (n * 9 + j)).slotState = 3) ∧ (t.die d).rpr.cluster = c ∧ (t.die d).rpr.result = 0) ∧
      ((s.cluster n).asleep = false ∨ (s.cluster n).waking = true ∨ (s.cluster n).parts ≠ [] ∨ (s.cluster n).test ≠ none ∨
        s.halfOff n = true → exec (.rprSelftestStart d c) s = .next s)) ∧
    (∀ d, (s.die d).state ≠ 0 → ∃ t, exec (.monCtlStart d) s = .next t ∧ (t.die d).mon.units = [] ∧
      (t.die d).mon.interval = (s.die d).mon.time ∧ (t.die d).mon.time = (s.die d).mon.time ∧ ∀ e, e ≠ d → t.die e = s.die e) ∧
    (∀ p, p < 64 →
      ((s.port p).mode = 0 → exec (.xptCtlReset p) s = .next s) ∧
      ((s.port p).mode = 1 → (s.port p).carries = true → Claims.Bare s p →
        ∃ t, exec (.xptCtlReset p) s = .next t ∧ Claims.PortLost s t p 6) ∧
      ((s.port p).mode = 1 → (s.port p).carries = false → ∃ t, exec (.xptCtlReset p) s = .next t ∧ (t.port p).state = 0 ∧
        (t.port p).darkEnd = some (s.tick + 100000) ∧ (t.port p).loss = (s.port p).loss) ∧
      (2 ≤ (s.port p).mode → ∃ t, exec (.xptCtlReset p) s = .next t ∧
        ∀ i, t.iface i = if i = 2 * p ∨ i = 2 * p + 1 then { s.iface i with up := false } else s.iface i)) ∧
    (∀ p e v, p < 64 → e < 128 → s.mbx.req = none →
      ((∀ m ∈ (s.port p).inq, m.op < 0x81 → exportOf m.addr ≠ e) →
        (bitAt 0 v = false ∨ bitAt p (s.berth (fld 8 8 v)).grant.ports = true →
          ∃ t, exec (.xptExportWrite p e v) s = .next t ∧ ∀ i, tget 0 (t.port p).exports i =
            if i = e then BitVec.ofNat 64 (fld 0 2 v + fld 8 8 v * 256 + fld 30 18 v * 1073741824) else tget 0 (s.port p).exports i) ∧
        (bitAt 0 v = true → bitAt p (s.berth (fld 8 8 v)).grant.ports = false → exec (.xptExportWrite p e v) s = .next s)) ∧
      ((∃ m ∈ (s.port p).inq, m.op < 0x81 ∧ exportOf m.addr = e) → ∃ t, exec (.xptExportWrite p e v) s = .next t ∧
        (t.port p).exports = (s.port p).exports ∧ (t.port p).exportWait = (s.port p).exportWait ++ [(e, v)])) ∧
    (∀ b j v, b < 256 → j < 6 →
      ((s.berth b).state = 1 ∨ (s.berth b).state = 6 → ∃ t, exec (.ethBTkeyWrite b j v) s = .next t ∧
        (∀ i, tget 0 (t.berth b).tkey i = if i = j then v else tget 0 (s.berth b).tkey i) ∧ ∀ c, c ≠ b → t.berth c = s.berth c) ∧
      ((s.berth b).state ≠ 1 → (s.berth b).state ≠ 6 → exec (.ethBTkeyWrite b j v) s = .next s)) ∧
    (∀ cats : Nat, ∃ t, exec (.aonEvtAck cats) s = .next t ∧
      ∀ c, c < 8 → t.evtOpen.testBit c = (s.evtOpen.testBit c && !cats.testBit c)) ∧
    (∀ d, (s.engaged = true → (s.die d).dbg.stopped = false → ∃ t, exec (.dbgCtlStop d) s = .next t ∧ t.stopAsked = true ∧
        (t.die d).dbg.stopped = true ∧ (t.die d).dbg.origin = true ∧ (t.die d).dbg.trig = (s.die d).dbg.stamp ∧
        ∃ n, n ≤ 12 ∧ (t.die d).dbg.stop = ((s.die d).dbg.stamp + n) % 2 ^ 64) ∧
      (s.engaged = false → exec (.dbgCtlStop d) s = .next s))) ∧
  (∀ s : State,
    (s.stopAsked = true → s.stopped = false → ∃ t, exec .allstopBroadcast s = .next t ∧ t.stopped = true ∧ t.running = false ∧
      ∀ d, isDie d = true → (t.die d).dbg.stopped = true ∧ (t.die d).dbg.seen = (s.die d).dbg.stamp ∧
        ((s.die d).dbg.stopped = true → (t.die d).dbg.stop = (s.die d).dbg.stop) ∧
        ((s.die d).dbg.stopped = false → ∃ n, n ≤ 12 ∧ (t.die d).dbg.stop = ((s.die d).dbg.stamp + n) % 2 ^ 64)) ∧
    (s.stopAsked = false → exec .allstopBroadcast s = .next s) ∧
    (∀ d, isDie d = true → (s.stopped = true → exec (.scanOut d) s = .next { s with out := .pinsOut 2 (s.scanRecord d) :: s.out }) ∧
      (s.stopped = false → exec (.scanOut d) s = .next s)) ∧
    (s.rst.power = true → s.aon.moored = false →
      exec .jtagBypass s = .next { s with out := .pinsOut 0 [] :: s.out } ∧
      exec .jtagIdcode s = .next { s with out := .pinsOut 0 [0xF3, 0x04, 0x80, 0x18] :: s.out } ∧
      exec .jtagSamplePreload s = .next { s with out := .pinsOut 0 (bytesOf 2 s.aon.pinLevel) :: s.out } ∧
      exec .jtagExtest s = .next { s with out := .pinsOut (if s.debugLevel = 3 then 3 else 0) [] :: s.out } ∧
      (s.running = true → s.engaged = true → (s.die 0x20).dbg.stopped = false → ∃ t, exec .jtagAllstop s = .next t ∧
        t.stopAsked = true ∧ (t.die 0x20).dbg.stopped = true ∧ (t.die 0x20).dbg.origin = true) ∧
      (s.engaged = false → exec .jtagAllstop s = .next s)) ∧
    (s.rst.vddAon = true → s.rst.power = true ∨ s.aon.tripped = true →
      exec .i3cStatusRead s = .next { s with out := .pinsOut 1 (bytesOf 1 s.powerState ++ bytesOf 1 s.hotJunction ++ bytesOf 1 s.hotStack ++
        bytesOf 2 (s.pwr.total / 16) ++ bytesOf 1 (if s.aon.tripped then 1 else 0) ++ bytesOf 2 s.aon.shortLow ++
        bytesOf 2 s.aon.shortHigh) :: s.out }) ∧
    (∀ level : Nat, s.rst.vddAon = true → s.rst.power = true → ∃ t, exec (.pinShortSample level) s = .next t ∧
      t.aon.pinLevel = level % 4096 ∧ ∀ n, n < 11 →
        tget 0 t.aon.runLow n =
          (if s.pinAsserted n = false ∧ level.testBit n = false then min 10 (tget 0 s.aon.runLow n + 1) else 0) ∧
        tget 0 t.aon.runHigh n =
          (if s.pinAsserted n = true ∧ level.testBit n = true then min 10 (tget 0 s.aon.runHigh n + 1) else 0) ∧
        (t.aon.shortLow.testBit n = true ↔ s.aon.shortLow.testBit n = true ∨ tget 0 t.aon.runLow n = 10) ∧
        (t.aon.shortHigh.testBit n = true ↔ s.aon.shortHigh.testBit n = true ∨ tget 0 t.aon.runHigh n = 10)) ∧
    (∀ i o : Nat, s.running = true → s.rst.power = true → 16000 < s.pwr.total →
      (s.aon.coolTick + 10000000 ≤ s.tick → s.aon.reversed = false → ∃ t, exec (.coolantEvaluation i o) s = .next t ∧
        t.aon.inletRow = i ∧ t.aon.outletRow = o ∧ t.aon.coolTick = s.tick ∧
        (i < o + 32 → t.aon.coolRun = 0 ∧ t.aon.reversed = false) ∧
        (o + 32 ≤ i → s.aon.coolRun < 9 → t.aon.coolRun = s.aon.coolRun + 1 ∧ t.aon.reversed = false) ∧
        (o + 32 ≤ i → s.aon.coolRun = 9 → t.aon.coolRun = 0 ∧ t.aon.reversed = true)) ∧
      (s.tick < s.aon.coolTick + 10000000 → exec (.coolantEvaluation i o) s = .next s)))
end

