-- ==== Sys2Proof/Laws/Table.lean ====
section
/-! SUPPORT. Laws of sparse tables: what is read after a write, and that every write keeps the canonical form. -/

namespace Sys2Proof.Machine

variable {α : Type}

/-- Entries that a filter on keys drops are read as the default; the others as before. -/
theorem tget_filter (d : α) (t : Tbl α) (p : Nat → Bool) (i : Nat) :
    tget d (t.filter fun q => p q.1) i = if p i then tget d t i else d := by
  induction t with
  | nil => simp [tget]
  | cons q t ih =>
    obtain ⟨j, y⟩ := q
    by_cases hj : j = i
    · subst hj
      by_cases hp : p j <;> simp [List.filter, hp, tget, ih]
    · by_cases hp : p j <;> simp [List.filter, hp, tget, ih, hj]

theorem tget_terase (d : α) (t : Tbl α) (i j : Nat) :
    tget d (terase t i) j = if j = i then d else tget d t j := by
  have h := tget_filter d t (fun k => k != i) j
  by_cases hj : j = i <;> simp_all [terase]

theorem tget_tinsert (d : α) (t : Tbl α) (i j : Nat) (x : α) (h : ∀ p ∈ t, p.1 ≠ i) :
    tget d (tinsert i x t) j = if j = i then x else tget d t j := by
  induction t with
  | nil => by_cases hj : i = j <;> simp [tinsert, tget, hj, eq_comm]
  | cons q t ih =>
    obtain ⟨k, y⟩ := q
    have hk : k ≠ i := h (k, y) (by simp)
    have ih := ih fun p hp => h p (by simp [hp])
    by_cases hlt : i < k
    · by_cases hj : j = i
      · simp [tinsert, hlt, tget, hj]
      · simp [tinsert, hlt, tget, hj, Ne.symm hj]
    · by_cases hkj : k = j
      · subst hkj; simp [tinsert, hlt, tget, hk]
      · simp [tinsert, hlt, tget, hkj, ih]

/-- What a key reads as after a write. -/
theorem tget_tset [DecidableEq α] (d : α) (t : Tbl α) (i j : Nat) (x : α) :
    tget d (tset d t i x) j = if j = i then x else tget d t j := by
  unfold tset
  by_cases hx : x = d
  · simp [hx, tget_terase]
  · rw [if_neg hx, tget_tinsert d _ i j x (by simp [terase])]
    by_cases hj : j = i <;> simp [hj, tget_terase]

/-- A write is read back. -/
@[simp] theorem tget_tset_same [DecidableEq α] (d : α) (t : Tbl α) (i : Nat) (x : α) :
    tget d (tset d t i x) i = x := by simp [tget_tset]

/-- A write leaves every other key alone. -/
theorem tget_tset_ne [DecidableEq α] (d : α) (t : Tbl α) {i j : Nat} (x : α) (h : j ≠ i) :
    tget d (tset d t i x) j = tget d t j := by simp [tget_tset, h]

/-! ### The canonical form -/

theorem tsorted_mono {lo lo' : Nat} (t : Tbl α) (h : lo' ≤ lo) (ht : tsorted lo t = true) : tsorted lo' t = true := by
  cases t with
  | nil => rfl
  | cons q t => simp [tsorted] at ht ⊢; exact ⟨le_trans h ht.1, ht.2⟩

theorem tsorted_filter (lo : Nat) (t : Tbl α) (p : Nat × α → Bool) (h : tsorted lo t = true) :
    tsorted lo (t.filter p) = true := by
  induction t generalizing lo with
  | nil => rfl
  | cons q t ih =>
    simp [tsorted] at h
    by_cases hp : p q
    · simp [List.filter, hp, tsorted, h.1, ih _ h.2]
    · simp [List.filter, hp]; exact tsorted_mono _ (by omega) (ih _ h.2)

theorem tsorted_tinsert (lo i : Nat) (x : α) (t : Tbl α) (hlo : lo ≤ i) (hi : ∀ p ∈ t, p.1 ≠ i)
    (h : tsorted lo t = true) : tsorted lo (tinsert i x t) = true := by
  induction t generalizing lo with
  | nil => simp [tinsert, tsorted, hlo]
  | cons q t ih =>
    obtain ⟨k, y⟩ := q
    simp [tsorted] at h
    have hk : k ≠ i := hi (k, y) (by simp)
    by_cases hlt : i < k
    · simp only [tinsert, hlt, if_true, tsorted, Bool.and_eq_true, decide_eq_true_eq]
      exact ⟨hlo, by omega, h.2⟩
    · simp only [tinsert, hlt, if_false, tsorted, Bool.and_eq_true, decide_eq_true_eq]
      exact ⟨h.1, ih (k + 1) (by omega) (fun p hp => hi p (by simp [hp])) h.2⟩

theorem mem_tinsert (i : Nat) (x : α) (t : Tbl α) (p : Nat × α) : p ∈ tinsert i x t ↔ p = (i, x) ∨ p ∈ t := by
  induction t with
  | nil => simp [tinsert]
  | cons q t ih =>
    obtain ⟨k, y⟩ := q
    by_cases hlt : i < k
    · simp [tinsert, hlt]
    · simp [tinsert, hlt, ih, or_left_comm]

/-- Filtering a table keeps the canonical form. -/
theorem wf_filter [DecidableEq α] (d : α) (t : Tbl α) (p : Nat × α → Bool) (h : Tbl.wf d t = true) :
    Tbl.wf d (t.filter p) = true := by
  simp only [Tbl.wf, Bool.and_eq_true, List.all_eq_true] at h ⊢
  exact ⟨tsorted_filter _ _ _ h.1, fun q hq => h.2 q (List.mem_of_mem_filter hq)⟩

/-- A write keeps the canonical form. -/
theorem wf_tset [DecidableEq α] (d : α) (t : Tbl α) (i : Nat) (x : α) (h : Tbl.wf d t = true) :
    Tbl.wf d (tset d t i x) = true := by
  have hf : Tbl.wf d (terase t i) = true := wf_filter d t _ h
  unfold tset
  by_cases hx : x = d
  · simpa [hx] using hf
  · rw [if_neg hx]
    simp only [Tbl.wf, Bool.and_eq_true, List.all_eq_true] at hf ⊢
    refine ⟨tsorted_tinsert 0 i x _ (Nat.zero_le _) (by simp [terase]) hf.1, fun q hq => ?_⟩
    rcases (mem_tinsert i x _ q).1 hq with rfl | hq
    · simpa using hx
    · exact hf.2 q hq

theorem wf_tmod [DecidableEq α] (d : α) (t : Tbl α) (i : Nat) (f : α → α) (h : Tbl.wf d t = true) :
    Tbl.wf d (tmod d t i f) = true := wf_tset d t i _ h

theorem wf_nil [DecidableEq α] (d : α) : Tbl.wf d ([] : Tbl α) = true := rfl

/-- What a key reads as after its entry is changed. -/
theorem tget_tmod [DecidableEq α] (d : α) (t : Tbl α) (i j : Nat) (f : α → α) :
    tget d (tmod d t i f) j = if j = i then f (tget d t i) else tget d t j := by
  simp [tmod, tget_tset]

end Sys2Proof.Machine
end

