-- ==== Sys2Proof/Laws/State.lean ====
section
/-! SUPPORT. Laws of the State: what each named update leaves alone (one lemma per field per update), and what is read of
the part it changes. -/

namespace Sys2Proof.Machine

open Sys2Proof

/-! ### setCore -/

@[simp] theorem State.setCore_pending (i : Nat) (c : Core) (s : State) : (s.setCore i c).pending = s.pending := rfl
@[simp] theorem State.setCore_free (i : Nat) (c : Core) (s : State) : (s.setCore i c).free = s.free := rfl
@[simp] theorem State.setCore_out (i : Nat) (c : Core) (s : State) : (s.setCore i c).out = s.out := rfl
@[simp] theorem State.setCore_tick (i : Nat) (c : Core) (s : State) : (s.setCore i c).tick = s.tick := rfl
@[simp] theorem State.setCore_failed (i : Nat) (c : Core) (s : State) : (s.setCore i c).failed = s.failed := rfl
@[simp] theorem State.setCore_stopped (i : Nat) (c : Core) (s : State) : (s.setCore i c).stopped = s.stopped := rfl
@[simp] theorem State.setCore_clusters (i : Nat) (c : Core) (s : State) : (s.setCore i c).clusters = s.clusters := rfl
@[simp] theorem State.setCore_ctxs (i : Nat) (c : Core) (s : State) : (s.setCore i c).ctxs = s.ctxs := rfl
@[simp] theorem State.setCore_orders (i : Nat) (c : Core) (s : State) : (s.setCore i c).orders = s.orders := rfl
@[simp] theorem State.setCore_berths (i : Nat) (c : Core) (s : State) : (s.setCore i c).berths = s.berths := rfl
@[simp] theorem State.setCore_dies (i : Nat) (c : Core) (s : State) : (s.setCore i c).dies = s.dies := rfl
@[simp] theorem State.setCore_mbx (i : Nat) (c : Core) (s : State) : (s.setCore i c).mbx = s.mbx := rfl
@[simp] theorem State.setCore_conns (i : Nat) (c : Core) (s : State) : (s.setCore i c).conns = s.conns := rfl
@[simp] theorem State.setCore_nextConn (i : Nat) (c : Core) (s : State) : (s.setCore i c).nextConn = s.nextConn := rfl
@[simp] theorem State.setCore_outbox (i : Nat) (c : Core) (s : State) : (s.setCore i c).outbox = s.outbox := rfl
@[simp] theorem State.setCore_sends (i : Nat) (c : Core) (s : State) : (s.setCore i c).sends = s.sends := rfl
@[simp] theorem State.setCore_evtOpen (i : Nat) (c : Core) (s : State) : (s.setCore i c).evtOpen = s.evtOpen := rfl
@[simp] theorem State.setCore_retired (i : Nat) (c : Core) (s : State) : (s.setCore i c).retired = s.retired := rfl
@[simp] theorem State.setCore_stackGib (i : Nat) (c : Core) (s : State) : (s.setCore i c).stackGib = s.stackGib := rfl
@[simp] theorem State.setCore_lpxCount (i : Nat) (c : Core) (s : State) : (s.setCore i c).lpxCount = s.lpxCount := rfl
@[simp] theorem State.setCore_lpxGib (i : Nat) (c : Core) (s : State) : (s.setCore i c).lpxGib = s.lpxGib := rfl
@[simp] theorem State.setCore_rst (i : Nat) (c : Core) (s : State) : (s.setCore i c).rst = s.rst := rfl
@[simp] theorem State.setCore_aon (i : Nat) (c : Core) (s : State) : (s.setCore i c).aon = s.aon := rfl
@[simp] theorem State.setCore_pwr (i : Nat) (c : Core) (s : State) : (s.setCore i c).pwr = s.pwr := rfl
@[simp] theorem State.setCore_sec (i : Nat) (c : Core) (s : State) : (s.setCore i c).sec = s.sec := rfl
@[simp] theorem State.setCore_cal (i : Nat) (c : Core) (s : State) : (s.setCore i c).cal = s.cal := rfl
@[simp] theorem State.setCore_nv (i : Nat) (c : Core) (s : State) : (s.setCore i c).nv = s.nv := rfl
@[simp] theorem State.setCore_bth (i : Nat) (c : Core) (s : State) : (s.setCore i c).bth = s.bth := rfl
@[simp] theorem State.setCore_prf (i : Nat) (c : Core) (s : State) : (s.setCore i c).prf = s.prf := rfl
@[simp] theorem State.setCore_engaged (i : Nat) (c : Core) (s : State) : (s.setCore i c).engaged = s.engaged := rfl
@[simp] theorem State.setCore_stopAsked (i : Nat) (c : Core) (s : State) : (s.setCore i c).stopAsked = s.stopAsked := rfl
@[simp] theorem State.setCore_ifaces (i : Nat) (c : Core) (s : State) : (s.setCore i c).ifaces = s.ifaces := rfl
@[simp] theorem State.setCore_authFail (i : Nat) (c : Core) (s : State) : (s.setCore i c).authFail = s.authFail := rfl
@[simp] theorem State.setCore_lpx (i : Nat) (c : Core) (s : State) : (s.setCore i c).lpx = s.lpx := rfl
@[simp] theorem State.setCore_packages (i : Nat) (c : Core) (s : State) : (s.setCore i c).packages = s.packages := rfl
@[simp] theorem State.setCore_trained (i : Nat) (c : Core) (s : State) : (s.setCore i c).trained = s.trained := rfl
@[simp] theorem State.setCore_credits (i : Nat) (c : Core) (s : State) : (s.setCore i c).credits = s.credits := rfl
@[simp] theorem State.setCore_sliceMap (i : Nat) (c : Core) (s : State) : (s.setCore i c).sliceMap = s.sliceMap := rfl
@[simp] theorem State.setCore_mft (i : Nat) (c : Core) (s : State) : (s.setCore i c).mft = s.mft := rfl
@[simp] theorem State.setCore_sessions (i : Nat) (c : Core) (s : State) : (s.setCore i c).sessions = s.sessions := rfl
@[simp] theorem State.setCore_stores (i : Nat) (c : Core) (s : State) : (s.setCore i c).stores = s.stores := rfl
@[simp] theorem State.setCore_engines (i : Nat) (c : Core) (s : State) : (s.setCore i c).engines = s.engines := rfl
@[simp] theorem State.setCore_descs (i : Nat) (c : Core) (s : State) : (s.setCore i c).descs = s.descs := rfl
@[simp] theorem State.setCore_nextDesc (i : Nat) (c : Core) (s : State) : (s.setCore i c).nextDesc = s.nextDesc := rfl
@[simp] theorem State.setCore_hbm (i : Nat) (c : Core) (s : State) : (s.setCore i c).hbm = s.hbm := rfl
@[simp] theorem State.setCore_slices (i : Nat) (c : Core) (s : State) : (s.setCore i c).slices = s.slices := rfl
@[simp] theorem State.setCore_lines (i : Nat) (c : Core) (s : State) : (s.setCore i c).lines = s.lines := rfl
@[simp] theorem State.setCore_copies (i : Nat) (c : Core) (s : State) : (s.setCore i c).copies = s.copies := rfl
@[simp] theorem State.setCore_plru (i : Nat) (c : Core) (s : State) : (s.setCore i c).plru = s.plru := rfl
@[simp] theorem State.setCore_cohMsgs (i : Nat) (c : Core) (s : State) : (s.setCore i c).cohMsgs = s.cohMsgs := rfl
@[simp] theorem State.setCore_mdDies (i : Nat) (c : Core) (s : State) : (s.setCore i c).mdDies = s.mdDies := rfl
@[simp] theorem State.setCore_ports (i : Nat) (c : Core) (s : State) : (s.setCore i c).ports = s.ports := rfl
@[simp] theorem State.setCore_marks (i : Nat) (c : Core) (s : State) : (s.setCore i c).marks = s.marks := rfl
@[simp] theorem State.setCore_backing (i : Nat) (c : Core) (s : State) : (s.setCore i c).backing = s.backing := rfl
@[simp] theorem State.setCore_mem (i : Nat) (c : Core) (s : State) : (s.setCore i c).mem = s.mem := rfl

/-! ### modCore -/

@[simp] theorem State.modCore_pending (i : Nat) (f : Core → Core) (s : State) : (s.modCore i f).pending = s.pending := rfl
@[simp] theorem State.modCore_free (i : Nat) (f : Core → Core) (s : State) : (s.modCore i f).free = s.free := rfl
@[simp] theorem State.modCore_out (i : Nat) (f : Core → Core) (s : State) : (s.modCore i f).out = s.out := rfl
@[simp] theorem State.modCore_tick (i : Nat) (f : Core → Core) (s : State) : (s.modCore i f).tick = s.tick := rfl
@[simp] theorem State.modCore_failed (i : Nat) (f : Core → Core) (s : State) : (s.modCore i f).failed = s.failed := rfl
@[simp] theorem State.modCore_stopped (i : Nat) (f : Core → Core) (s : State) : (s.modCore i f).stopped = s.stopped := rfl
@[simp] theorem State.modCore_clusters (i : Nat) (f : Core → Core) (s : State) : (s.modCore i f).clusters = s.clusters := rfl
@[simp] theorem State.modCore_ctxs (i : Nat) (f : Core → Core) (s : State) : (s.modCore i f).ctxs = s.ctxs := rfl
@[simp] theorem State.modCore_orders (i : Nat) (f : Core → Core) (s : State) : (s.modCore i f).orders = s.orders := rfl
@[simp] theorem State.modCore_berths (i : Nat) (f : Core → Core) (s : State) : (s.modCore i f).berths = s.berths := rfl
@[simp] theorem State.modCore_dies (i : Nat) (f : Core → Core) (s : State) : (s.modCore i f).dies = s.dies := rfl
@[simp] theorem State.modCore_mbx (i : Nat) (f : Core → Core) (s : State) : (s.modCore i f).mbx = s.mbx := rfl
@[simp] theorem State.modCore_conns (i : Nat) (f : Core → Core) (s : State) : (s.modCore i f).conns = s.conns := rfl
@[simp] theorem State.modCore_nextConn (i : Nat) (f : Core → Core) (s : State) : (s.modCore i f).nextConn = s.nextConn := rfl
@[simp] theorem State.modCore_outbox (i : Nat) (f : Core → Core) (s : State) : (s.modCore i f).outbox = s.outbox := rfl
@[simp] theorem State.modCore_sends (i : Nat) (f : Core → Core) (s : State) : (s.modCore i f).sends = s.sends := rfl
@[simp] theorem State.modCore_evtOpen (i : Nat) (f : Core → Core) (s : State) : (s.modCore i f).evtOpen = s.evtOpen := rfl
@[simp] theorem State.modCore_retired (i : Nat) (f : Core → Core) (s : State) : (s.modCore i f).retired = s.retired := rfl
@[simp] theorem State.modCore_stackGib (i : Nat) (f : Core → Core) (s : State) : (s.modCore i f).stackGib = s.stackGib := rfl
@[simp] theorem State.modCore_lpxCount (i : Nat) (f : Core → Core) (s : State) : (s.modCore i f).lpxCount = s.lpxCount := rfl
@[simp] theorem State.modCore_lpxGib (i : Nat) (f : Core → Core) (s : State) : (s.modCore i f).lpxGib = s.lpxGib := rfl
@[simp] theorem State.modCore_rst (i : Nat) (f : Core → Core) (s : State) : (s.modCore i f).rst = s.rst := rfl
@[simp] theorem State.modCore_aon (i : Nat) (f : Core → Core) (s : State) : (s.modCore i f).aon = s.aon := rfl
@[simp] theorem State.modCore_pwr (i : Nat) (f : Core → Core) (s : State) : (s.modCore i f).pwr = s.pwr := rfl
@[simp] theorem State.modCore_sec (i : Nat) (f : Core → Core) (s : State) : (s.modCore i f).sec = s.sec := rfl
@[simp] theorem State.modCore_cal (i : Nat) (f : Core → Core) (s : State) : (s.modCore i f).cal = s.cal := rfl
@[simp] theorem State.modCore_nv (i : Nat) (f : Core → Core) (s : State) : (s.modCore i f).nv = s.nv := rfl
@[simp] theorem State.modCore_bth (i : Nat) (f : Core → Core) (s : State) : (s.modCore i f).bth = s.bth := rfl
@[simp] theorem State.modCore_prf (i : Nat) (f : Core → Core) (s : State) : (s.modCore i f).prf = s.prf := rfl
@[simp] theorem State.modCore_engaged (i : Nat) (f : Core → Core) (s : State) : (s.modCore i f).engaged = s.engaged := rfl
@[simp] theorem State.modCore_stopAsked (i : Nat) (f : Core → Core) (s : State) : (s.modCore i f).stopAsked = s.stopAsked := rfl
@[simp] theorem State.modCore_ifaces (i : Nat) (f : Core → Core) (s : State) : (s.modCore i f).ifaces = s.ifaces := rfl
@[simp] theorem State.modCore_authFail (i : Nat) (f : Core → Core) (s : State) : (s.modCore i f).authFail = s.authFail := rfl
@[simp] theorem State.modCore_lpx (i : Nat) (f : Core → Core) (s : State) : (s.modCore i f).lpx = s.lpx := rfl
@[simp] theorem State.modCore_packages (i : Nat) (f : Core → Core) (s : State) : (s.modCore i f).packages = s.packages := rfl
@[simp] theorem State.modCore_trained (i : Nat) (f : Core → Core) (s : State) : (s.modCore i f).trained = s.trained := rfl
@[simp] theorem State.modCore_credits (i : Nat) (f : Core → Core) (s : State) : (s.modCore i f).credits = s.credits := rfl
@[simp] theorem State.modCore_sliceMap (i : Nat) (f : Core → Core) (s : State) : (s.modCore i f).sliceMap = s.sliceMap := rfl
@[simp] theorem State.modCore_mft (i : Nat) (f : Core → Core) (s : State) : (s.modCore i f).mft = s.mft := rfl
@[simp] theorem State.modCore_sessions (i : Nat) (f : Core → Core) (s : State) : (s.modCore i f).sessions = s.sessions := rfl
@[simp] theorem State.modCore_stores (i : Nat) (f : Core → Core) (s : State) : (s.modCore i f).stores = s.stores := rfl
@[simp] theorem State.modCore_engines (i : Nat) (f : Core → Core) (s : State) : (s.modCore i f).engines = s.engines := rfl
@[simp] theorem State.modCore_descs (i : Nat) (f : Core → Core) (s : State) : (s.modCore i f).descs = s.descs := rfl
@[simp] theorem State.modCore_nextDesc (i : Nat) (f : Core → Core) (s : State) : (s.modCore i f).nextDesc = s.nextDesc := rfl
@[simp] theorem State.modCore_hbm (i : Nat) (f : Core → Core) (s : State) : (s.modCore i f).hbm = s.hbm := rfl
@[simp] theorem State.modCore_slices (i : Nat) (f : Core → Core) (s : State) : (s.modCore i f).slices = s.slices := rfl
@[simp] theorem State.modCore_lines (i : Nat) (f : Core → Core) (s : State) : (s.modCore i f).lines = s.lines := rfl
@[simp] theorem State.modCore_copies (i : Nat) (f : Core → Core) (s : State) : (s.modCore i f).copies = s.copies := rfl
@[simp] theorem State.modCore_plru (i : Nat) (f : Core → Core) (s : State) : (s.modCore i f).plru = s.plru := rfl
@[simp] theorem State.modCore_cohMsgs (i : Nat) (f : Core → Core) (s : State) : (s.modCore i f).cohMsgs = s.cohMsgs := rfl
@[simp] theorem State.modCore_mdDies (i : Nat) (f : Core → Core) (s : State) : (s.modCore i f).mdDies = s.mdDies := rfl
@[simp] theorem State.modCore_ports (i : Nat) (f : Core → Core) (s : State) : (s.modCore i f).ports = s.ports := rfl
@[simp] theorem State.modCore_marks (i : Nat) (f : Core → Core) (s : State) : (s.modCore i f).marks = s.marks := rfl
@[simp] theorem State.modCore_backing (i : Nat) (f : Core → Core) (s : State) : (s.modCore i f).backing = s.backing := rfl
@[simp] theorem State.modCore_mem (i : Nat) (f : Core → Core) (s : State) : (s.modCore i f).mem = s.mem := rfl

/-! ### modWork -/

@[simp] theorem State.modWork_pending (i : Nat) (f : CoreWork → CoreWork) (s : State) : (s.modWork i f).pending = s.pending := rfl
@[simp] theorem State.modWork_free (i : Nat) (f : CoreWork → CoreWork) (s : State) : (s.modWork i f).free = s.free := rfl
@[simp] theorem State.modWork_out (i : Nat) (f : CoreWork → CoreWork) (s : State) : (s.modWork i f).out = s.out := rfl
@[simp] theorem State.modWork_tick (i : Nat) (f : CoreWork → CoreWork) (s : State) : (s.modWork i f).tick = s.tick := rfl
@[simp] theorem State.modWork_failed (i : Nat) (f : CoreWork → CoreWork) (s : State) : (s.modWork i f).failed = s.failed := rfl
@[simp] theorem State.modWork_stopped (i : Nat) (f : CoreWork → CoreWork) (s : State) : (s.modWork i f).stopped = s.stopped := rfl
@[simp] theorem State.modWork_clusters (i : Nat) (f : CoreWork → CoreWork) (s : State) : (s.modWork i f).clusters = s.clusters := rfl
@[simp] theorem State.modWork_ctxs (i : Nat) (f : CoreWork → CoreWork) (s : State) : (s.modWork i f).ctxs = s.ctxs := rfl
@[simp] theorem State.modWork_orders (i : Nat) (f : CoreWork → CoreWork) (s : State) : (s.modWork i f).orders = s.orders := rfl
@[simp] theorem State.modWork_berths (i : Nat) (f : CoreWork → CoreWork) (s : State) : (s.modWork i f).berths = s.berths := rfl
@[simp] theorem State.modWork_dies (i : Nat) (f : CoreWork → CoreWork) (s : State) : (s.modWork i f).dies = s.dies := rfl
@[simp] theorem State.modWork_mbx (i : Nat) (f : CoreWork → CoreWork) (s : State) : (s.modWork i f).mbx = s.mbx := rfl
@[simp] theorem State.modWork_conns (i : Nat) (f : CoreWork → CoreWork) (s : State) : (s.modWork i f).conns = s.conns := rfl
@[simp] theorem State.modWork_nextConn (i : Nat) (f : CoreWork → CoreWork) (s : State) : (s.modWork i f).nextConn = s.nextConn := rfl
@[simp] theorem State.modWork_outbox (i : Nat) (f : CoreWork → CoreWork) (s : State) : (s.modWork i f).outbox = s.outbox := rfl
@[simp] theorem State.modWork_sends (i : Nat) (f : CoreWork → CoreWork) (s : State) : (s.modWork i f).sends = s.sends := rfl
@[simp] theorem State.modWork_evtOpen (i : Nat) (f : CoreWork → CoreWork) (s : State) : (s.modWork i f).evtOpen = s.evtOpen := rfl
@[simp] theorem State.modWork_retired (i : Nat) (f : CoreWork → CoreWork) (s : State) : (s.modWork i f).retired = s.retired := rfl
@[simp] theorem State.modWork_stackGib (i : Nat) (f : CoreWork → CoreWork) (s : State) : (s.modWork i f).stackGib = s.stackGib := rfl
@[simp] theorem State.modWork_lpxCount (i : Nat) (f : CoreWork → CoreWork) (s : State) : (s.modWork i f).lpxCount = s.lpxCount := rfl
@[simp] theorem State.modWork_lpxGib (i : Nat) (f : CoreWork → CoreWork) (s : State) : (s.modWork i f).lpxGib = s.lpxGib := rfl
@[simp] theorem State.modWork_rst (i : Nat) (f : CoreWork → CoreWork) (s : State) : (s.modWork i f).rst = s.rst := rfl
@[simp] theorem State.modWork_aon (i : Nat) (f : CoreWork → CoreWork) (s : State) : (s.modWork i f).aon = s.aon := rfl
@[simp] theorem State.modWork_pwr (i : Nat) (f : CoreWork → CoreWork) (s : State) : (s.modWork i f).pwr = s.pwr := rfl
@[simp] theorem State.modWork_sec (i : Nat) (f : CoreWork → CoreWork) (s : State) : (s.modWork i f).sec = s.sec := rfl
@[simp] theorem State.modWork_cal (i : Nat) (f : CoreWork → CoreWork) (s : State) : (s.modWork i f).cal = s.cal := rfl
@[simp] theorem State.modWork_nv (i : Nat) (f : CoreWork → CoreWork) (s : State) : (s.modWork i f).nv = s.nv := rfl
@[simp] theorem State.modWork_bth (i : Nat) (f : CoreWork → CoreWork) (s : State) : (s.modWork i f).bth = s.bth := rfl
@[simp] theorem State.modWork_prf (i : Nat) (f : CoreWork → CoreWork) (s : State) : (s.modWork i f).prf = s.prf := rfl
@[simp] theorem State.modWork_engaged (i : Nat) (f : CoreWork → CoreWork) (s : State) : (s.modWork i f).engaged = s.engaged := rfl
@[simp] theorem State.modWork_stopAsked (i : Nat) (f : CoreWork → CoreWork) (s : State) : (s.modWork i f).stopAsked = s.stopAsked := rfl
@[simp] theorem State.modWork_ifaces (i : Nat) (f : CoreWork → CoreWork) (s : State) : (s.modWork i f).ifaces = s.ifaces := rfl
@[simp] theorem State.modWork_authFail (i : Nat) (f : CoreWork → CoreWork) (s : State) : (s.modWork i f).authFail = s.authFail := rfl
@[simp] theorem State.modWork_lpx (i : Nat) (f : CoreWork → CoreWork) (s : State) : (s.modWork i f).lpx = s.lpx := rfl
@[simp] theorem State.modWork_packages (i : Nat) (f : CoreWork → CoreWork) (s : State) : (s.modWork i f).packages = s.packages := rfl
@[simp] theorem State.modWork_trained (i : Nat) (f : CoreWork → CoreWork) (s : State) : (s.modWork i f).trained = s.trained := rfl
@[simp] theorem State.modWork_credits (i : Nat) (f : CoreWork → CoreWork) (s : State) : (s.modWork i f).credits = s.credits := rfl
@[simp] theorem State.modWork_sliceMap (i : Nat) (f : CoreWork → CoreWork) (s : State) : (s.modWork i f).sliceMap = s.sliceMap := rfl
@[simp] theorem State.modWork_mft (i : Nat) (f : CoreWork → CoreWork) (s : State) : (s.modWork i f).mft = s.mft := rfl
@[simp] theorem State.modWork_sessions (i : Nat) (f : CoreWork → CoreWork) (s : State) : (s.modWork i f).sessions = s.sessions := rfl
@[simp] theorem State.modWork_stores (i : Nat) (f : CoreWork → CoreWork) (s : State) : (s.modWork i f).stores = s.stores := rfl
@[simp] theorem State.modWork_engines (i : Nat) (f : CoreWork → CoreWork) (s : State) : (s.modWork i f).engines = s.engines := rfl
@[simp] theorem State.modWork_descs (i : Nat) (f : CoreWork → CoreWork) (s : State) : (s.modWork i f).descs = s.descs := rfl
@[simp] theorem State.modWork_nextDesc (i : Nat) (f : CoreWork → CoreWork) (s : State) : (s.modWork i f).nextDesc = s.nextDesc := rfl
@[simp] theorem State.modWork_hbm (i : Nat) (f : CoreWork → CoreWork) (s : State) : (s.modWork i f).hbm = s.hbm := rfl
@[simp] theorem State.modWork_slices (i : Nat) (f : CoreWork → CoreWork) (s : State) : (s.modWork i f).slices = s.slices := rfl
@[simp] theorem State.modWork_lines (i : Nat) (f : CoreWork → CoreWork) (s : State) : (s.modWork i f).lines = s.lines := rfl
@[simp] theorem State.modWork_copies (i : Nat) (f : CoreWork → CoreWork) (s : State) : (s.modWork i f).copies = s.copies := rfl
@[simp] theorem State.modWork_plru (i : Nat) (f : CoreWork → CoreWork) (s : State) : (s.modWork i f).plru = s.plru := rfl
@[simp] theorem State.modWork_cohMsgs (i : Nat) (f : CoreWork → CoreWork) (s : State) : (s.modWork i f).cohMsgs = s.cohMsgs := rfl
@[simp] theorem State.modWork_mdDies (i : Nat) (f : CoreWork → CoreWork) (s : State) : (s.modWork i f).mdDies = s.mdDies := rfl
@[simp] theorem State.modWork_ports (i : Nat) (f : CoreWork → CoreWork) (s : State) : (s.modWork i f).ports = s.ports := rfl
@[simp] theorem State.modWork_marks (i : Nat) (f : CoreWork → CoreWork) (s : State) : (s.modWork i f).marks = s.marks := rfl
@[simp] theorem State.modWork_backing (i : Nat) (f : CoreWork → CoreWork) (s : State) : (s.modWork i f).backing = s.backing := rfl
@[simp] theorem State.modWork_mem (i : Nat) (f : CoreWork → CoreWork) (s : State) : (s.modWork i f).mem = s.mem := rfl

/-! ### setGroup -/

@[simp] theorem State.setGroup_pending (c : CoreAt) (g : Group) (s : State) : (s.setGroup c g).pending = s.pending := rfl
@[simp] theorem State.setGroup_free (c : CoreAt) (g : Group) (s : State) : (s.setGroup c g).free = s.free := rfl
@[simp] theorem State.setGroup_out (c : CoreAt) (g : Group) (s : State) : (s.setGroup c g).out = s.out := rfl
@[simp] theorem State.setGroup_tick (c : CoreAt) (g : Group) (s : State) : (s.setGroup c g).tick = s.tick := rfl
@[simp] theorem State.setGroup_failed (c : CoreAt) (g : Group) (s : State) : (s.setGroup c g).failed = s.failed := rfl
@[simp] theorem State.setGroup_stopped (c : CoreAt) (g : Group) (s : State) : (s.setGroup c g).stopped = s.stopped := rfl
@[simp] theorem State.setGroup_clusters (c : CoreAt) (g : Group) (s : State) : (s.setGroup c g).clusters = s.clusters := rfl
@[simp] theorem State.setGroup_ctxs (c : CoreAt) (g : Group) (s : State) : (s.setGroup c g).ctxs = s.ctxs := rfl
@[simp] theorem State.setGroup_orders (c : CoreAt) (g : Group) (s : State) : (s.setGroup c g).orders = s.orders := rfl
@[simp] theorem State.setGroup_berths (c : CoreAt) (g : Group) (s : State) : (s.setGroup c g).berths = s.berths := rfl
@[simp] theorem State.setGroup_dies (c : CoreAt) (g : Group) (s : State) : (s.setGroup c g).dies = s.dies := rfl
@[simp] theorem State.setGroup_mbx (c : CoreAt) (g : Group) (s : State) : (s.setGroup c g).mbx = s.mbx := rfl
@[simp] theorem State.setGroup_conns (c : CoreAt) (g : Group) (s : State) : (s.setGroup c g).conns = s.conns := rfl
@[simp] theorem State.setGroup_nextConn (c : CoreAt) (g : Group) (s : State) : (s.setGroup c g).nextConn = s.nextConn := rfl
@[simp] theorem State.setGroup_outbox (c : CoreAt) (g : Group) (s : State) : (s.setGroup c g).outbox = s.outbox := rfl
@[simp] theorem State.setGroup_sends (c : CoreAt) (g : Group) (s : State) : (s.setGroup c g).sends = s.sends := rfl
@[simp] theorem State.setGroup_evtOpen (c : CoreAt) (g : Group) (s : State) : (s.setGroup c g).evtOpen = s.evtOpen := rfl
@[simp] theorem State.setGroup_retired (c : CoreAt) (g : Group) (s : State) : (s.setGroup c g).retired = s.retired := rfl
@[simp] theorem State.setGroup_stackGib (c : CoreAt) (g : Group) (s : State) : (s.setGroup c g).stackGib = s.stackGib := rfl
@[simp] theorem State.setGroup_lpxCount (c : CoreAt) (g : Group) (s : State) : (s.setGroup c g).lpxCount = s.lpxCount := rfl
@[simp] theorem State.setGroup_lpxGib (c : CoreAt) (g : Group) (s : State) : (s.setGroup c g).lpxGib = s.lpxGib := rfl
@[simp] theorem State.setGroup_rst (c : CoreAt) (g : Group) (s : State) : (s.setGroup c g).rst = s.rst := rfl
@[simp] theorem State.setGroup_aon (c : CoreAt) (g : Group) (s : State) : (s.setGroup c g).aon = s.aon := rfl
@[simp] theorem State.setGroup_pwr (c : CoreAt) (g : Group) (s : State) : (s.setGroup c g).pwr = s.pwr := rfl
@[simp] theorem State.setGroup_sec (c : CoreAt) (g : Group) (s : State) : (s.setGroup c g).sec = s.sec := rfl
@[simp] theorem State.setGroup_cal (c : CoreAt) (g : Group) (s : State) : (s.setGroup c g).cal = s.cal := rfl
@[simp] theorem State.setGroup_nv (c : CoreAt) (g : Group) (s : State) : (s.setGroup c g).nv = s.nv := rfl
@[simp] theorem State.setGroup_bth (c : CoreAt) (g : Group) (s : State) : (s.setGroup c g).bth = s.bth := rfl
@[simp] theorem State.setGroup_prf (c : CoreAt) (g : Group) (s : State) : (s.setGroup c g).prf = s.prf := rfl
@[simp] theorem State.setGroup_engaged (c : CoreAt) (g : Group) (s : State) : (s.setGroup c g).engaged = s.engaged := rfl
@[simp] theorem State.setGroup_stopAsked (c : CoreAt) (g : Group) (s : State) : (s.setGroup c g).stopAsked = s.stopAsked := rfl
@[simp] theorem State.setGroup_ifaces (c : CoreAt) (g : Group) (s : State) : (s.setGroup c g).ifaces = s.ifaces := rfl
@[simp] theorem State.setGroup_authFail (c : CoreAt) (g : Group) (s : State) : (s.setGroup c g).authFail = s.authFail := rfl
@[simp] theorem State.setGroup_lpx (c : CoreAt) (g : Group) (s : State) : (s.setGroup c g).lpx = s.lpx := rfl
@[simp] theorem State.setGroup_packages (c : CoreAt) (g : Group) (s : State) : (s.setGroup c g).packages = s.packages := rfl
@[simp] theorem State.setGroup_trained (c : CoreAt) (g : Group) (s : State) : (s.setGroup c g).trained = s.trained := rfl
@[simp] theorem State.setGroup_credits (c : CoreAt) (g : Group) (s : State) : (s.setGroup c g).credits = s.credits := rfl
@[simp] theorem State.setGroup_sliceMap (c : CoreAt) (g : Group) (s : State) : (s.setGroup c g).sliceMap = s.sliceMap := rfl
@[simp] theorem State.setGroup_mft (c : CoreAt) (g : Group) (s : State) : (s.setGroup c g).mft = s.mft := rfl
@[simp] theorem State.setGroup_sessions (c : CoreAt) (g : Group) (s : State) : (s.setGroup c g).sessions = s.sessions := rfl
@[simp] theorem State.setGroup_stores (c : CoreAt) (g : Group) (s : State) : (s.setGroup c g).stores = s.stores := rfl
@[simp] theorem State.setGroup_engines (c : CoreAt) (g : Group) (s : State) : (s.setGroup c g).engines = s.engines := rfl
@[simp] theorem State.setGroup_descs (c : CoreAt) (g : Group) (s : State) : (s.setGroup c g).descs = s.descs := rfl
@[simp] theorem State.setGroup_nextDesc (c : CoreAt) (g : Group) (s : State) : (s.setGroup c g).nextDesc = s.nextDesc := rfl
@[simp] theorem State.setGroup_hbm (c : CoreAt) (g : Group) (s : State) : (s.setGroup c g).hbm = s.hbm := rfl
@[simp] theorem State.setGroup_slices (c : CoreAt) (g : Group) (s : State) : (s.setGroup c g).slices = s.slices := rfl
@[simp] theorem State.setGroup_lines (c : CoreAt) (g : Group) (s : State) : (s.setGroup c g).lines = s.lines := rfl
@[simp] theorem State.setGroup_copies (c : CoreAt) (g : Group) (s : State) : (s.setGroup c g).copies = s.copies := rfl
@[simp] theorem State.setGroup_plru (c : CoreAt) (g : Group) (s : State) : (s.setGroup c g).plru = s.plru := rfl
@[simp] theorem State.setGroup_cohMsgs (c : CoreAt) (g : Group) (s : State) : (s.setGroup c g).cohMsgs = s.cohMsgs := rfl
@[simp] theorem State.setGroup_mdDies (c : CoreAt) (g : Group) (s : State) : (s.setGroup c g).mdDies = s.mdDies := rfl
@[simp] theorem State.setGroup_ports (c : CoreAt) (g : Group) (s : State) : (s.setGroup c g).ports = s.ports := rfl
@[simp] theorem State.setGroup_marks (c : CoreAt) (g : Group) (s : State) : (s.setGroup c g).marks = s.marks := rfl
@[simp] theorem State.setGroup_backing (c : CoreAt) (g : Group) (s : State) : (s.setGroup c g).backing = s.backing := rfl
@[simp] theorem State.setGroup_mem (c : CoreAt) (g : Group) (s : State) : (s.setGroup c g).mem = s.mem := rfl

/-! ### modGroup -/

@[simp] theorem State.modGroup_pending (c : CoreAt) (f : Group → Group) (s : State) : (s.modGroup c f).pending = s.pending := rfl
@[simp] theorem State.modGroup_free (c : CoreAt) (f : Group → Group) (s : State) : (s.modGroup c f).free = s.free := rfl
@[simp] theorem State.modGroup_out (c : CoreAt) (f : Group → Group) (s : State) : (s.modGroup c f).out = s.out := rfl
@[simp] theorem State.modGroup_tick (c : CoreAt) (f : Group → Group) (s : State) : (s.modGroup c f).tick = s.tick := rfl
@[simp] theorem State.modGroup_failed (c : CoreAt) (f : Group → Group) (s : State) : (s.modGroup c f).failed = s.failed := rfl
@[simp] theorem State.modGroup_stopped (c : CoreAt) (f : Group → Group) (s : State) : (s.modGroup c f).stopped = s.stopped := rfl
@[simp] theorem State.modGroup_clusters (c : CoreAt) (f : Group → Group) (s : State) : (s.modGroup c f).clusters = s.clusters := rfl
@[simp] theorem State.modGroup_ctxs (c : CoreAt) (f : Group → Group) (s : State) : (s.modGroup c f).ctxs = s.ctxs := rfl
@[simp] theorem State.modGroup_orders (c : CoreAt) (f : Group → Group) (s : State) : (s.modGroup c f).orders = s.orders := rfl
@[simp] theorem State.modGroup_berths (c : CoreAt) (f : Group → Group) (s : State) : (s.modGroup c f).berths = s.berths := rfl
@[simp] theorem State.modGroup_dies (c : CoreAt) (f : Group → Group) (s : State) : (s.modGroup c f).dies = s.dies := rfl
@[simp] theorem State.modGroup_mbx (c : CoreAt) (f : Group → Group) (s : State) : (s.modGroup c f).mbx = s.mbx := rfl
@[simp] theorem State.modGroup_conns (c : CoreAt) (f : Group → Group) (s : State) : (s.modGroup c f).conns = s.conns := rfl
@[simp] theorem State.modGroup_nextConn (c : CoreAt) (f : Group → Group) (s : State) : (s.modGroup c f).nextConn = s.nextConn := rfl
@[simp] theorem State.modGroup_outbox (c : CoreAt) (f : Group → Group) (s : State) : (s.modGroup c f).outbox = s.outbox := rfl
@[simp] theorem State.modGroup_sends (c : CoreAt) (f : Group → Group) (s : State) : (s.modGroup c f).sends = s.sends := rfl
@[simp] theorem State.modGroup_evtOpen (c : CoreAt) (f : Group → Group) (s : State) : (s.modGroup c f).evtOpen = s.evtOpen := rfl
@[simp] theorem State.modGroup_retired (c : CoreAt) (f : Group → Group) (s : State) : (s.modGroup c f).retired = s.retired := rfl
@[simp] theorem State.modGroup_stackGib (c : CoreAt) (f : Group → Group) (s : State) : (s.modGroup c f).stackGib = s.stackGib := rfl
@[simp] theorem State.modGroup_lpxCount (c : CoreAt) (f : Group → Group) (s : State) : (s.modGroup c f).lpxCount = s.lpxCount := rfl
@[simp] theorem State.modGroup_lpxGib (c : CoreAt) (f : Group → Group) (s : State) : (s.modGroup c f).lpxGib = s.lpxGib := rfl
@[simp] theorem State.modGroup_rst (c : CoreAt) (f : Group → Group) (s : State) : (s.modGroup c f).rst = s.rst := rfl
@[simp] theorem State.modGroup_aon (c : CoreAt) (f : Group → Group) (s : State) : (s.modGroup c f).aon = s.aon := rfl
@[simp] theorem State.modGroup_pwr (c : CoreAt) (f : Group → Group) (s : State) : (s.modGroup c f).pwr = s.pwr := rfl
@[simp] theorem State.modGroup_sec (c : CoreAt) (f : Group → Group) (s : State) : (s.modGroup c f).sec = s.sec := rfl
@[simp] theorem State.modGroup_cal (c : CoreAt) (f : Group → Group) (s : State) : (s.modGroup c f).cal = s.cal := rfl
@[simp] theorem State.modGroup_nv (c : CoreAt) (f : Group → Group) (s : State) : (s.modGroup c f).nv = s.nv := rfl
@[simp] theorem State.modGroup_bth (c : CoreAt) (f : Group → Group) (s : State) : (s.modGroup c f).bth = s.bth := rfl
@[simp] theorem State.modGroup_prf (c : CoreAt) (f : Group → Group) (s : State) : (s.modGroup c f).prf = s.prf := rfl
@[simp] theorem State.modGroup_engaged (c : CoreAt) (f : Group → Group) (s : State) : (s.modGroup c f).engaged = s.engaged := rfl
@[simp] theorem State.modGroup_stopAsked (c : CoreAt) (f : Group → Group) (s : State) : (s.modGroup c f).stopAsked = s.stopAsked := rfl
@[simp] theorem State.modGroup_ifaces (c : CoreAt) (f : Group → Group) (s : State) : (s.modGroup c f).ifaces = s.ifaces := rfl
@[simp] theorem State.modGroup_authFail (c : CoreAt) (f : Group → Group) (s : State) : (s.modGroup c f).authFail = s.authFail := rfl
@[simp] theorem State.modGroup_lpx (c : CoreAt) (f : Group → Group) (s : State) : (s.modGroup c f).lpx = s.lpx := rfl
@[simp] theorem State.modGroup_packages (c : CoreAt) (f : Group → Group) (s : State) : (s.modGroup c f).packages = s.packages := rfl
@[simp] theorem State.modGroup_trained (c : CoreAt) (f : Group → Group) (s : State) : (s.modGroup c f).trained = s.trained := rfl
@[simp] theorem State.modGroup_credits (c : CoreAt) (f : Group → Group) (s : State) : (s.modGroup c f).credits = s.credits := rfl
@[simp] theorem State.modGroup_sliceMap (c : CoreAt) (f : Group → Group) (s : State) : (s.modGroup c f).sliceMap = s.sliceMap := rfl
@[simp] theorem State.modGroup_mft (c : CoreAt) (f : Group → Group) (s : State) : (s.modGroup c f).mft = s.mft := rfl
@[simp] theorem State.modGroup_sessions (c : CoreAt) (f : Group → Group) (s : State) : (s.modGroup c f).sessions = s.sessions := rfl
@[simp] theorem State.modGroup_stores (c : CoreAt) (f : Group → Group) (s : State) : (s.modGroup c f).stores = s.stores := rfl
@[simp] theorem State.modGroup_engines (c : CoreAt) (f : Group → Group) (s : State) : (s.modGroup c f).engines = s.engines := rfl
@[simp] theorem State.modGroup_descs (c : CoreAt) (f : Group → Group) (s : State) : (s.modGroup c f).descs = s.descs := rfl
@[simp] theorem State.modGroup_nextDesc (c : CoreAt) (f : Group → Group) (s : State) : (s.modGroup c f).nextDesc = s.nextDesc := rfl
@[simp] theorem State.modGroup_hbm (c : CoreAt) (f : Group → Group) (s : State) : (s.modGroup c f).hbm = s.hbm := rfl
@[simp] theorem State.modGroup_slices (c : CoreAt) (f : Group → Group) (s : State) : (s.modGroup c f).slices = s.slices := rfl
@[simp] theorem State.modGroup_lines (c : CoreAt) (f : Group → Group) (s : State) : (s.modGroup c f).lines = s.lines := rfl
@[simp] theorem State.modGroup_copies (c : CoreAt) (f : Group → Group) (s : State) : (s.modGroup c f).copies = s.copies := rfl
@[simp] theorem State.modGroup_plru (c : CoreAt) (f : Group → Group) (s : State) : (s.modGroup c f).plru = s.plru := rfl
@[simp] theorem State.modGroup_cohMsgs (c : CoreAt) (f : Group → Group) (s : State) : (s.modGroup c f).cohMsgs = s.cohMsgs := rfl
@[simp] theorem State.modGroup_mdDies (c : CoreAt) (f : Group → Group) (s : State) : (s.modGroup c f).mdDies = s.mdDies := rfl
@[simp] theorem State.modGroup_ports (c : CoreAt) (f : Group → Group) (s : State) : (s.modGroup c f).ports = s.ports := rfl
@[simp] theorem State.modGroup_marks (c : CoreAt) (f : Group → Group) (s : State) : (s.modGroup c f).marks = s.marks := rfl
@[simp] theorem State.modGroup_backing (c : CoreAt) (f : Group → Group) (s : State) : (s.modGroup c f).backing = s.backing := rfl
@[simp] theorem State.modGroup_mem (c : CoreAt) (f : Group → Group) (s : State) : (s.modGroup c f).mem = s.mem := rfl

/-! ### modCluster -/

@[simp] theorem State.modCluster_pending (i : Nat) (f : Cluster → Cluster) (s : State) : (s.modCluster i f).pending = s.pending := rfl
@[simp] theorem State.modCluster_free (i : Nat) (f : Cluster → Cluster) (s : State) : (s.modCluster i f).free = s.free := rfl
@[simp] theorem State.modCluster_out (i : Nat) (f : Cluster → Cluster) (s : State) : (s.modCluster i f).out = s.out := rfl
@[simp] theorem State.modCluster_tick (i : Nat) (f : Cluster → Cluster) (s : State) : (s.modCluster i f).tick = s.tick := rfl
@[simp] theorem State.modCluster_failed (i : Nat) (f : Cluster → Cluster) (s : State) : (s.modCluster i f).failed = s.failed := rfl
@[simp] theorem State.modCluster_stopped (i : Nat) (f : Cluster → Cluster) (s : State) : (s.modCluster i f).stopped = s.stopped := rfl
@[simp] theorem State.modCluster_cores (i : Nat) (f : Cluster → Cluster) (s : State) : (s.modCluster i f).cores = s.cores := rfl
@[simp] theorem State.modCluster_ctxs (i : Nat) (f : Cluster → Cluster) (s : State) : (s.modCluster i f).ctxs = s.ctxs := rfl
@[simp] theorem State.modCluster_orders (i : Nat) (f : Cluster → Cluster) (s : State) : (s.modCluster i f).orders = s.orders := rfl
@[simp] theorem State.modCluster_berths (i : Nat) (f : Cluster → Cluster) (s : State) : (s.modCluster i f).berths = s.berths := rfl
@[simp] theorem State.modCluster_dies (i : Nat) (f : Cluster → Cluster) (s : State) : (s.modCluster i f).dies = s.dies := rfl
@[simp] theorem State.modCluster_mbx (i : Nat) (f : Cluster → Cluster) (s : State) : (s.modCluster i f).mbx = s.mbx := rfl
@[simp] theorem State.modCluster_conns (i : Nat) (f : Cluster → Cluster) (s : State) : (s.modCluster i f).conns = s.conns := rfl
@[simp] theorem State.modCluster_nextConn (i : Nat) (f : Cluster → Cluster) (s : State) : (s.modCluster i f).nextConn = s.nextConn := rfl
@[simp] theorem State.modCluster_outbox (i : Nat) (f : Cluster → Cluster) (s : State) : (s.modCluster i f).outbox = s.outbox := rfl
@[simp] theorem State.modCluster_sends (i : Nat) (f : Cluster → Cluster) (s : State) : (s.modCluster i f).sends = s.sends := rfl
@[simp] theorem State.modCluster_evtOpen (i : Nat) (f : Cluster → Cluster) (s : State) : (s.modCluster i f).evtOpen = s.evtOpen := rfl
@[simp] theorem State.modCluster_retired (i : Nat) (f : Cluster → Cluster) (s : State) : (s.modCluster i f).retired = s.retired := rfl
@[simp] theorem State.modCluster_stackGib (i : Nat) (f : Cluster → Cluster) (s : State) : (s.modCluster i f).stackGib = s.stackGib := rfl
@[simp] theorem State.modCluster_lpxCount (i : Nat) (f : Cluster → Cluster) (s : State) : (s.modCluster i f).lpxCount = s.lpxCount := rfl
@[simp] theorem State.modCluster_lpxGib (i : Nat) (f : Cluster → Cluster) (s : State) : (s.modCluster i f).lpxGib = s.lpxGib := rfl
@[simp] theorem State.modCluster_rst (i : Nat) (f : Cluster → Cluster) (s : State) : (s.modCluster i f).rst = s.rst := rfl
@[simp] theorem State.modCluster_aon (i : Nat) (f : Cluster → Cluster) (s : State) : (s.modCluster i f).aon = s.aon := rfl
@[simp] theorem State.modCluster_pwr (i : Nat) (f : Cluster → Cluster) (s : State) : (s.modCluster i f).pwr = s.pwr := rfl
@[simp] theorem State.modCluster_sec (i : Nat) (f : Cluster → Cluster) (s : State) : (s.modCluster i f).sec = s.sec := rfl
@[simp] theorem State.modCluster_cal (i : Nat) (f : Cluster → Cluster) (s : State) : (s.modCluster i f).cal = s.cal := rfl
@[simp] theorem State.modCluster_nv (i : Nat) (f : Cluster → Cluster) (s : State) : (s.modCluster i f).nv = s.nv := rfl
@[simp] theorem State.modCluster_bth (i : Nat) (f : Cluster → Cluster) (s : State) : (s.modCluster i f).bth = s.bth := rfl
@[simp] theorem State.modCluster_prf (i : Nat) (f : Cluster → Cluster) (s : State) : (s.modCluster i f).prf = s.prf := rfl
@[simp] theorem State.modCluster_engaged (i : Nat) (f : Cluster → Cluster) (s : State) : (s.modCluster i f).engaged = s.engaged := rfl
@[simp] theorem State.modCluster_stopAsked (i : Nat) (f : Cluster → Cluster) (s : State) : (s.modCluster i f).stopAsked = s.stopAsked := rfl
@[simp] theorem State.modCluster_ifaces (i : Nat) (f : Cluster → Cluster) (s : State) : (s.modCluster i f).ifaces = s.ifaces := rfl
@[simp] theorem State.modCluster_authFail (i : Nat) (f : Cluster → Cluster) (s : State) : (s.modCluster i f).authFail = s.authFail := rfl
@[simp] theorem State.modCluster_lpx (i : Nat) (f : Cluster → Cluster) (s : State) : (s.modCluster i f).lpx = s.lpx := rfl
@[simp] theorem State.modCluster_packages (i : Nat) (f : Cluster → Cluster) (s : State) : (s.modCluster i f).packages = s.packages := rfl
@[simp] theorem State.modCluster_trained (i : Nat) (f : Cluster → Cluster) (s : State) : (s.modCluster i f).trained = s.trained := rfl
@[simp] theorem State.modCluster_credits (i : Nat) (f : Cluster → Cluster) (s : State) : (s.modCluster i f).credits = s.credits := rfl
@[simp] theorem State.modCluster_sliceMap (i : Nat) (f : Cluster → Cluster) (s : State) : (s.modCluster i f).sliceMap = s.sliceMap := rfl
@[simp] theorem State.modCluster_mft (i : Nat) (f : Cluster → Cluster) (s : State) : (s.modCluster i f).mft = s.mft := rfl
@[simp] theorem State.modCluster_sessions (i : Nat) (f : Cluster → Cluster) (s : State) : (s.modCluster i f).sessions = s.sessions := rfl
@[simp] theorem State.modCluster_stores (i : Nat) (f : Cluster → Cluster) (s : State) : (s.modCluster i f).stores = s.stores := rfl
@[simp] theorem State.modCluster_engines (i : Nat) (f : Cluster → Cluster) (s : State) : (s.modCluster i f).engines = s.engines := rfl
@[simp] theorem State.modCluster_descs (i : Nat) (f : Cluster → Cluster) (s : State) : (s.modCluster i f).descs = s.descs := rfl
@[simp] theorem State.modCluster_nextDesc (i : Nat) (f : Cluster → Cluster) (s : State) : (s.modCluster i f).nextDesc = s.nextDesc := rfl
@[simp] theorem State.modCluster_hbm (i : Nat) (f : Cluster → Cluster) (s : State) : (s.modCluster i f).hbm = s.hbm := rfl
@[simp] theorem State.modCluster_slices (i : Nat) (f : Cluster → Cluster) (s : State) : (s.modCluster i f).slices = s.slices := rfl
@[simp] theorem State.modCluster_lines (i : Nat) (f : Cluster → Cluster) (s : State) : (s.modCluster i f).lines = s.lines := rfl
@[simp] theorem State.modCluster_copies (i : Nat) (f : Cluster → Cluster) (s : State) : (s.modCluster i f).copies = s.copies := rfl
@[simp] theorem State.modCluster_plru (i : Nat) (f : Cluster → Cluster) (s : State) : (s.modCluster i f).plru = s.plru := rfl
@[simp] theorem State.modCluster_cohMsgs (i : Nat) (f : Cluster → Cluster) (s : State) : (s.modCluster i f).cohMsgs = s.cohMsgs := rfl
@[simp] theorem State.modCluster_mdDies (i : Nat) (f : Cluster → Cluster) (s : State) : (s.modCluster i f).mdDies = s.mdDies := rfl
@[simp] theorem State.modCluster_ports (i : Nat) (f : Cluster → Cluster) (s : State) : (s.modCluster i f).ports = s.ports := rfl
@[simp] theorem State.modCluster_marks (i : Nat) (f : Cluster → Cluster) (s : State) : (s.modCluster i f).marks = s.marks := rfl
@[simp] theorem State.modCluster_backing (i : Nat) (f : Cluster → Cluster) (s : State) : (s.modCluster i f).backing = s.backing := rfl
@[simp] theorem State.modCluster_mem (i : Nat) (f : Cluster → Cluster) (s : State) : (s.modCluster i f).mem = s.mem := rfl

/-! ### setCtx -/

@[simp] theorem State.setCtx_pending (k : Nat) (x : Option Ctx) (s : State) : (s.setCtx k x).pending = s.pending := rfl
@[simp] theorem State.setCtx_free (k : Nat) (x : Option Ctx) (s : State) : (s.setCtx k x).free = s.free := rfl
@[simp] theorem State.setCtx_out (k : Nat) (x : Option Ctx) (s : State) : (s.setCtx k x).out = s.out := rfl
@[simp] theorem State.setCtx_tick (k : Nat) (x : Option Ctx) (s : State) : (s.setCtx k x).tick = s.tick := rfl
@[simp] theorem State.setCtx_failed (k : Nat) (x : Option Ctx) (s : State) : (s.setCtx k x).failed = s.failed := rfl
@[simp] theorem State.setCtx_stopped (k : Nat) (x : Option Ctx) (s : State) : (s.setCtx k x).stopped = s.stopped := rfl
@[simp] theorem State.setCtx_cores (k : Nat) (x : Option Ctx) (s : State) : (s.setCtx k x).cores = s.cores := rfl
@[simp] theorem State.setCtx_clusters (k : Nat) (x : Option Ctx) (s : State) : (s.setCtx k x).clusters = s.clusters := rfl
@[simp] theorem State.setCtx_orders (k : Nat) (x : Option Ctx) (s : State) : (s.setCtx k x).orders = s.orders := rfl
@[simp] theorem State.setCtx_berths (k : Nat) (x : Option Ctx) (s : State) : (s.setCtx k x).berths = s.berths := rfl
@[simp] theorem State.setCtx_dies (k : Nat) (x : Option Ctx) (s : State) : (s.setCtx k x).dies = s.dies := rfl
@[simp] theorem State.setCtx_mbx (k : Nat) (x : Option Ctx) (s : State) : (s.setCtx k x).mbx = s.mbx := rfl
@[simp] theorem State.setCtx_conns (k : Nat) (x : Option Ctx) (s : State) : (s.setCtx k x).conns = s.conns := rfl
@[simp] theorem State.setCtx_nextConn (k : Nat) (x : Option Ctx) (s : State) : (s.setCtx k x).nextConn = s.nextConn := rfl
@[simp] theorem State.setCtx_outbox (k : Nat) (x : Option Ctx) (s : State) : (s.setCtx k x).outbox = s.outbox := rfl
@[simp] theorem State.setCtx_sends (k : Nat) (x : Option Ctx) (s : State) : (s.setCtx k x).sends = s.sends := rfl
@[simp] theorem State.setCtx_evtOpen (k : Nat) (x : Option Ctx) (s : State) : (s.setCtx k x).evtOpen = s.evtOpen := rfl
@[simp] theorem State.setCtx_retired (k : Nat) (x : Option Ctx) (s : State) : (s.setCtx k x).retired = s.retired := rfl
@[simp] theorem State.setCtx_stackGib (k : Nat) (x : Option Ctx) (s : State) : (s.setCtx k x).stackGib = s.stackGib := rfl
@[simp] theorem State.setCtx_lpxCount (k : Nat) (x : Option Ctx) (s : State) : (s.setCtx k x).lpxCount = s.lpxCount := rfl
@[simp] theorem State.setCtx_lpxGib (k : Nat) (x : Option Ctx) (s : State) : (s.setCtx k x).lpxGib = s.lpxGib := rfl
@[simp] theorem State.setCtx_rst (k : Nat) (x : Option Ctx) (s : State) : (s.setCtx k x).rst = s.rst := rfl
@[simp] theorem State.setCtx_aon (k : Nat) (x : Option Ctx) (s : State) : (s.setCtx k x).aon = s.aon := rfl
@[simp] theorem State.setCtx_pwr (k : Nat) (x : Option Ctx) (s : State) : (s.setCtx k x).pwr = s.pwr := rfl
@[simp] theorem State.setCtx_sec (k : Nat) (x : Option Ctx) (s : State) : (s.setCtx k x).sec = s.sec := rfl
@[simp] theorem State.setCtx_cal (k : Nat) (x : Option Ctx) (s : State) : (s.setCtx k x).cal = s.cal := rfl
@[simp] theorem State.setCtx_nv (k : Nat) (x : Option Ctx) (s : State) : (s.setCtx k x).nv = s.nv := rfl
@[simp] theorem State.setCtx_bth (k : Nat) (x : Option Ctx) (s : State) : (s.setCtx k x).bth = s.bth := rfl
@[simp] theorem State.setCtx_prf (k : Nat) (x : Option Ctx) (s : State) : (s.setCtx k x).prf = s.prf := rfl
@[simp] theorem State.setCtx_engaged (k : Nat) (x : Option Ctx) (s : State) : (s.setCtx k x).engaged = s.engaged := rfl
@[simp] theorem State.setCtx_stopAsked (k : Nat) (x : Option Ctx) (s : State) : (s.setCtx k x).stopAsked = s.stopAsked := rfl
@[simp] theorem State.setCtx_ifaces (k : Nat) (x : Option Ctx) (s : State) : (s.setCtx k x).ifaces = s.ifaces := rfl
@[simp] theorem State.setCtx_authFail (k : Nat) (x : Option Ctx) (s : State) : (s.setCtx k x).authFail = s.authFail := rfl
@[simp] theorem State.setCtx_lpx (k : Nat) (x : Option Ctx) (s : State) : (s.setCtx k x).lpx = s.lpx := rfl
@[simp] theorem State.setCtx_packages (k : Nat) (x : Option Ctx) (s : State) : (s.setCtx k x).packages = s.packages := rfl
@[simp] theorem State.setCtx_trained (k : Nat) (x : Option Ctx) (s : State) : (s.setCtx k x).trained = s.trained := rfl
@[simp] theorem State.setCtx_credits (k : Nat) (x : Option Ctx) (s : State) : (s.setCtx k x).credits = s.credits := rfl
@[simp] theorem State.setCtx_sliceMap (k : Nat) (x : Option Ctx) (s : State) : (s.setCtx k x).sliceMap = s.sliceMap := rfl
@[simp] theorem State.setCtx_mft (k : Nat) (x : Option Ctx) (s : State) : (s.setCtx k x).mft = s.mft := rfl
@[simp] theorem State.setCtx_sessions (k : Nat) (x : Option Ctx) (s : State) : (s.setCtx k x).sessions = s.sessions := rfl
@[simp] theorem State.setCtx_stores (k : Nat) (x : Option Ctx) (s : State) : (s.setCtx k x).stores = s.stores := rfl
@[simp] theorem State.setCtx_engines (k : Nat) (x : Option Ctx) (s : State) : (s.setCtx k x).engines = s.engines := rfl
@[simp] theorem State.setCtx_descs (k : Nat) (x : Option Ctx) (s : State) : (s.setCtx k x).descs = s.descs := rfl
@[simp] theorem State.setCtx_nextDesc (k : Nat) (x : Option Ctx) (s : State) : (s.setCtx k x).nextDesc = s.nextDesc := rfl
@[simp] theorem State.setCtx_hbm (k : Nat) (x : Option Ctx) (s : State) : (s.setCtx k x).hbm = s.hbm := rfl
@[simp] theorem State.setCtx_slices (k : Nat) (x : Option Ctx) (s : State) : (s.setCtx k x).slices = s.slices := rfl
@[simp] theorem State.setCtx_lines (k : Nat) (x : Option Ctx) (s : State) : (s.setCtx k x).lines = s.lines := rfl
@[simp] theorem State.setCtx_copies (k : Nat) (x : Option Ctx) (s : State) : (s.setCtx k x).copies = s.copies := rfl
@[simp] theorem State.setCtx_plru (k : Nat) (x : Option Ctx) (s : State) : (s.setCtx k x).plru = s.plru := rfl
@[simp] theorem State.setCtx_cohMsgs (k : Nat) (x : Option Ctx) (s : State) : (s.setCtx k x).cohMsgs = s.cohMsgs := rfl
@[simp] theorem State.setCtx_mdDies (k : Nat) (x : Option Ctx) (s : State) : (s.setCtx k x).mdDies = s.mdDies := rfl
@[simp] theorem State.setCtx_ports (k : Nat) (x : Option Ctx) (s : State) : (s.setCtx k x).ports = s.ports := rfl
@[simp] theorem State.setCtx_marks (k : Nat) (x : Option Ctx) (s : State) : (s.setCtx k x).marks = s.marks := rfl
@[simp] theorem State.setCtx_backing (k : Nat) (x : Option Ctx) (s : State) : (s.setCtx k x).backing = s.backing := rfl
@[simp] theorem State.setCtx_mem (k : Nat) (x : Option Ctx) (s : State) : (s.setCtx k x).mem = s.mem := rfl

/-! ### modCtx -/

@[simp] theorem State.modCtx_pending (k : Nat) (f : Ctx → Ctx) (s : State) : (s.modCtx k f).pending = s.pending := rfl
@[simp] theorem State.modCtx_free (k : Nat) (f : Ctx → Ctx) (s : State) : (s.modCtx k f).free = s.free := rfl
@[simp] theorem State.modCtx_out (k : Nat) (f : Ctx → Ctx) (s : State) : (s.modCtx k f).out = s.out := rfl
@[simp] theorem State.modCtx_tick (k : Nat) (f : Ctx → Ctx) (s : State) : (s.modCtx k f).tick = s.tick := rfl
@[simp] theorem State.modCtx_failed (k : Nat) (f : Ctx → Ctx) (s : State) : (s.modCtx k f).failed = s.failed := rfl
@[simp] theorem State.modCtx_stopped (k : Nat) (f : Ctx → Ctx) (s : State) : (s.modCtx k f).stopped = s.stopped := rfl
@[simp] theorem State.modCtx_cores (k : Nat) (f : Ctx → Ctx) (s : State) : (s.modCtx k f).cores = s.cores := rfl
@[simp] theorem State.modCtx_clusters (k : Nat) (f : Ctx → Ctx) (s : State) : (s.modCtx k f).clusters = s.clusters := rfl
@[simp] theorem State.modCtx_orders (k : Nat) (f : Ctx → Ctx) (s : State) : (s.modCtx k f).orders = s.orders := rfl
@[simp] theorem State.modCtx_berths (k : Nat) (f : Ctx → Ctx) (s : State) : (s.modCtx k f).berths = s.berths := rfl
@[simp] theorem State.modCtx_dies (k : Nat) (f : Ctx → Ctx) (s : State) : (s.modCtx k f).dies = s.dies := rfl
@[simp] theorem State.modCtx_mbx (k : Nat) (f : Ctx → Ctx) (s : State) : (s.modCtx k f).mbx = s.mbx := rfl
@[simp] theorem State.modCtx_conns (k : Nat) (f : Ctx → Ctx) (s : State) : (s.modCtx k f).conns = s.conns := rfl
@[simp] theorem State.modCtx_nextConn (k : Nat) (f : Ctx → Ctx) (s : State) : (s.modCtx k f).nextConn = s.nextConn := rfl
@[simp] theorem State.modCtx_outbox (k : Nat) (f : Ctx → Ctx) (s : State) : (s.modCtx k f).outbox = s.outbox := rfl
@[simp] theorem State.modCtx_sends (k : Nat) (f : Ctx → Ctx) (s : State) : (s.modCtx k f).sends = s.sends := rfl
@[simp] theorem State.modCtx_evtOpen (k : Nat) (f : Ctx → Ctx) (s : State) : (s.modCtx k f).evtOpen = s.evtOpen := rfl
@[simp] theorem State.modCtx_retired (k : Nat) (f : Ctx → Ctx) (s : State) : (s.modCtx k f).retired = s.retired := rfl
@[simp] theorem State.modCtx_stackGib (k : Nat) (f : Ctx → Ctx) (s : State) : (s.modCtx k f).stackGib = s.stackGib := rfl
@[simp] theorem State.modCtx_lpxCount (k : Nat) (f : Ctx → Ctx) (s : State) : (s.modCtx k f).lpxCount = s.lpxCount := rfl
@[simp] theorem State.modCtx_lpxGib (k : Nat) (f : Ctx → Ctx) (s : State) : (s.modCtx k f).lpxGib = s.lpxGib := rfl
@[simp] theorem State.modCtx_rst (k : Nat) (f : Ctx → Ctx) (s : State) : (s.modCtx k f).rst = s.rst := rfl
@[simp] theorem State.modCtx_aon (k : Nat) (f : Ctx → Ctx) (s : State) : (s.modCtx k f).aon = s.aon := rfl
@[simp] theorem State.modCtx_pwr (k : Nat) (f : Ctx → Ctx) (s : State) : (s.modCtx k f).pwr = s.pwr := rfl
@[simp] theorem State.modCtx_sec (k : Nat) (f : Ctx → Ctx) (s : State) : (s.modCtx k f).sec = s.sec := rfl
@[simp] theorem State.modCtx_cal (k : Nat) (f : Ctx → Ctx) (s : State) : (s.modCtx k f).cal = s.cal := rfl
@[simp] theorem State.modCtx_nv (k : Nat) (f : Ctx → Ctx) (s : State) : (s.modCtx k f).nv = s.nv := rfl
@[simp] theorem State.modCtx_bth (k : Nat) (f : Ctx → Ctx) (s : State) : (s.modCtx k f).bth = s.bth := rfl
@[simp] theorem State.modCtx_prf (k : Nat) (f : Ctx → Ctx) (s : State) : (s.modCtx k f).prf = s.prf := rfl
@[simp] theorem State.modCtx_engaged (k : Nat) (f : Ctx → Ctx) (s : State) : (s.modCtx k f).engaged = s.engaged := rfl
@[simp] theorem State.modCtx_stopAsked (k : Nat) (f : Ctx → Ctx) (s : State) : (s.modCtx k f).stopAsked = s.stopAsked := rfl
@[simp] theorem State.modCtx_ifaces (k : Nat) (f : Ctx → Ctx) (s : State) : (s.modCtx k f).ifaces = s.ifaces := rfl
@[simp] theorem State.modCtx_authFail (k : Nat) (f : Ctx → Ctx) (s : State) : (s.modCtx k f).authFail = s.authFail := rfl
@[simp] theorem State.modCtx_lpx (k : Nat) (f : Ctx → Ctx) (s : State) : (s.modCtx k f).lpx = s.lpx := rfl
@[simp] theorem State.modCtx_packages (k : Nat) (f : Ctx → Ctx) (s : State) : (s.modCtx k f).packages = s.packages := rfl
@[simp] theorem State.modCtx_trained (k : Nat) (f : Ctx → Ctx) (s : State) : (s.modCtx k f).trained = s.trained := rfl
@[simp] theorem State.modCtx_credits (k : Nat) (f : Ctx → Ctx) (s : State) : (s.modCtx k f).credits = s.credits := rfl
@[simp] theorem State.modCtx_sliceMap (k : Nat) (f : Ctx → Ctx) (s : State) : (s.modCtx k f).sliceMap = s.sliceMap := rfl
@[simp] theorem State.modCtx_mft (k : Nat) (f : Ctx → Ctx) (s : State) : (s.modCtx k f).mft = s.mft := rfl
@[simp] theorem State.modCtx_sessions (k : Nat) (f : Ctx → Ctx) (s : State) : (s.modCtx k f).sessions = s.sessions := rfl
@[simp] theorem State.modCtx_stores (k : Nat) (f : Ctx → Ctx) (s : State) : (s.modCtx k f).stores = s.stores := rfl
@[simp] theorem State.modCtx_engines (k : Nat) (f : Ctx → Ctx) (s : State) : (s.modCtx k f).engines = s.engines := rfl
@[simp] theorem State.modCtx_descs (k : Nat) (f : Ctx → Ctx) (s : State) : (s.modCtx k f).descs = s.descs := rfl
@[simp] theorem State.modCtx_nextDesc (k : Nat) (f : Ctx → Ctx) (s : State) : (s.modCtx k f).nextDesc = s.nextDesc := rfl
@[simp] theorem State.modCtx_hbm (k : Nat) (f : Ctx → Ctx) (s : State) : (s.modCtx k f).hbm = s.hbm := rfl
@[simp] theorem State.modCtx_slices (k : Nat) (f : Ctx → Ctx) (s : State) : (s.modCtx k f).slices = s.slices := rfl
@[simp] theorem State.modCtx_lines (k : Nat) (f : Ctx → Ctx) (s : State) : (s.modCtx k f).lines = s.lines := rfl
@[simp] theorem State.modCtx_copies (k : Nat) (f : Ctx → Ctx) (s : State) : (s.modCtx k f).copies = s.copies := rfl
@[simp] theorem State.modCtx_plru (k : Nat) (f : Ctx → Ctx) (s : State) : (s.modCtx k f).plru = s.plru := rfl
@[simp] theorem State.modCtx_cohMsgs (k : Nat) (f : Ctx → Ctx) (s : State) : (s.modCtx k f).cohMsgs = s.cohMsgs := rfl
@[simp] theorem State.modCtx_mdDies (k : Nat) (f : Ctx → Ctx) (s : State) : (s.modCtx k f).mdDies = s.mdDies := rfl
@[simp] theorem State.modCtx_ports (k : Nat) (f : Ctx → Ctx) (s : State) : (s.modCtx k f).ports = s.ports := rfl
@[simp] theorem State.modCtx_marks (k : Nat) (f : Ctx → Ctx) (s : State) : (s.modCtx k f).marks = s.marks := rfl
@[simp] theorem State.modCtx_backing (k : Nat) (f : Ctx → Ctx) (s : State) : (s.modCtx k f).backing = s.backing := rfl
@[simp] theorem State.modCtx_mem (k : Nat) (f : Ctx → Ctx) (s : State) : (s.modCtx k f).mem = s.mem := rfl

/-! ### setOrder -/

@[simp] theorem State.setOrder_pending (o : Nat) (x : Option Order) (s : State) : (s.setOrder o x).pending = s.pending := rfl
@[simp] theorem State.setOrder_free (o : Nat) (x : Option Order) (s : State) : (s.setOrder o x).free = s.free := rfl
@[simp] theorem State.setOrder_out (o : Nat) (x : Option Order) (s : State) : (s.setOrder o x).out = s.out := rfl
@[simp] theorem State.setOrder_tick (o : Nat) (x : Option Order) (s : State) : (s.setOrder o x).tick = s.tick := rfl
@[simp] theorem State.setOrder_failed (o : Nat) (x : Option Order) (s : State) : (s.setOrder o x).failed = s.failed := rfl
@[simp] theorem State.setOrder_stopped (o : Nat) (x : Option Order) (s : State) : (s.setOrder o x).stopped = s.stopped := rfl
@[simp] theorem State.setOrder_cores (o : Nat) (x : Option Order) (s : State) : (s.setOrder o x).cores = s.cores := rfl
@[simp] theorem State.setOrder_clusters (o : Nat) (x : Option Order) (s : State) : (s.setOrder o x).clusters = s.clusters := rfl
@[simp] theorem State.setOrder_ctxs (o : Nat) (x : Option Order) (s : State) : (s.setOrder o x).ctxs = s.ctxs := rfl
@[simp] theorem State.setOrder_berths (o : Nat) (x : Option Order) (s : State) : (s.setOrder o x).berths = s.berths := rfl
@[simp] theorem State.setOrder_dies (o : Nat) (x : Option Order) (s : State) : (s.setOrder o x).dies = s.dies := rfl
@[simp] theorem State.setOrder_mbx (o : Nat) (x : Option Order) (s : State) : (s.setOrder o x).mbx = s.mbx := rfl
@[simp] theorem State.setOrder_conns (o : Nat) (x : Option Order) (s : State) : (s.setOrder o x).conns = s.conns := rfl
@[simp] theorem State.setOrder_nextConn (o : Nat) (x : Option Order) (s : State) : (s.setOrder o x).nextConn = s.nextConn := rfl
@[simp] theorem State.setOrder_outbox (o : Nat) (x : Option Order) (s : State) : (s.setOrder o x).outbox = s.outbox := rfl
@[simp] theorem State.setOrder_sends (o : Nat) (x : Option Order) (s : State) : (s.setOrder o x).sends = s.sends := rfl
@[simp] theorem State.setOrder_evtOpen (o : Nat) (x : Option Order) (s : State) : (s.setOrder o x).evtOpen = s.evtOpen := rfl
@[simp] theorem State.setOrder_retired (o : Nat) (x : Option Order) (s : State) : (s.setOrder o x).retired = s.retired := rfl
@[simp] theorem State.setOrder_stackGib (o : Nat) (x : Option Order) (s : State) : (s.setOrder o x).stackGib = s.stackGib := rfl
@[simp] theorem State.setOrder_lpxCount (o : Nat) (x : Option Order) (s : State) : (s.setOrder o x).lpxCount = s.lpxCount := rfl
@[simp] theorem State.setOrder_lpxGib (o : Nat) (x : Option Order) (s : State) : (s.setOrder o x).lpxGib = s.lpxGib := rfl
@[simp] theorem State.setOrder_rst (o : Nat) (x : Option Order) (s : State) : (s.setOrder o x).rst = s.rst := rfl
@[simp] theorem State.setOrder_aon (o : Nat) (x : Option Order) (s : State) : (s.setOrder o x).aon = s.aon := rfl
@[simp] theorem State.setOrder_pwr (o : Nat) (x : Option Order) (s : State) : (s.setOrder o x).pwr = s.pwr := rfl
@[simp] theorem State.setOrder_sec (o : Nat) (x : Option Order) (s : State) : (s.setOrder o x).sec = s.sec := rfl
@[simp] theorem State.setOrder_cal (o : Nat) (x : Option Order) (s : State) : (s.setOrder o x).cal = s.cal := rfl
@[simp] theorem State.setOrder_nv (o : Nat) (x : Option Order) (s : State) : (s.setOrder o x).nv = s.nv := rfl
@[simp] theorem State.setOrder_bth (o : Nat) (x : Option Order) (s : State) : (s.setOrder o x).bth = s.bth := rfl
@[simp] theorem State.setOrder_prf (o : Nat) (x : Option Order) (s : State) : (s.setOrder o x).prf = s.prf := rfl
@[simp] theorem State.setOrder_engaged (o : Nat) (x : Option Order) (s : State) : (s.setOrder o x).engaged = s.engaged := rfl
@[simp] theorem State.setOrder_stopAsked (o : Nat) (x : Option Order) (s : State) : (s.setOrder o x).stopAsked = s.stopAsked := rfl
@[simp] theorem State.setOrder_ifaces (o : Nat) (x : Option Order) (s : State) : (s.setOrder o x).ifaces = s.ifaces := rfl
@[simp] theorem State.setOrder_authFail (o : Nat) (x : Option Order) (s : State) : (s.setOrder o x).authFail = s.authFail := rfl
@[simp] theorem State.setOrder_lpx (o : Nat) (x : Option Order) (s : State) : (s.setOrder o x).lpx = s.lpx := rfl
@[simp] theorem State.setOrder_packages (o : Nat) (x : Option Order) (s : State) : (s.setOrder o x).packages = s.packages := rfl
@[simp] theorem State.setOrder_trained (o : Nat) (x : Option Order) (s : State) : (s.setOrder o x).trained = s.trained := rfl
@[simp] theorem State.setOrder_credits (o : Nat) (x : Option Order) (s : State) : (s.setOrder o x).credits = s.credits := rfl
@[simp] theorem State.setOrder_sliceMap (o : Nat) (x : Option Order) (s : State) : (s.setOrder o x).sliceMap = s.sliceMap := rfl
@[simp] theorem State.setOrder_mft (o : Nat) (x : Option Order) (s : State) : (s.setOrder o x).mft = s.mft := rfl
@[simp] theorem State.setOrder_sessions (o : Nat) (x : Option Order) (s : State) : (s.setOrder o x).sessions = s.sessions := rfl
@[simp] theorem State.setOrder_stores (o : Nat) (x : Option Order) (s : State) : (s.setOrder o x).stores = s.stores := rfl
@[simp] theorem State.setOrder_engines (o : Nat) (x : Option Order) (s : State) : (s.setOrder o x).engines = s.engines := rfl
@[simp] theorem State.setOrder_descs (o : Nat) (x : Option Order) (s : State) : (s.setOrder o x).descs = s.descs := rfl
@[simp] theorem State.setOrder_nextDesc (o : Nat) (x : Option Order) (s : State) : (s.setOrder o x).nextDesc = s.nextDesc := rfl
@[simp] theorem State.setOrder_hbm (o : Nat) (x : Option Order) (s : State) : (s.setOrder o x).hbm = s.hbm := rfl
@[simp] theorem State.setOrder_slices (o : Nat) (x : Option Order) (s : State) : (s.setOrder o x).slices = s.slices := rfl
@[simp] theorem State.setOrder_lines (o : Nat) (x : Option Order) (s : State) : (s.setOrder o x).lines = s.lines := rfl
@[simp] theorem State.setOrder_copies (o : Nat) (x : Option Order) (s : State) : (s.setOrder o x).copies = s.copies := rfl
@[simp] theorem State.setOrder_plru (o : Nat) (x : Option Order) (s : State) : (s.setOrder o x).plru = s.plru := rfl
@[simp] theorem State.setOrder_cohMsgs (o : Nat) (x : Option Order) (s : State) : (s.setOrder o x).cohMsgs = s.cohMsgs := rfl
@[simp] theorem State.setOrder_mdDies (o : Nat) (x : Option Order) (s : State) : (s.setOrder o x).mdDies = s.mdDies := rfl
@[simp] theorem State.setOrder_ports (o : Nat) (x : Option Order) (s : State) : (s.setOrder o x).ports = s.ports := rfl
@[simp] theorem State.setOrder_marks (o : Nat) (x : Option Order) (s : State) : (s.setOrder o x).marks = s.marks := rfl
@[simp] theorem State.setOrder_backing (o : Nat) (x : Option Order) (s : State) : (s.setOrder o x).backing = s.backing := rfl
@[simp] theorem State.setOrder_mem (o : Nat) (x : Option Order) (s : State) : (s.setOrder o x).mem = s.mem := rfl

/-! ### modOrder -/

@[simp] theorem State.modOrder_pending (o : Nat) (f : Order → Order) (s : State) : (s.modOrder o f).pending = s.pending := rfl
@[simp] theorem State.modOrder_free (o : Nat) (f : Order → Order) (s : State) : (s.modOrder o f).free = s.free := rfl
@[simp] theorem State.modOrder_out (o : Nat) (f : Order → Order) (s : State) : (s.modOrder o f).out = s.out := rfl
@[simp] theorem State.modOrder_tick (o : Nat) (f : Order → Order) (s : State) : (s.modOrder o f).tick = s.tick := rfl
@[simp] theorem State.modOrder_failed (o : Nat) (f : Order → Order) (s : State) : (s.modOrder o f).failed = s.failed := rfl
@[simp] theorem State.modOrder_stopped (o : Nat) (f : Order → Order) (s : State) : (s.modOrder o f).stopped = s.stopped := rfl
@[simp] theorem State.modOrder_cores (o : Nat) (f : Order → Order) (s : State) : (s.modOrder o f).cores = s.cores := rfl
@[simp] theorem State.modOrder_clusters (o : Nat) (f : Order → Order) (s : State) : (s.modOrder o f).clusters = s.clusters := rfl
@[simp] theorem State.modOrder_ctxs (o : Nat) (f : Order → Order) (s : State) : (s.modOrder o f).ctxs = s.ctxs := rfl
@[simp] theorem State.modOrder_berths (o : Nat) (f : Order → Order) (s : State) : (s.modOrder o f).berths = s.berths := rfl
@[simp] theorem State.modOrder_dies (o : Nat) (f : Order → Order) (s : State) : (s.modOrder o f).dies = s.dies := rfl
@[simp] theorem State.modOrder_mbx (o : Nat) (f : Order → Order) (s : State) : (s.modOrder o f).mbx = s.mbx := rfl
@[simp] theorem State.modOrder_conns (o : Nat) (f : Order → Order) (s : State) : (s.modOrder o f).conns = s.conns := rfl
@[simp] theorem State.modOrder_nextConn (o : Nat) (f : Order → Order) (s : State) : (s.modOrder o f).nextConn = s.nextConn := rfl
@[simp] theorem State.modOrder_outbox (o : Nat) (f : Order → Order) (s : State) : (s.modOrder o f).outbox = s.outbox := rfl
@[simp] theorem State.modOrder_sends (o : Nat) (f : Order → Order) (s : State) : (s.modOrder o f).sends = s.sends := rfl
@[simp] theorem State.modOrder_evtOpen (o : Nat) (f : Order → Order) (s : State) : (s.modOrder o f).evtOpen = s.evtOpen := rfl
@[simp] theorem State.modOrder_retired (o : Nat) (f : Order → Order) (s : State) : (s.modOrder o f).retired = s.retired := rfl
@[simp] theorem State.modOrder_stackGib (o : Nat) (f : Order → Order) (s : State) : (s.modOrder o f).stackGib = s.stackGib := rfl
@[simp] theorem State.modOrder_lpxCount (o : Nat) (f : Order → Order) (s : State) : (s.modOrder o f).lpxCount = s.lpxCount := rfl
@[simp] theorem State.modOrder_lpxGib (o : Nat) (f : Order → Order) (s : State) : (s.modOrder o f).lpxGib = s.lpxGib := rfl
@[simp] theorem State.modOrder_rst (o : Nat) (f : Order → Order) (s : State) : (s.modOrder o f).rst = s.rst := rfl
@[simp] theorem State.modOrder_aon (o : Nat) (f : Order → Order) (s : State) : (s.modOrder o f).aon = s.aon := rfl
@[simp] theorem State.modOrder_pwr (o : Nat) (f : Order → Order) (s : State) : (s.modOrder o f).pwr = s.pwr := rfl
@[simp] theorem State.modOrder_sec (o : Nat) (f : Order → Order) (s : State) : (s.modOrder o f).sec = s.sec := rfl
@[simp] theorem State.modOrder_cal (o : Nat) (f : Order → Order) (s : State) : (s.modOrder o f).cal = s.cal := rfl
@[simp] theorem State.modOrder_nv (o : Nat) (f : Order → Order) (s : State) : (s.modOrder o f).nv = s.nv := rfl
@[simp] theorem State.modOrder_bth (o : Nat) (f : Order → Order) (s : State) : (s.modOrder o f).bth = s.bth := rfl
@[simp] theorem State.modOrder_prf (o : Nat) (f : Order → Order) (s : State) : (s.modOrder o f).prf = s.prf := rfl
@[simp] theorem State.modOrder_engaged (o : Nat) (f : Order → Order) (s : State) : (s.modOrder o f).engaged = s.engaged := rfl
@[simp] theorem State.modOrder_stopAsked (o : Nat) (f : Order → Order) (s : State) : (s.modOrder o f).stopAsked = s.stopAsked := rfl
@[simp] theorem State.modOrder_ifaces (o : Nat) (f : Order → Order) (s : State) : (s.modOrder o f).ifaces = s.ifaces := rfl
@[simp] theorem State.modOrder_authFail (o : Nat) (f : Order → Order) (s : State) : (s.modOrder o f).authFail = s.authFail := rfl
@[simp] theorem State.modOrder_lpx (o : Nat) (f : Order → Order) (s : State) : (s.modOrder o f).lpx = s.lpx := rfl
@[simp] theorem State.modOrder_packages (o : Nat) (f : Order → Order) (s : State) : (s.modOrder o f).packages = s.packages := rfl
@[simp] theorem State.modOrder_trained (o : Nat) (f : Order → Order) (s : State) : (s.modOrder o f).trained = s.trained := rfl
@[simp] theorem State.modOrder_credits (o : Nat) (f : Order → Order) (s : State) : (s.modOrder o f).credits = s.credits := rfl
@[simp] theorem State.modOrder_sliceMap (o : Nat) (f : Order → Order) (s : State) : (s.modOrder o f).sliceMap = s.sliceMap := rfl
@[simp] theorem State.modOrder_mft (o : Nat) (f : Order → Order) (s : State) : (s.modOrder o f).mft = s.mft := rfl
@[simp] theorem State.modOrder_sessions (o : Nat) (f : Order → Order) (s : State) : (s.modOrder o f).sessions = s.sessions := rfl
@[simp] theorem State.modOrder_stores (o : Nat) (f : Order → Order) (s : State) : (s.modOrder o f).stores = s.stores := rfl
@[simp] theorem State.modOrder_engines (o : Nat) (f : Order → Order) (s : State) : (s.modOrder o f).engines = s.engines := rfl
@[simp] theorem State.modOrder_descs (o : Nat) (f : Order → Order) (s : State) : (s.modOrder o f).descs = s.descs := rfl
@[simp] theorem State.modOrder_nextDesc (o : Nat) (f : Order → Order) (s : State) : (s.modOrder o f).nextDesc = s.nextDesc := rfl
@[simp] theorem State.modOrder_hbm (o : Nat) (f : Order → Order) (s : State) : (s.modOrder o f).hbm = s.hbm := rfl
@[simp] theorem State.modOrder_slices (o : Nat) (f : Order → Order) (s : State) : (s.modOrder o f).slices = s.slices := rfl
@[simp] theorem State.modOrder_lines (o : Nat) (f : Order → Order) (s : State) : (s.modOrder o f).lines = s.lines := rfl
@[simp] theorem State.modOrder_copies (o : Nat) (f : Order → Order) (s : State) : (s.modOrder o f).copies = s.copies := rfl
@[simp] theorem State.modOrder_plru (o : Nat) (f : Order → Order) (s : State) : (s.modOrder o f).plru = s.plru := rfl
@[simp] theorem State.modOrder_cohMsgs (o : Nat) (f : Order → Order) (s : State) : (s.modOrder o f).cohMsgs = s.cohMsgs := rfl
@[simp] theorem State.modOrder_mdDies (o : Nat) (f : Order → Order) (s : State) : (s.modOrder o f).mdDies = s.mdDies := rfl
@[simp] theorem State.modOrder_ports (o : Nat) (f : Order → Order) (s : State) : (s.modOrder o f).ports = s.ports := rfl
@[simp] theorem State.modOrder_marks (o : Nat) (f : Order → Order) (s : State) : (s.modOrder o f).marks = s.marks := rfl
@[simp] theorem State.modOrder_backing (o : Nat) (f : Order → Order) (s : State) : (s.modOrder o f).backing = s.backing := rfl
@[simp] theorem State.modOrder_mem (o : Nat) (f : Order → Order) (s : State) : (s.modOrder o f).mem = s.mem := rfl

/-! ### setBerth -/

@[simp] theorem State.setBerth_pending (b : Nat) (x : Berth) (s : State) : (s.setBerth b x).pending = s.pending := rfl
@[simp] theorem State.setBerth_free (b : Nat) (x : Berth) (s : State) : (s.setBerth b x).free = s.free := rfl
@[simp] theorem State.setBerth_out (b : Nat) (x : Berth) (s : State) : (s.setBerth b x).out = s.out := rfl
@[simp] theorem State.setBerth_tick (b : Nat) (x : Berth) (s : State) : (s.setBerth b x).tick = s.tick := rfl
@[simp] theorem State.setBerth_failed (b : Nat) (x : Berth) (s : State) : (s.setBerth b x).failed = s.failed := rfl
@[simp] theorem State.setBerth_stopped (b : Nat) (x : Berth) (s : State) : (s.setBerth b x).stopped = s.stopped := rfl
@[simp] theorem State.setBerth_cores (b : Nat) (x : Berth) (s : State) : (s.setBerth b x).cores = s.cores := rfl
@[simp] theorem State.setBerth_clusters (b : Nat) (x : Berth) (s : State) : (s.setBerth b x).clusters = s.clusters := rfl
@[simp] theorem State.setBerth_ctxs (b : Nat) (x : Berth) (s : State) : (s.setBerth b x).ctxs = s.ctxs := rfl
@[simp] theorem State.setBerth_orders (b : Nat) (x : Berth) (s : State) : (s.setBerth b x).orders = s.orders := rfl
@[simp] theorem State.setBerth_dies (b : Nat) (x : Berth) (s : State) : (s.setBerth b x).dies = s.dies := rfl
@[simp] theorem State.setBerth_mbx (b : Nat) (x : Berth) (s : State) : (s.setBerth b x).mbx = s.mbx := rfl
@[simp] theorem State.setBerth_conns (b : Nat) (x : Berth) (s : State) : (s.setBerth b x).conns = s.conns := rfl
@[simp] theorem State.setBerth_nextConn (b : Nat) (x : Berth) (s : State) : (s.setBerth b x).nextConn = s.nextConn := rfl
@[simp] theorem State.setBerth_outbox (b : Nat) (x : Berth) (s : State) : (s.setBerth b x).outbox = s.outbox := rfl
@[simp] theorem State.setBerth_sends (b : Nat) (x : Berth) (s : State) : (s.setBerth b x).sends = s.sends := rfl
@[simp] theorem State.setBerth_evtOpen (b : Nat) (x : Berth) (s : State) : (s.setBerth b x).evtOpen = s.evtOpen := rfl
@[simp] theorem State.setBerth_retired (b : Nat) (x : Berth) (s : State) : (s.setBerth b x).retired = s.retired := rfl
@[simp] theorem State.setBerth_stackGib (b : Nat) (x : Berth) (s : State) : (s.setBerth b x).stackGib = s.stackGib := rfl
@[simp] theorem State.setBerth_lpxCount (b : Nat) (x : Berth) (s : State) : (s.setBerth b x).lpxCount = s.lpxCount := rfl
@[simp] theorem State.setBerth_lpxGib (b : Nat) (x : Berth) (s : State) : (s.setBerth b x).lpxGib = s.lpxGib := rfl
@[simp] theorem State.setBerth_rst (b : Nat) (x : Berth) (s : State) : (s.setBerth b x).rst = s.rst := rfl
@[simp] theorem State.setBerth_aon (b : Nat) (x : Berth) (s : State) : (s.setBerth b x).aon = s.aon := rfl
@[simp] theorem State.setBerth_pwr (b : Nat) (x : Berth) (s : State) : (s.setBerth b x).pwr = s.pwr := rfl
@[simp] theorem State.setBerth_sec (b : Nat) (x : Berth) (s : State) : (s.setBerth b x).sec = s.sec := rfl
@[simp] theorem State.setBerth_cal (b : Nat) (x : Berth) (s : State) : (s.setBerth b x).cal = s.cal := rfl
@[simp] theorem State.setBerth_nv (b : Nat) (x : Berth) (s : State) : (s.setBerth b x).nv = s.nv := rfl
@[simp] theorem State.setBerth_bth (b : Nat) (x : Berth) (s : State) : (s.setBerth b x).bth = s.bth := rfl
@[simp] theorem State.setBerth_prf (b : Nat) (x : Berth) (s : State) : (s.setBerth b x).prf = s.prf := rfl
@[simp] theorem State.setBerth_engaged (b : Nat) (x : Berth) (s : State) : (s.setBerth b x).engaged = s.engaged := rfl
@[simp] theorem State.setBerth_stopAsked (b : Nat) (x : Berth) (s : State) : (s.setBerth b x).stopAsked = s.stopAsked := rfl
@[simp] theorem State.setBerth_ifaces (b : Nat) (x : Berth) (s : State) : (s.setBerth b x).ifaces = s.ifaces := rfl
@[simp] theorem State.setBerth_authFail (b : Nat) (x : Berth) (s : State) : (s.setBerth b x).authFail = s.authFail := rfl
@[simp] theorem State.setBerth_lpx (b : Nat) (x : Berth) (s : State) : (s.setBerth b x).lpx = s.lpx := rfl
@[simp] theorem State.setBerth_packages (b : Nat) (x : Berth) (s : State) : (s.setBerth b x).packages = s.packages := rfl
@[simp] theorem State.setBerth_trained (b : Nat) (x : Berth) (s : State) : (s.setBerth b x).trained = s.trained := rfl
@[simp] theorem State.setBerth_credits (b : Nat) (x : Berth) (s : State) : (s.setBerth b x).credits = s.credits := rfl
@[simp] theorem State.setBerth_sliceMap (b : Nat) (x : Berth) (s : State) : (s.setBerth b x).sliceMap = s.sliceMap := rfl
@[simp] theorem State.setBerth_mft (b : Nat) (x : Berth) (s : State) : (s.setBerth b x).mft = s.mft := rfl
@[simp] theorem State.setBerth_sessions (b : Nat) (x : Berth) (s : State) : (s.setBerth b x).sessions = s.sessions := rfl
@[simp] theorem State.setBerth_stores (b : Nat) (x : Berth) (s : State) : (s.setBerth b x).stores = s.stores := rfl
@[simp] theorem State.setBerth_engines (b : Nat) (x : Berth) (s : State) : (s.setBerth b x).engines = s.engines := rfl
@[simp] theorem State.setBerth_descs (b : Nat) (x : Berth) (s : State) : (s.setBerth b x).descs = s.descs := rfl
@[simp] theorem State.setBerth_nextDesc (b : Nat) (x : Berth) (s : State) : (s.setBerth b x).nextDesc = s.nextDesc := rfl
@[simp] theorem State.setBerth_hbm (b : Nat) (x : Berth) (s : State) : (s.setBerth b x).hbm = s.hbm := rfl
@[simp] theorem State.setBerth_slices (b : Nat) (x : Berth) (s : State) : (s.setBerth b x).slices = s.slices := rfl
@[simp] theorem State.setBerth_lines (b : Nat) (x : Berth) (s : State) : (s.setBerth b x).lines = s.lines := rfl
@[simp] theorem State.setBerth_copies (b : Nat) (x : Berth) (s : State) : (s.setBerth b x).copies = s.copies := rfl
@[simp] theorem State.setBerth_plru (b : Nat) (x : Berth) (s : State) : (s.setBerth b x).plru = s.plru := rfl
@[simp] theorem State.setBerth_cohMsgs (b : Nat) (x : Berth) (s : State) : (s.setBerth b x).cohMsgs = s.cohMsgs := rfl
@[simp] theorem State.setBerth_mdDies (b : Nat) (x : Berth) (s : State) : (s.setBerth b x).mdDies = s.mdDies := rfl
@[simp] theorem State.setBerth_ports (b : Nat) (x : Berth) (s : State) : (s.setBerth b x).ports = s.ports := rfl
@[simp] theorem State.setBerth_marks (b : Nat) (x : Berth) (s : State) : (s.setBerth b x).marks = s.marks := rfl
@[simp] theorem State.setBerth_backing (b : Nat) (x : Berth) (s : State) : (s.setBerth b x).backing = s.backing := rfl
@[simp] theorem State.setBerth_mem (b : Nat) (x : Berth) (s : State) : (s.setBerth b x).mem = s.mem := rfl

/-! ### modBerth -/

@[simp] theorem State.modBerth_pending (b : Nat) (f : Berth → Berth) (s : State) : (s.modBerth b f).pending = s.pending := rfl
@[simp] theorem State.modBerth_free (b : Nat) (f : Berth → Berth) (s : State) : (s.modBerth b f).free = s.free := rfl
@[simp] theorem State.modBerth_out (b : Nat) (f : Berth → Berth) (s : State) : (s.modBerth b f).out = s.out := rfl
@[simp] theorem State.modBerth_tick (b : Nat) (f : Berth → Berth) (s : State) : (s.modBerth b f).tick = s.tick := rfl
@[simp] theorem State.modBerth_failed (b : Nat) (f : Berth → Berth) (s : State) : (s.modBerth b f).failed = s.failed := rfl
@[simp] theorem State.modBerth_stopped (b : Nat) (f : Berth → Berth) (s : State) : (s.modBerth b f).stopped = s.stopped := rfl
@[simp] theorem State.modBerth_cores (b : Nat) (f : Berth → Berth) (s : State) : (s.modBerth b f).cores = s.cores := rfl
@[simp] theorem State.modBerth_clusters (b : Nat) (f : Berth → Berth) (s : State) : (s.modBerth b f).clusters = s.clusters := rfl
@[simp] theorem State.modBerth_ctxs (b : Nat) (f : Berth → Berth) (s : State) : (s.modBerth b f).ctxs = s.ctxs := rfl
@[simp] theorem State.modBerth_orders (b : Nat) (f : Berth → Berth) (s : State) : (s.modBerth b f).orders = s.orders := rfl
@[simp] theorem State.modBerth_dies (b : Nat) (f : Berth → Berth) (s : State) : (s.modBerth b f).dies = s.dies := rfl
@[simp] theorem State.modBerth_mbx (b : Nat) (f : Berth → Berth) (s : State) : (s.modBerth b f).mbx = s.mbx := rfl
@[simp] theorem State.modBerth_conns (b : Nat) (f : Berth → Berth) (s : State) : (s.modBerth b f).conns = s.conns := rfl
@[simp] theorem State.modBerth_nextConn (b : Nat) (f : Berth → Berth) (s : State) : (s.modBerth b f).nextConn = s.nextConn := rfl
@[simp] theorem State.modBerth_outbox (b : Nat) (f : Berth → Berth) (s : State) : (s.modBerth b f).outbox = s.outbox := rfl
@[simp] theorem State.modBerth_sends (b : Nat) (f : Berth → Berth) (s : State) : (s.modBerth b f).sends = s.sends := rfl
@[simp] theorem State.modBerth_evtOpen (b : Nat) (f : Berth → Berth) (s : State) : (s.modBerth b f).evtOpen = s.evtOpen := rfl
@[simp] theorem State.modBerth_retired (b : Nat) (f : Berth → Berth) (s : State) : (s.modBerth b f).retired = s.retired := rfl
@[simp] theorem State.modBerth_stackGib (b : Nat) (f : Berth → Berth) (s : State) : (s.modBerth b f).stackGib = s.stackGib := rfl
@[simp] theorem State.modBerth_lpxCount (b : Nat) (f : Berth → Berth) (s : State) : (s.modBerth b f).lpxCount = s.lpxCount := rfl
@[simp] theorem State.modBerth_lpxGib (b : Nat) (f : Berth → Berth) (s : State) : (s.modBerth b f).lpxGib = s.lpxGib := rfl
@[simp] theorem State.modBerth_rst (b : Nat) (f : Berth → Berth) (s : State) : (s.modBerth b f).rst = s.rst := rfl
@[simp] theorem State.modBerth_aon (b : Nat) (f : Berth → Berth) (s : State) : (s.modBerth b f).aon = s.aon := rfl
@[simp] theorem State.modBerth_pwr (b : Nat) (f : Berth → Berth) (s : State) : (s.modBerth b f).pwr = s.pwr := rfl
@[simp] theorem State.modBerth_sec (b : Nat) (f : Berth → Berth) (s : State) : (s.modBerth b f).sec = s.sec := rfl
@[simp] theorem State.modBerth_cal (b : Nat) (f : Berth → Berth) (s : State) : (s.modBerth b f).cal = s.cal := rfl
@[simp] theorem State.modBerth_nv (b : Nat) (f : Berth → Berth) (s : State) : (s.modBerth b f).nv = s.nv := rfl
@[simp] theorem State.modBerth_bth (b : Nat) (f : Berth → Berth) (s : State) : (s.modBerth b f).bth = s.bth := rfl
@[simp] theorem State.modBerth_prf (b : Nat) (f : Berth → Berth) (s : State) : (s.modBerth b f).prf = s.prf := rfl
@[simp] theorem State.modBerth_engaged (b : Nat) (f : Berth → Berth) (s : State) : (s.modBerth b f).engaged = s.engaged := rfl
@[simp] theorem State.modBerth_stopAsked (b : Nat) (f : Berth → Berth) (s : State) : (s.modBerth b f).stopAsked = s.stopAsked := rfl
@[simp] theorem State.modBerth_ifaces (b : Nat) (f : Berth → Berth) (s : State) : (s.modBerth b f).ifaces = s.ifaces := rfl
@[simp] theorem State.modBerth_authFail (b : Nat) (f : Berth → Berth) (s : State) : (s.modBerth b f).authFail = s.authFail := rfl
@[simp] theorem State.modBerth_lpx (b : Nat) (f : Berth → Berth) (s : State) : (s.modBerth b f).lpx = s.lpx := rfl
@[simp] theorem State.modBerth_packages (b : Nat) (f : Berth → Berth) (s : State) : (s.modBerth b f).packages = s.packages := rfl
@[simp] theorem State.modBerth_trained (b : Nat) (f : Berth → Berth) (s : State) : (s.modBerth b f).trained = s.trained := rfl
@[simp] theorem State.modBerth_credits (b : Nat) (f : Berth → Berth) (s : State) : (s.modBerth b f).credits = s.credits := rfl
@[simp] theorem State.modBerth_sliceMap (b : Nat) (f : Berth → Berth) (s : State) : (s.modBerth b f).sliceMap = s.sliceMap := rfl
@[simp] theorem State.modBerth_mft (b : Nat) (f : Berth → Berth) (s : State) : (s.modBerth b f).mft = s.mft := rfl
@[simp] theorem State.modBerth_sessions (b : Nat) (f : Berth → Berth) (s : State) : (s.modBerth b f).sessions = s.sessions := rfl
@[simp] theorem State.modBerth_stores (b : Nat) (f : Berth → Berth) (s : State) : (s.modBerth b f).stores = s.stores := rfl
@[simp] theorem State.modBerth_engines (b : Nat) (f : Berth → Berth) (s : State) : (s.modBerth b f).engines = s.engines := rfl
@[simp] theorem State.modBerth_descs (b : Nat) (f : Berth → Berth) (s : State) : (s.modBerth b f).descs = s.descs := rfl
@[simp] theorem State.modBerth_nextDesc (b : Nat) (f : Berth → Berth) (s : State) : (s.modBerth b f).nextDesc = s.nextDesc := rfl
@[simp] theorem State.modBerth_hbm (b : Nat) (f : Berth → Berth) (s : State) : (s.modBerth b f).hbm = s.hbm := rfl
@[simp] theorem State.modBerth_slices (b : Nat) (f : Berth → Berth) (s : State) : (s.modBerth b f).slices = s.slices := rfl
@[simp] theorem State.modBerth_lines (b : Nat) (f : Berth → Berth) (s : State) : (s.modBerth b f).lines = s.lines := rfl
@[simp] theorem State.modBerth_copies (b : Nat) (f : Berth → Berth) (s : State) : (s.modBerth b f).copies = s.copies := rfl
@[simp] theorem State.modBerth_plru (b : Nat) (f : Berth → Berth) (s : State) : (s.modBerth b f).plru = s.plru := rfl
@[simp] theorem State.modBerth_cohMsgs (b : Nat) (f : Berth → Berth) (s : State) : (s.modBerth b f).cohMsgs = s.cohMsgs := rfl
@[simp] theorem State.modBerth_mdDies (b : Nat) (f : Berth → Berth) (s : State) : (s.modBerth b f).mdDies = s.mdDies := rfl
@[simp] theorem State.modBerth_ports (b : Nat) (f : Berth → Berth) (s : State) : (s.modBerth b f).ports = s.ports := rfl
@[simp] theorem State.modBerth_marks (b : Nat) (f : Berth → Berth) (s : State) : (s.modBerth b f).marks = s.marks := rfl
@[simp] theorem State.modBerth_backing (b : Nat) (f : Berth → Berth) (s : State) : (s.modBerth b f).backing = s.backing := rfl
@[simp] theorem State.modBerth_mem (b : Nat) (f : Berth → Berth) (s : State) : (s.modBerth b f).mem = s.mem := rfl

/-! ### setPort -/

@[simp] theorem State.setPort_pending (p : Nat) (x : Port) (s : State) : (s.setPort p x).pending = s.pending := rfl
@[simp] theorem State.setPort_free (p : Nat) (x : Port) (s : State) : (s.setPort p x).free = s.free := rfl
@[simp] theorem State.setPort_out (p : Nat) (x : Port) (s : State) : (s.setPort p x).out = s.out := rfl
@[simp] theorem State.setPort_tick (p : Nat) (x : Port) (s : State) : (s.setPort p x).tick = s.tick := rfl
@[simp] theorem State.setPort_failed (p : Nat) (x : Port) (s : State) : (s.setPort p x).failed = s.failed := rfl
@[simp] theorem State.setPort_stopped (p : Nat) (x : Port) (s : State) : (s.setPort p x).stopped = s.stopped := rfl
@[simp] theorem State.setPort_cores (p : Nat) (x : Port) (s : State) : (s.setPort p x).cores = s.cores := rfl
@[simp] theorem State.setPort_clusters (p : Nat) (x : Port) (s : State) : (s.setPort p x).clusters = s.clusters := rfl
@[simp] theorem State.setPort_ctxs (p : Nat) (x : Port) (s : State) : (s.setPort p x).ctxs = s.ctxs := rfl
@[simp] theorem State.setPort_orders (p : Nat) (x : Port) (s : State) : (s.setPort p x).orders = s.orders := rfl
@[simp] theorem State.setPort_berths (p : Nat) (x : Port) (s : State) : (s.setPort p x).berths = s.berths := rfl
@[simp] theorem State.setPort_dies (p : Nat) (x : Port) (s : State) : (s.setPort p x).dies = s.dies := rfl
@[simp] theorem State.setPort_mbx (p : Nat) (x : Port) (s : State) : (s.setPort p x).mbx = s.mbx := rfl
@[simp] theorem State.setPort_conns (p : Nat) (x : Port) (s : State) : (s.setPort p x).conns = s.conns := rfl
@[simp] theorem State.setPort_nextConn (p : Nat) (x : Port) (s : State) : (s.setPort p x).nextConn = s.nextConn := rfl
@[simp] theorem State.setPort_outbox (p : Nat) (x : Port) (s : State) : (s.setPort p x).outbox = s.outbox := rfl
@[simp] theorem State.setPort_sends (p : Nat) (x : Port) (s : State) : (s.setPort p x).sends = s.sends := rfl
@[simp] theorem State.setPort_evtOpen (p : Nat) (x : Port) (s : State) : (s.setPort p x).evtOpen = s.evtOpen := rfl
@[simp] theorem State.setPort_retired (p : Nat) (x : Port) (s : State) : (s.setPort p x).retired = s.retired := rfl
@[simp] theorem State.setPort_stackGib (p : Nat) (x : Port) (s : State) : (s.setPort p x).stackGib = s.stackGib := rfl
@[simp] theorem State.setPort_lpxCount (p : Nat) (x : Port) (s : State) : (s.setPort p x).lpxCount = s.lpxCount := rfl
@[simp] theorem State.setPort_lpxGib (p : Nat) (x : Port) (s : State) : (s.setPort p x).lpxGib = s.lpxGib := rfl
@[simp] theorem State.setPort_rst (p : Nat) (x : Port) (s : State) : (s.setPort p x).rst = s.rst := rfl
@[simp] theorem State.setPort_aon (p : Nat) (x : Port) (s : State) : (s.setPort p x).aon = s.aon := rfl
@[simp] theorem State.setPort_pwr (p : Nat) (x : Port) (s : State) : (s.setPort p x).pwr = s.pwr := rfl
@[simp] theorem State.setPort_sec (p : Nat) (x : Port) (s : State) : (s.setPort p x).sec = s.sec := rfl
@[simp] theorem State.setPort_cal (p : Nat) (x : Port) (s : State) : (s.setPort p x).cal = s.cal := rfl
@[simp] theorem State.setPort_nv (p : Nat) (x : Port) (s : State) : (s.setPort p x).nv = s.nv := rfl
@[simp] theorem State.setPort_bth (p : Nat) (x : Port) (s : State) : (s.setPort p x).bth = s.bth := rfl
@[simp] theorem State.setPort_prf (p : Nat) (x : Port) (s : State) : (s.setPort p x).prf = s.prf := rfl
@[simp] theorem State.setPort_engaged (p : Nat) (x : Port) (s : State) : (s.setPort p x).engaged = s.engaged := rfl
@[simp] theorem State.setPort_stopAsked (p : Nat) (x : Port) (s : State) : (s.setPort p x).stopAsked = s.stopAsked := rfl
@[simp] theorem State.setPort_ifaces (p : Nat) (x : Port) (s : State) : (s.setPort p x).ifaces = s.ifaces := rfl
@[simp] theorem State.setPort_authFail (p : Nat) (x : Port) (s : State) : (s.setPort p x).authFail = s.authFail := rfl
@[simp] theorem State.setPort_lpx (p : Nat) (x : Port) (s : State) : (s.setPort p x).lpx = s.lpx := rfl
@[simp] theorem State.setPort_packages (p : Nat) (x : Port) (s : State) : (s.setPort p x).packages = s.packages := rfl
@[simp] theorem State.setPort_trained (p : Nat) (x : Port) (s : State) : (s.setPort p x).trained = s.trained := rfl
@[simp] theorem State.setPort_credits (p : Nat) (x : Port) (s : State) : (s.setPort p x).credits = s.credits := rfl
@[simp] theorem State.setPort_sliceMap (p : Nat) (x : Port) (s : State) : (s.setPort p x).sliceMap = s.sliceMap := rfl
@[simp] theorem State.setPort_mft (p : Nat) (x : Port) (s : State) : (s.setPort p x).mft = s.mft := rfl
@[simp] theorem State.setPort_sessions (p : Nat) (x : Port) (s : State) : (s.setPort p x).sessions = s.sessions := rfl
@[simp] theorem State.setPort_stores (p : Nat) (x : Port) (s : State) : (s.setPort p x).stores = s.stores := rfl
@[simp] theorem State.setPort_engines (p : Nat) (x : Port) (s : State) : (s.setPort p x).engines = s.engines := rfl
@[simp] theorem State.setPort_descs (p : Nat) (x : Port) (s : State) : (s.setPort p x).descs = s.descs := rfl
@[simp] theorem State.setPort_nextDesc (p : Nat) (x : Port) (s : State) : (s.setPort p x).nextDesc = s.nextDesc := rfl
@[simp] theorem State.setPort_hbm (p : Nat) (x : Port) (s : State) : (s.setPort p x).hbm = s.hbm := rfl
@[simp] theorem State.setPort_slices (p : Nat) (x : Port) (s : State) : (s.setPort p x).slices = s.slices := rfl
@[simp] theorem State.setPort_lines (p : Nat) (x : Port) (s : State) : (s.setPort p x).lines = s.lines := rfl
@[simp] theorem State.setPort_copies (p : Nat) (x : Port) (s : State) : (s.setPort p x).copies = s.copies := rfl
@[simp] theorem State.setPort_plru (p : Nat) (x : Port) (s : State) : (s.setPort p x).plru = s.plru := rfl
@[simp] theorem State.setPort_cohMsgs (p : Nat) (x : Port) (s : State) : (s.setPort p x).cohMsgs = s.cohMsgs := rfl
@[simp] theorem State.setPort_mdDies (p : Nat) (x : Port) (s : State) : (s.setPort p x).mdDies = s.mdDies := rfl
@[simp] theorem State.setPort_marks (p : Nat) (x : Port) (s : State) : (s.setPort p x).marks = s.marks := rfl
@[simp] theorem State.setPort_backing (p : Nat) (x : Port) (s : State) : (s.setPort p x).backing = s.backing := rfl
@[simp] theorem State.setPort_mem (p : Nat) (x : Port) (s : State) : (s.setPort p x).mem = s.mem := rfl

/-! ### modPort -/

@[simp] theorem State.modPort_pending (p : Nat) (f : Port → Port) (s : State) : (s.modPort p f).pending = s.pending := rfl
@[simp] theorem State.modPort_free (p : Nat) (f : Port → Port) (s : State) : (s.modPort p f).free = s.free := rfl
@[simp] theorem State.modPort_out (p : Nat) (f : Port → Port) (s : State) : (s.modPort p f).out = s.out := rfl
@[simp] theorem State.modPort_tick (p : Nat) (f : Port → Port) (s : State) : (s.modPort p f).tick = s.tick := rfl
@[simp] theorem State.modPort_failed (p : Nat) (f : Port → Port) (s : State) : (s.modPort p f).failed = s.failed := rfl
@[simp] theorem State.modPort_stopped (p : Nat) (f : Port → Port) (s : State) : (s.modPort p f).stopped = s.stopped := rfl
@[simp] theorem State.modPort_cores (p : Nat) (f : Port → Port) (s : State) : (s.modPort p f).cores = s.cores := rfl
@[simp] theorem State.modPort_clusters (p : Nat) (f : Port → Port) (s : State) : (s.modPort p f).clusters = s.clusters := rfl
@[simp] theorem State.modPort_ctxs (p : Nat) (f : Port → Port) (s : State) : (s.modPort p f).ctxs = s.ctxs := rfl
@[simp] theorem State.modPort_orders (p : Nat) (f : Port → Port) (s : State) : (s.modPort p f).orders = s.orders := rfl
@[simp] theorem State.modPort_berths (p : Nat) (f : Port → Port) (s : State) : (s.modPort p f).berths = s.berths := rfl
@[simp] theorem State.modPort_dies (p : Nat) (f : Port → Port) (s : State) : (s.modPort p f).dies = s.dies := rfl
@[simp] theorem State.modPort_mbx (p : Nat) (f : Port → Port) (s : State) : (s.modPort p f).mbx = s.mbx := rfl
@[simp] theorem State.modPort_conns (p : Nat) (f : Port → Port) (s : State) : (s.modPort p f).conns = s.conns := rfl
@[simp] theorem State.modPort_nextConn (p : Nat) (f : Port → Port) (s : State) : (s.modPort p f).nextConn = s.nextConn := rfl
@[simp] theorem State.modPort_outbox (p : Nat) (f : Port → Port) (s : State) : (s.modPort p f).outbox = s.outbox := rfl
@[simp] theorem State.modPort_sends (p : Nat) (f : Port → Port) (s : State) : (s.modPort p f).sends = s.sends := rfl
@[simp] theorem State.modPort_evtOpen (p : Nat) (f : Port → Port) (s : State) : (s.modPort p f).evtOpen = s.evtOpen := rfl
@[simp] theorem State.modPort_retired (p : Nat) (f : Port → Port) (s : State) : (s.modPort p f).retired = s.retired := rfl
@[simp] theorem State.modPort_stackGib (p : Nat) (f : Port → Port) (s : State) : (s.modPort p f).stackGib = s.stackGib := rfl
@[simp] theorem State.modPort_lpxCount (p : Nat) (f : Port → Port) (s : State) : (s.modPort p f).lpxCount = s.lpxCount := rfl
@[simp] theorem State.modPort_lpxGib (p : Nat) (f : Port → Port) (s : State) : (s.modPort p f).lpxGib = s.lpxGib := rfl
@[simp] theorem State.modPort_rst (p : Nat) (f : Port → Port) (s : State) : (s.modPort p f).rst = s.rst := rfl
@[simp] theorem State.modPort_aon (p : Nat) (f : Port → Port) (s : State) : (s.modPort p f).aon = s.aon := rfl
@[simp] theorem State.modPort_pwr (p : Nat) (f : Port → Port) (s : State) : (s.modPort p f).pwr = s.pwr := rfl
@[simp] theorem State.modPort_sec (p : Nat) (f : Port → Port) (s : State) : (s.modPort p f).sec = s.sec := rfl
@[simp] theorem State.modPort_cal (p : Nat) (f : Port → Port) (s : State) : (s.modPort p f).cal = s.cal := rfl
@[simp] theorem State.modPort_nv (p : Nat) (f : Port → Port) (s : State) : (s.modPort p f).nv = s.nv := rfl
@[simp] theorem State.modPort_bth (p : Nat) (f : Port → Port) (s : State) : (s.modPort p f).bth = s.bth := rfl
@[simp] theorem State.modPort_prf (p : Nat) (f : Port → Port) (s : State) : (s.modPort p f).prf = s.prf := rfl
@[simp] theorem State.modPort_engaged (p : Nat) (f : Port → Port) (s : State) : (s.modPort p f).engaged = s.engaged := rfl
@[simp] theorem State.modPort_stopAsked (p : Nat) (f : Port → Port) (s : State) : (s.modPort p f).stopAsked = s.stopAsked := rfl
@[simp] theorem State.modPort_ifaces (p : Nat) (f : Port → Port) (s : State) : (s.modPort p f).ifaces = s.ifaces := rfl
@[simp] theorem State.modPort_authFail (p : Nat) (f : Port → Port) (s : State) : (s.modPort p f).authFail = s.authFail := rfl
@[simp] theorem State.modPort_lpx (p : Nat) (f : Port → Port) (s : State) : (s.modPort p f).lpx = s.lpx := rfl
@[simp] theorem State.modPort_packages (p : Nat) (f : Port → Port) (s : State) : (s.modPort p f).packages = s.packages := rfl
@[simp] theorem State.modPort_trained (p : Nat) (f : Port → Port) (s : State) : (s.modPort p f).trained = s.trained := rfl
@[simp] theorem State.modPort_credits (p : Nat) (f : Port → Port) (s : State) : (s.modPort p f).credits = s.credits := rfl
@[simp] theorem State.modPort_sliceMap (p : Nat) (f : Port → Port) (s : State) : (s.modPort p f).sliceMap = s.sliceMap := rfl
@[simp] theorem State.modPort_mft (p : Nat) (f : Port → Port) (s : State) : (s.modPort p f).mft = s.mft := rfl
@[simp] theorem State.modPort_sessions (p : Nat) (f : Port → Port) (s : State) : (s.modPort p f).sessions = s.sessions := rfl
@[simp] theorem State.modPort_stores (p : Nat) (f : Port → Port) (s : State) : (s.modPort p f).stores = s.stores := rfl
@[simp] theorem State.modPort_engines (p : Nat) (f : Port → Port) (s : State) : (s.modPort p f).engines = s.engines := rfl
@[simp] theorem State.modPort_descs (p : Nat) (f : Port → Port) (s : State) : (s.modPort p f).descs = s.descs := rfl
@[simp] theorem State.modPort_nextDesc (p : Nat) (f : Port → Port) (s : State) : (s.modPort p f).nextDesc = s.nextDesc := rfl
@[simp] theorem State.modPort_hbm (p : Nat) (f : Port → Port) (s : State) : (s.modPort p f).hbm = s.hbm := rfl
@[simp] theorem State.modPort_slices (p : Nat) (f : Port → Port) (s : State) : (s.modPort p f).slices = s.slices := rfl
@[simp] theorem State.modPort_lines (p : Nat) (f : Port → Port) (s : State) : (s.modPort p f).lines = s.lines := rfl
@[simp] theorem State.modPort_copies (p : Nat) (f : Port → Port) (s : State) : (s.modPort p f).copies = s.copies := rfl
@[simp] theorem State.modPort_plru (p : Nat) (f : Port → Port) (s : State) : (s.modPort p f).plru = s.plru := rfl
@[simp] theorem State.modPort_cohMsgs (p : Nat) (f : Port → Port) (s : State) : (s.modPort p f).cohMsgs = s.cohMsgs := rfl
@[simp] theorem State.modPort_mdDies (p : Nat) (f : Port → Port) (s : State) : (s.modPort p f).mdDies = s.mdDies := rfl
@[simp] theorem State.modPort_marks (p : Nat) (f : Port → Port) (s : State) : (s.modPort p f).marks = s.marks := rfl
@[simp] theorem State.modPort_backing (p : Nat) (f : Port → Port) (s : State) : (s.modPort p f).backing = s.backing := rfl
@[simp] theorem State.modPort_mem (p : Nat) (f : Port → Port) (s : State) : (s.modPort p f).mem = s.mem := rfl

/-! ### modDie -/

@[simp] theorem State.modDie_pending (d : Nat) (f : Die → Die) (s : State) : (s.modDie d f).pending = s.pending := rfl
@[simp] theorem State.modDie_free (d : Nat) (f : Die → Die) (s : State) : (s.modDie d f).free = s.free := rfl
@[simp] theorem State.modDie_out (d : Nat) (f : Die → Die) (s : State) : (s.modDie d f).out = s.out := rfl
@[simp] theorem State.modDie_tick (d : Nat) (f : Die → Die) (s : State) : (s.modDie d f).tick = s.tick := rfl
@[simp] theorem State.modDie_failed (d : Nat) (f : Die → Die) (s : State) : (s.modDie d f).failed = s.failed := rfl
@[simp] theorem State.modDie_stopped (d : Nat) (f : Die → Die) (s : State) : (s.modDie d f).stopped = s.stopped := rfl
@[simp] theorem State.modDie_cores (d : Nat) (f : Die → Die) (s : State) : (s.modDie d f).cores = s.cores := rfl
@[simp] theorem State.modDie_clusters (d : Nat) (f : Die → Die) (s : State) : (s.modDie d f).clusters = s.clusters := rfl
@[simp] theorem State.modDie_ctxs (d : Nat) (f : Die → Die) (s : State) : (s.modDie d f).ctxs = s.ctxs := rfl
@[simp] theorem State.modDie_orders (d : Nat) (f : Die → Die) (s : State) : (s.modDie d f).orders = s.orders := rfl
@[simp] theorem State.modDie_berths (d : Nat) (f : Die → Die) (s : State) : (s.modDie d f).berths = s.berths := rfl
@[simp] theorem State.modDie_mbx (d : Nat) (f : Die → Die) (s : State) : (s.modDie d f).mbx = s.mbx := rfl
@[simp] theorem State.modDie_conns (d : Nat) (f : Die → Die) (s : State) : (s.modDie d f).conns = s.conns := rfl
@[simp] theorem State.modDie_nextConn (d : Nat) (f : Die → Die) (s : State) : (s.modDie d f).nextConn = s.nextConn := rfl
@[simp] theorem State.modDie_outbox (d : Nat) (f : Die → Die) (s : State) : (s.modDie d f).outbox = s.outbox := rfl
@[simp] theorem State.modDie_sends (d : Nat) (f : Die → Die) (s : State) : (s.modDie d f).sends = s.sends := rfl
@[simp] theorem State.modDie_evtOpen (d : Nat) (f : Die → Die) (s : State) : (s.modDie d f).evtOpen = s.evtOpen := rfl
@[simp] theorem State.modDie_retired (d : Nat) (f : Die → Die) (s : State) : (s.modDie d f).retired = s.retired := rfl
@[simp] theorem State.modDie_stackGib (d : Nat) (f : Die → Die) (s : State) : (s.modDie d f).stackGib = s.stackGib := rfl
@[simp] theorem State.modDie_lpxCount (d : Nat) (f : Die → Die) (s : State) : (s.modDie d f).lpxCount = s.lpxCount := rfl
@[simp] theorem State.modDie_lpxGib (d : Nat) (f : Die → Die) (s : State) : (s.modDie d f).lpxGib = s.lpxGib := rfl
@[simp] theorem State.modDie_rst (d : Nat) (f : Die → Die) (s : State) : (s.modDie d f).rst = s.rst := rfl
@[simp] theorem State.modDie_aon (d : Nat) (f : Die → Die) (s : State) : (s.modDie d f).aon = s.aon := rfl
@[simp] theorem State.modDie_pwr (d : Nat) (f : Die → Die) (s : State) : (s.modDie d f).pwr = s.pwr := rfl
@[simp] theorem State.modDie_sec (d : Nat) (f : Die → Die) (s : State) : (s.modDie d f).sec = s.sec := rfl
@[simp] theorem State.modDie_cal (d : Nat) (f : Die → Die) (s : State) : (s.modDie d f).cal = s.cal := rfl
@[simp] theorem State.modDie_nv (d : Nat) (f : Die → Die) (s : State) : (s.modDie d f).nv = s.nv := rfl
@[simp] theorem State.modDie_bth (d : Nat) (f : Die → Die) (s : State) : (s.modDie d f).bth = s.bth := rfl
@[simp] theorem State.modDie_prf (d : Nat) (f : Die → Die) (s : State) : (s.modDie d f).prf = s.prf := rfl
@[simp] theorem State.modDie_engaged (d : Nat) (f : Die → Die) (s : State) : (s.modDie d f).engaged = s.engaged := rfl
@[simp] theorem State.modDie_stopAsked (d : Nat) (f : Die → Die) (s : State) : (s.modDie d f).stopAsked = s.stopAsked := rfl
@[simp] theorem State.modDie_ifaces (d : Nat) (f : Die → Die) (s : State) : (s.modDie d f).ifaces = s.ifaces := rfl
@[simp] theorem State.modDie_authFail (d : Nat) (f : Die → Die) (s : State) : (s.modDie d f).authFail = s.authFail := rfl
@[simp] theorem State.modDie_lpx (d : Nat) (f : Die → Die) (s : State) : (s.modDie d f).lpx = s.lpx := rfl
@[simp] theorem State.modDie_packages (d : Nat) (f : Die → Die) (s : State) : (s.modDie d f).packages = s.packages := rfl
@[simp] theorem State.modDie_trained (d : Nat) (f : Die → Die) (s : State) : (s.modDie d f).trained = s.trained := rfl
@[simp] theorem State.modDie_credits (d : Nat) (f : Die → Die) (s : State) : (s.modDie d f).credits = s.credits := rfl
@[simp] theorem State.modDie_sliceMap (d : Nat) (f : Die → Die) (s : State) : (s.modDie d f).sliceMap = s.sliceMap := rfl
@[simp] theorem State.modDie_mft (d : Nat) (f : Die → Die) (s : State) : (s.modDie d f).mft = s.mft := rfl
@[simp] theorem State.modDie_sessions (d : Nat) (f : Die → Die) (s : State) : (s.modDie d f).sessions = s.sessions := rfl
@[simp] theorem State.modDie_stores (d : Nat) (f : Die → Die) (s : State) : (s.modDie d f).stores = s.stores := rfl
@[simp] theorem State.modDie_engines (d : Nat) (f : Die → Die) (s : State) : (s.modDie d f).engines = s.engines := rfl
@[simp] theorem State.modDie_descs (d : Nat) (f : Die → Die) (s : State) : (s.modDie d f).descs = s.descs := rfl
@[simp] theorem State.modDie_nextDesc (d : Nat) (f : Die → Die) (s : State) : (s.modDie d f).nextDesc = s.nextDesc := rfl
@[simp] theorem State.modDie_hbm (d : Nat) (f : Die → Die) (s : State) : (s.modDie d f).hbm = s.hbm := rfl
@[simp] theorem State.modDie_slices (d : Nat) (f : Die → Die) (s : State) : (s.modDie d f).slices = s.slices := rfl
@[simp] theorem State.modDie_lines (d : Nat) (f : Die → Die) (s : State) : (s.modDie d f).lines = s.lines := rfl
@[simp] theorem State.modDie_copies (d : Nat) (f : Die → Die) (s : State) : (s.modDie d f).copies = s.copies := rfl
@[simp] theorem State.modDie_plru (d : Nat) (f : Die → Die) (s : State) : (s.modDie d f).plru = s.plru := rfl
@[simp] theorem State.modDie_cohMsgs (d : Nat) (f : Die → Die) (s : State) : (s.modDie d f).cohMsgs = s.cohMsgs := rfl
@[simp] theorem State.modDie_mdDies (d : Nat) (f : Die → Die) (s : State) : (s.modDie d f).mdDies = s.mdDies := rfl
@[simp] theorem State.modDie_ports (d : Nat) (f : Die → Die) (s : State) : (s.modDie d f).ports = s.ports := rfl
@[simp] theorem State.modDie_marks (d : Nat) (f : Die → Die) (s : State) : (s.modDie d f).marks = s.marks := rfl
@[simp] theorem State.modDie_backing (d : Nat) (f : Die → Die) (s : State) : (s.modDie d f).backing = s.backing := rfl
@[simp] theorem State.modDie_mem (d : Nat) (f : Die → Die) (s : State) : (s.modDie d f).mem = s.mem := rfl

/-! ### setConn -/

@[simp] theorem State.setConn_pending (n : Nat) (x : Option Conn) (s : State) : (s.setConn n x).pending = s.pending := rfl
@[simp] theorem State.setConn_free (n : Nat) (x : Option Conn) (s : State) : (s.setConn n x).free = s.free := rfl
@[simp] theorem State.setConn_out (n : Nat) (x : Option Conn) (s : State) : (s.setConn n x).out = s.out := rfl
@[simp] theorem State.setConn_tick (n : Nat) (x : Option Conn) (s : State) : (s.setConn n x).tick = s.tick := rfl
@[simp] theorem State.setConn_failed (n : Nat) (x : Option Conn) (s : State) : (s.setConn n x).failed = s.failed := rfl
@[simp] theorem State.setConn_stopped (n : Nat) (x : Option Conn) (s : State) : (s.setConn n x).stopped = s.stopped := rfl
@[simp] theorem State.setConn_cores (n : Nat) (x : Option Conn) (s : State) : (s.setConn n x).cores = s.cores := rfl
@[simp] theorem State.setConn_clusters (n : Nat) (x : Option Conn) (s : State) : (s.setConn n x).clusters = s.clusters := rfl
@[simp] theorem State.setConn_ctxs (n : Nat) (x : Option Conn) (s : State) : (s.setConn n x).ctxs = s.ctxs := rfl
@[simp] theorem State.setConn_orders (n : Nat) (x : Option Conn) (s : State) : (s.setConn n x).orders = s.orders := rfl
@[simp] theorem State.setConn_berths (n : Nat) (x : Option Conn) (s : State) : (s.setConn n x).berths = s.berths := rfl
@[simp] theorem State.setConn_dies (n : Nat) (x : Option Conn) (s : State) : (s.setConn n x).dies = s.dies := rfl
@[simp] theorem State.setConn_mbx (n : Nat) (x : Option Conn) (s : State) : (s.setConn n x).mbx = s.mbx := rfl
@[simp] theorem State.setConn_nextConn (n : Nat) (x : Option Conn) (s : State) : (s.setConn n x).nextConn = s.nextConn := rfl
@[simp] theorem State.setConn_outbox (n : Nat) (x : Option Conn) (s : State) : (s.setConn n x).outbox = s.outbox := rfl
@[simp] theorem State.setConn_sends (n : Nat) (x : Option Conn) (s : State) : (s.setConn n x).sends = s.sends := rfl
@[simp] theorem State.setConn_evtOpen (n : Nat) (x : Option Conn) (s : State) : (s.setConn n x).evtOpen = s.evtOpen := rfl
@[simp] theorem State.setConn_retired (n : Nat) (x : Option Conn) (s : State) : (s.setConn n x).retired = s.retired := rfl
@[simp] theorem State.setConn_stackGib (n : Nat) (x : Option Conn) (s : State) : (s.setConn n x).stackGib = s.stackGib := rfl
@[simp] theorem State.setConn_lpxCount (n : Nat) (x : Option Conn) (s : State) : (s.setConn n x).lpxCount = s.lpxCount := rfl
@[simp] theorem State.setConn_lpxGib (n : Nat) (x : Option Conn) (s : State) : (s.setConn n x).lpxGib = s.lpxGib := rfl
@[simp] theorem State.setConn_rst (n : Nat) (x : Option Conn) (s : State) : (s.setConn n x).rst = s.rst := rfl
@[simp] theorem State.setConn_aon (n : Nat) (x : Option Conn) (s : State) : (s.setConn n x).aon = s.aon := rfl
@[simp] theorem State.setConn_pwr (n : Nat) (x : Option Conn) (s : State) : (s.setConn n x).pwr = s.pwr := rfl
@[simp] theorem State.setConn_sec (n : Nat) (x : Option Conn) (s : State) : (s.setConn n x).sec = s.sec := rfl
@[simp] theorem State.setConn_cal (n : Nat) (x : Option Conn) (s : State) : (s.setConn n x).cal = s.cal := rfl
@[simp] theorem State.setConn_nv (n : Nat) (x : Option Conn) (s : State) : (s.setConn n x).nv = s.nv := rfl
@[simp] theorem State.setConn_bth (n : Nat) (x : Option Conn) (s : State) : (s.setConn n x).bth = s.bth := rfl
@[simp] theorem State.setConn_prf (n : Nat) (x : Option Conn) (s : State) : (s.setConn n x).prf = s.prf := rfl
@[simp] theorem State.setConn_engaged (n : Nat) (x : Option Conn) (s : State) : (s.setConn n x).engaged = s.engaged := rfl
@[simp] theorem State.setConn_stopAsked (n : Nat) (x : Option Conn) (s : State) : (s.setConn n x).stopAsked = s.stopAsked := rfl
@[simp] theorem State.setConn_ifaces (n : Nat) (x : Option Conn) (s : State) : (s.setConn n x).ifaces = s.ifaces := rfl
@[simp] theorem State.setConn_authFail (n : Nat) (x : Option Conn) (s : State) : (s.setConn n x).authFail = s.authFail := rfl
@[simp] theorem State.setConn_lpx (n : Nat) (x : Option Conn) (s : State) : (s.setConn n x).lpx = s.lpx := rfl
@[simp] theorem State.setConn_packages (n : Nat) (x : Option Conn) (s : State) : (s.setConn n x).packages = s.packages := rfl
@[simp] theorem State.setConn_trained (n : Nat) (x : Option Conn) (s : State) : (s.setConn n x).trained = s.trained := rfl
@[simp] theorem State.setConn_credits (n : Nat) (x : Option Conn) (s : State) : (s.setConn n x).credits = s.credits := rfl
@[simp] theorem State.setConn_sliceMap (n : Nat) (x : Option Conn) (s : State) : (s.setConn n x).sliceMap = s.sliceMap := rfl
@[simp] theorem State.setConn_mft (n : Nat) (x : Option Conn) (s : State) : (s.setConn n x).mft = s.mft := rfl
@[simp] theorem State.setConn_sessions (n : Nat) (x : Option Conn) (s : State) : (s.setConn n x).sessions = s.sessions := rfl
@[simp] theorem State.setConn_stores (n : Nat) (x : Option Conn) (s : State) : (s.setConn n x).stores = s.stores := rfl
@[simp] theorem State.setConn_engines (n : Nat) (x : Option Conn) (s : State) : (s.setConn n x).engines = s.engines := rfl
@[simp] theorem State.setConn_descs (n : Nat) (x : Option Conn) (s : State) : (s.setConn n x).descs = s.descs := rfl
@[simp] theorem State.setConn_nextDesc (n : Nat) (x : Option Conn) (s : State) : (s.setConn n x).nextDesc = s.nextDesc := rfl
@[simp] theorem State.setConn_hbm (n : Nat) (x : Option Conn) (s : State) : (s.setConn n x).hbm = s.hbm := rfl
@[simp] theorem State.setConn_slices (n : Nat) (x : Option Conn) (s : State) : (s.setConn n x).slices = s.slices := rfl
@[simp] theorem State.setConn_lines (n : Nat) (x : Option Conn) (s : State) : (s.setConn n x).lines = s.lines := rfl
@[simp] theorem State.setConn_copies (n : Nat) (x : Option Conn) (s : State) : (s.setConn n x).copies = s.copies := rfl
@[simp] theorem State.setConn_plru (n : Nat) (x : Option Conn) (s : State) : (s.setConn n x).plru = s.plru := rfl
@[simp] theorem State.setConn_cohMsgs (n : Nat) (x : Option Conn) (s : State) : (s.setConn n x).cohMsgs = s.cohMsgs := rfl
@[simp] theorem State.setConn_mdDies (n : Nat) (x : Option Conn) (s : State) : (s.setConn n x).mdDies = s.mdDies := rfl
@[simp] theorem State.setConn_ports (n : Nat) (x : Option Conn) (s : State) : (s.setConn n x).ports = s.ports := rfl
@[simp] theorem State.setConn_marks (n : Nat) (x : Option Conn) (s : State) : (s.setConn n x).marks = s.marks := rfl
@[simp] theorem State.setConn_backing (n : Nat) (x : Option Conn) (s : State) : (s.setConn n x).backing = s.backing := rfl
@[simp] theorem State.setConn_mem (n : Nat) (x : Option Conn) (s : State) : (s.setConn n x).mem = s.mem := rfl

/-! ### modConn -/

@[simp] theorem State.modConn_pending (n : Nat) (f : Conn → Conn) (s : State) : (s.modConn n f).pending = s.pending := rfl
@[simp] theorem State.modConn_free (n : Nat) (f : Conn → Conn) (s : State) : (s.modConn n f).free = s.free := rfl
@[simp] theorem State.modConn_out (n : Nat) (f : Conn → Conn) (s : State) : (s.modConn n f).out = s.out := rfl
@[simp] theorem State.modConn_tick (n : Nat) (f : Conn → Conn) (s : State) : (s.modConn n f).tick = s.tick := rfl
@[simp] theorem State.modConn_failed (n : Nat) (f : Conn → Conn) (s : State) : (s.modConn n f).failed = s.failed := rfl
@[simp] theorem State.modConn_stopped (n : Nat) (f : Conn → Conn) (s : State) : (s.modConn n f).stopped = s.stopped := rfl
@[simp] theorem State.modConn_cores (n : Nat) (f : Conn → Conn) (s : State) : (s.modConn n f).cores = s.cores := rfl
@[simp] theorem State.modConn_clusters (n : Nat) (f : Conn → Conn) (s : State) : (s.modConn n f).clusters = s.clusters := rfl
@[simp] theorem State.modConn_ctxs (n : Nat) (f : Conn → Conn) (s : State) : (s.modConn n f).ctxs = s.ctxs := rfl
@[simp] theorem State.modConn_orders (n : Nat) (f : Conn → Conn) (s : State) : (s.modConn n f).orders = s.orders := rfl
@[simp] theorem State.modConn_berths (n : Nat) (f : Conn → Conn) (s : State) : (s.modConn n f).berths = s.berths := rfl
@[simp] theorem State.modConn_dies (n : Nat) (f : Conn → Conn) (s : State) : (s.modConn n f).dies = s.dies := rfl
@[simp] theorem State.modConn_mbx (n : Nat) (f : Conn → Conn) (s : State) : (s.modConn n f).mbx = s.mbx := rfl
@[simp] theorem State.modConn_nextConn (n : Nat) (f : Conn → Conn) (s : State) : (s.modConn n f).nextConn = s.nextConn := rfl
@[simp] theorem State.modConn_outbox (n : Nat) (f : Conn → Conn) (s : State) : (s.modConn n f).outbox = s.outbox := rfl
@[simp] theorem State.modConn_sends (n : Nat) (f : Conn → Conn) (s : State) : (s.modConn n f).sends = s.sends := rfl
@[simp] theorem State.modConn_evtOpen (n : Nat) (f : Conn → Conn) (s : State) : (s.modConn n f).evtOpen = s.evtOpen := rfl
@[simp] theorem State.modConn_retired (n : Nat) (f : Conn → Conn) (s : State) : (s.modConn n f).retired = s.retired := rfl
@[simp] theorem State.modConn_stackGib (n : Nat) (f : Conn → Conn) (s : State) : (s.modConn n f).stackGib = s.stackGib := rfl
@[simp] theorem State.modConn_lpxCount (n : Nat) (f : Conn → Conn) (s : State) : (s.modConn n f).lpxCount = s.lpxCount := rfl
@[simp] theorem State.modConn_lpxGib (n : Nat) (f : Conn → Conn) (s : State) : (s.modConn n f).lpxGib = s.lpxGib := rfl
@[simp] theorem State.modConn_rst (n : Nat) (f : Conn → Conn) (s : State) : (s.modConn n f).rst = s.rst := rfl
@[simp] theorem State.modConn_aon (n : Nat) (f : Conn → Conn) (s : State) : (s.modConn n f).aon = s.aon := rfl
@[simp] theorem State.modConn_pwr (n : Nat) (f : Conn → Conn) (s : State) : (s.modConn n f).pwr = s.pwr := rfl
@[simp] theorem State.modConn_sec (n : Nat) (f : Conn → Conn) (s : State) : (s.modConn n f).sec = s.sec := rfl
@[simp] theorem State.modConn_cal (n : Nat) (f : Conn → Conn) (s : State) : (s.modConn n f).cal = s.cal := rfl
@[simp] theorem State.modConn_nv (n : Nat) (f : Conn → Conn) (s : State) : (s.modConn n f).nv = s.nv := rfl
@[simp] theorem State.modConn_bth (n : Nat) (f : Conn → Conn) (s : State) : (s.modConn n f).bth = s.bth := rfl
@[simp] theorem State.modConn_prf (n : Nat) (f : Conn → Conn) (s : State) : (s.modConn n f).prf = s.prf := rfl
@[simp] theorem State.modConn_engaged (n : Nat) (f : Conn → Conn) (s : State) : (s.modConn n f).engaged = s.engaged := rfl
@[simp] theorem State.modConn_stopAsked (n : Nat) (f : Conn → Conn) (s : State) : (s.modConn n f).stopAsked = s.stopAsked := rfl
@[simp] theorem State.modConn_ifaces (n : Nat) (f : Conn → Conn) (s : State) : (s.modConn n f).ifaces = s.ifaces := rfl
@[simp] theorem State.modConn_authFail (n : Nat) (f : Conn → Conn) (s : State) : (s.modConn n f).authFail = s.authFail := rfl
@[simp] theorem State.modConn_lpx (n : Nat) (f : Conn → Conn) (s : State) : (s.modConn n f).lpx = s.lpx := rfl
@[simp] theorem State.modConn_packages (n : Nat) (f : Conn → Conn) (s : State) : (s.modConn n f).packages = s.packages := rfl
@[simp] theorem State.modConn_trained (n : Nat) (f : Conn → Conn) (s : State) : (s.modConn n f).trained = s.trained := rfl
@[simp] theorem State.modConn_credits (n : Nat) (f : Conn → Conn) (s : State) : (s.modConn n f).credits = s.credits := rfl
@[simp] theorem State.modConn_sliceMap (n : Nat) (f : Conn → Conn) (s : State) : (s.modConn n f).sliceMap = s.sliceMap := rfl
@[simp] theorem State.modConn_mft (n : Nat) (f : Conn → Conn) (s : State) : (s.modConn n f).mft = s.mft := rfl
@[simp] theorem State.modConn_sessions (n : Nat) (f : Conn → Conn) (s : State) : (s.modConn n f).sessions = s.sessions := rfl
@[simp] theorem State.modConn_stores (n : Nat) (f : Conn → Conn) (s : State) : (s.modConn n f).stores = s.stores := rfl
@[simp] theorem State.modConn_engines (n : Nat) (f : Conn → Conn) (s : State) : (s.modConn n f).engines = s.engines := rfl
@[simp] theorem State.modConn_descs (n : Nat) (f : Conn → Conn) (s : State) : (s.modConn n f).descs = s.descs := rfl
@[simp] theorem State.modConn_nextDesc (n : Nat) (f : Conn → Conn) (s : State) : (s.modConn n f).nextDesc = s.nextDesc := rfl
@[simp] theorem State.modConn_hbm (n : Nat) (f : Conn → Conn) (s : State) : (s.modConn n f).hbm = s.hbm := rfl
@[simp] theorem State.modConn_slices (n : Nat) (f : Conn → Conn) (s : State) : (s.modConn n f).slices = s.slices := rfl
@[simp] theorem State.modConn_lines (n : Nat) (f : Conn → Conn) (s : State) : (s.modConn n f).lines = s.lines := rfl
@[simp] theorem State.modConn_copies (n : Nat) (f : Conn → Conn) (s : State) : (s.modConn n f).copies = s.copies := rfl
@[simp] theorem State.modConn_plru (n : Nat) (f : Conn → Conn) (s : State) : (s.modConn n f).plru = s.plru := rfl
@[simp] theorem State.modConn_cohMsgs (n : Nat) (f : Conn → Conn) (s : State) : (s.modConn n f).cohMsgs = s.cohMsgs := rfl
@[simp] theorem State.modConn_mdDies (n : Nat) (f : Conn → Conn) (s : State) : (s.modConn n f).mdDies = s.mdDies := rfl
@[simp] theorem State.modConn_ports (n : Nat) (f : Conn → Conn) (s : State) : (s.modConn n f).ports = s.ports := rfl
@[simp] theorem State.modConn_marks (n : Nat) (f : Conn → Conn) (s : State) : (s.modConn n f).marks = s.marks := rfl
@[simp] theorem State.modConn_backing (n : Nat) (f : Conn → Conn) (s : State) : (s.modConn n f).backing = s.backing := rfl
@[simp] theorem State.modConn_mem (n : Nat) (f : Conn → Conn) (s : State) : (s.modConn n f).mem = s.mem := rfl

/-! ### modIface -/

@[simp] theorem State.modIface_pending (i : Nat) (f : EthIf → EthIf) (s : State) : (s.modIface i f).pending = s.pending := rfl
@[simp] theorem State.modIface_free (i : Nat) (f : EthIf → EthIf) (s : State) : (s.modIface i f).free = s.free := rfl
@[simp] theorem State.modIface_out (i : Nat) (f : EthIf → EthIf) (s : State) : (s.modIface i f).out = s.out := rfl
@[simp] theorem State.modIface_tick (i : Nat) (f : EthIf → EthIf) (s : State) : (s.modIface i f).tick = s.tick := rfl
@[simp] theorem State.modIface_failed (i : Nat) (f : EthIf → EthIf) (s : State) : (s.modIface i f).failed = s.failed := rfl
@[simp] theorem State.modIface_stopped (i : Nat) (f : EthIf → EthIf) (s : State) : (s.modIface i f).stopped = s.stopped := rfl
@[simp] theorem State.modIface_cores (i : Nat) (f : EthIf → EthIf) (s : State) : (s.modIface i f).cores = s.cores := rfl
@[simp] theorem State.modIface_clusters (i : Nat) (f : EthIf → EthIf) (s : State) : (s.modIface i f).clusters = s.clusters := rfl
@[simp] theorem State.modIface_ctxs (i : Nat) (f : EthIf → EthIf) (s : State) : (s.modIface i f).ctxs = s.ctxs := rfl
@[simp] theorem State.modIface_orders (i : Nat) (f : EthIf → EthIf) (s : State) : (s.modIface i f).orders = s.orders := rfl
@[simp] theorem State.modIface_berths (i : Nat) (f : EthIf → EthIf) (s : State) : (s.modIface i f).berths = s.berths := rfl
@[simp] theorem State.modIface_dies (i : Nat) (f : EthIf → EthIf) (s : State) : (s.modIface i f).dies = s.dies := rfl
@[simp] theorem State.modIface_mbx (i : Nat) (f : EthIf → EthIf) (s : State) : (s.modIface i f).mbx = s.mbx := rfl
@[simp] theorem State.modIface_conns (i : Nat) (f : EthIf → EthIf) (s : State) : (s.modIface i f).conns = s.conns := rfl
@[simp] theorem State.modIface_nextConn (i : Nat) (f : EthIf → EthIf) (s : State) : (s.modIface i f).nextConn = s.nextConn := rfl
@[simp] theorem State.modIface_outbox (i : Nat) (f : EthIf → EthIf) (s : State) : (s.modIface i f).outbox = s.outbox := rfl
@[simp] theorem State.modIface_sends (i : Nat) (f : EthIf → EthIf) (s : State) : (s.modIface i f).sends = s.sends := rfl
@[simp] theorem State.modIface_evtOpen (i : Nat) (f : EthIf → EthIf) (s : State) : (s.modIface i f).evtOpen = s.evtOpen := rfl
@[simp] theorem State.modIface_retired (i : Nat) (f : EthIf → EthIf) (s : State) : (s.modIface i f).retired = s.retired := rfl
@[simp] theorem State.modIface_stackGib (i : Nat) (f : EthIf → EthIf) (s : State) : (s.modIface i f).stackGib = s.stackGib := rfl
@[simp] theorem State.modIface_lpxCount (i : Nat) (f : EthIf → EthIf) (s : State) : (s.modIface i f).lpxCount = s.lpxCount := rfl
@[simp] theorem State.modIface_lpxGib (i : Nat) (f : EthIf → EthIf) (s : State) : (s.modIface i f).lpxGib = s.lpxGib := rfl
@[simp] theorem State.modIface_rst (i : Nat) (f : EthIf → EthIf) (s : State) : (s.modIface i f).rst = s.rst := rfl
@[simp] theorem State.modIface_aon (i : Nat) (f : EthIf → EthIf) (s : State) : (s.modIface i f).aon = s.aon := rfl
@[simp] theorem State.modIface_pwr (i : Nat) (f : EthIf → EthIf) (s : State) : (s.modIface i f).pwr = s.pwr := rfl
@[simp] theorem State.modIface_sec (i : Nat) (f : EthIf → EthIf) (s : State) : (s.modIface i f).sec = s.sec := rfl
@[simp] theorem State.modIface_cal (i : Nat) (f : EthIf → EthIf) (s : State) : (s.modIface i f).cal = s.cal := rfl
@[simp] theorem State.modIface_nv (i : Nat) (f : EthIf → EthIf) (s : State) : (s.modIface i f).nv = s.nv := rfl
@[simp] theorem State.modIface_bth (i : Nat) (f : EthIf → EthIf) (s : State) : (s.modIface i f).bth = s.bth := rfl
@[simp] theorem State.modIface_prf (i : Nat) (f : EthIf → EthIf) (s : State) : (s.modIface i f).prf = s.prf := rfl
@[simp] theorem State.modIface_engaged (i : Nat) (f : EthIf → EthIf) (s : State) : (s.modIface i f).engaged = s.engaged := rfl
@[simp] theorem State.modIface_stopAsked (i : Nat) (f : EthIf → EthIf) (s : State) : (s.modIface i f).stopAsked = s.stopAsked := rfl
@[simp] theorem State.modIface_authFail (i : Nat) (f : EthIf → EthIf) (s : State) : (s.modIface i f).authFail = s.authFail := rfl
@[simp] theorem State.modIface_lpx (i : Nat) (f : EthIf → EthIf) (s : State) : (s.modIface i f).lpx = s.lpx := rfl
@[simp] theorem State.modIface_packages (i : Nat) (f : EthIf → EthIf) (s : State) : (s.modIface i f).packages = s.packages := rfl
@[simp] theorem State.modIface_trained (i : Nat) (f : EthIf → EthIf) (s : State) : (s.modIface i f).trained = s.trained := rfl
@[simp] theorem State.modIface_credits (i : Nat) (f : EthIf → EthIf) (s : State) : (s.modIface i f).credits = s.credits := rfl
@[simp] theorem State.modIface_sliceMap (i : Nat) (f : EthIf → EthIf) (s : State) : (s.modIface i f).sliceMap = s.sliceMap := rfl
@[simp] theorem State.modIface_mft (i : Nat) (f : EthIf → EthIf) (s : State) : (s.modIface i f).mft = s.mft := rfl
@[simp] theorem State.modIface_sessions (i : Nat) (f : EthIf → EthIf) (s : State) : (s.modIface i f).sessions = s.sessions := rfl
@[simp] theorem State.modIface_stores (i : Nat) (f : EthIf → EthIf) (s : State) : (s.modIface i f).stores = s.stores := rfl
@[simp] theorem State.modIface_engines (i : Nat) (f : EthIf → EthIf) (s : State) : (s.modIface i f).engines = s.engines := rfl
@[simp] theorem State.modIface_descs (i : Nat) (f : EthIf → EthIf) (s : State) : (s.modIface i f).descs = s.descs := rfl
@[simp] theorem State.modIface_nextDesc (i : Nat) (f : EthIf → EthIf) (s : State) : (s.modIface i f).nextDesc = s.nextDesc := rfl
@[simp] theorem State.modIface_hbm (i : Nat) (f : EthIf → EthIf) (s : State) : (s.modIface i f).hbm = s.hbm := rfl
@[simp] theorem State.modIface_slices (i : Nat) (f : EthIf → EthIf) (s : State) : (s.modIface i f).slices = s.slices := rfl
@[simp] theorem State.modIface_lines (i : Nat) (f : EthIf → EthIf) (s : State) : (s.modIface i f).lines = s.lines := rfl
@[simp] theorem State.modIface_copies (i : Nat) (f : EthIf → EthIf) (s : State) : (s.modIface i f).copies = s.copies := rfl
@[simp] theorem State.modIface_plru (i : Nat) (f : EthIf → EthIf) (s : State) : (s.modIface i f).plru = s.plru := rfl
@[simp] theorem State.modIface_cohMsgs (i : Nat) (f : EthIf → EthIf) (s : State) : (s.modIface i f).cohMsgs = s.cohMsgs := rfl
@[simp] theorem State.modIface_mdDies (i : Nat) (f : EthIf → EthIf) (s : State) : (s.modIface i f).mdDies = s.mdDies := rfl
@[simp] theorem State.modIface_ports (i : Nat) (f : EthIf → EthIf) (s : State) : (s.modIface i f).ports = s.ports := rfl
@[simp] theorem State.modIface_marks (i : Nat) (f : EthIf → EthIf) (s : State) : (s.modIface i f).marks = s.marks := rfl
@[simp] theorem State.modIface_backing (i : Nat) (f : EthIf → EthIf) (s : State) : (s.modIface i f).backing = s.backing := rfl
@[simp] theorem State.modIface_mem (i : Nat) (f : EthIf → EthIf) (s : State) : (s.modIface i f).mem = s.mem := rfl

/-! ### setSess -/

@[simp] theorem State.setSess_pending (n : Nat) (x : Sess) (s : State) : (s.setSess n x).pending = s.pending := rfl
@[simp] theorem State.setSess_free (n : Nat) (x : Sess) (s : State) : (s.setSess n x).free = s.free := rfl
@[simp] theorem State.setSess_out (n : Nat) (x : Sess) (s : State) : (s.setSess n x).out = s.out := rfl
@[simp] theorem State.setSess_tick (n : Nat) (x : Sess) (s : State) : (s.setSess n x).tick = s.tick := rfl
@[simp] theorem State.setSess_failed (n : Nat) (x : Sess) (s : State) : (s.setSess n x).failed = s.failed := rfl
@[simp] theorem State.setSess_stopped (n : Nat) (x : Sess) (s : State) : (s.setSess n x).stopped = s.stopped := rfl
@[simp] theorem State.setSess_cores (n : Nat) (x : Sess) (s : State) : (s.setSess n x).cores = s.cores := rfl
@[simp] theorem State.setSess_clusters (n : Nat) (x : Sess) (s : State) : (s.setSess n x).clusters = s.clusters := rfl
@[simp] theorem State.setSess_ctxs (n : Nat) (x : Sess) (s : State) : (s.setSess n x).ctxs = s.ctxs := rfl
@[simp] theorem State.setSess_orders (n : Nat) (x : Sess) (s : State) : (s.setSess n x).orders = s.orders := rfl
@[simp] theorem State.setSess_berths (n : Nat) (x : Sess) (s : State) : (s.setSess n x).berths = s.berths := rfl
@[simp] theorem State.setSess_dies (n : Nat) (x : Sess) (s : State) : (s.setSess n x).dies = s.dies := rfl
@[simp] theorem State.setSess_mbx (n : Nat) (x : Sess) (s : State) : (s.setSess n x).mbx = s.mbx := rfl
@[simp] theorem State.setSess_conns (n : Nat) (x : Sess) (s : State) : (s.setSess n x).conns = s.conns := rfl
@[simp] theorem State.setSess_nextConn (n : Nat) (x : Sess) (s : State) : (s.setSess n x).nextConn = s.nextConn := rfl
@[simp] theorem State.setSess_outbox (n : Nat) (x : Sess) (s : State) : (s.setSess n x).outbox = s.outbox := rfl
@[simp] theorem State.setSess_sends (n : Nat) (x : Sess) (s : State) : (s.setSess n x).sends = s.sends := rfl
@[simp] theorem State.setSess_evtOpen (n : Nat) (x : Sess) (s : State) : (s.setSess n x).evtOpen = s.evtOpen := rfl
@[simp] theorem State.setSess_retired (n : Nat) (x : Sess) (s : State) : (s.setSess n x).retired = s.retired := rfl
@[simp] theorem State.setSess_stackGib (n : Nat) (x : Sess) (s : State) : (s.setSess n x).stackGib = s.stackGib := rfl
@[simp] theorem State.setSess_lpxCount (n : Nat) (x : Sess) (s : State) : (s.setSess n x).lpxCount = s.lpxCount := rfl
@[simp] theorem State.setSess_lpxGib (n : Nat) (x : Sess) (s : State) : (s.setSess n x).lpxGib = s.lpxGib := rfl
@[simp] theorem State.setSess_rst (n : Nat) (x : Sess) (s : State) : (s.setSess n x).rst = s.rst := rfl
@[simp] theorem State.setSess_aon (n : Nat) (x : Sess) (s : State) : (s.setSess n x).aon = s.aon := rfl
@[simp] theorem State.setSess_pwr (n : Nat) (x : Sess) (s : State) : (s.setSess n x).pwr = s.pwr := rfl
@[simp] theorem State.setSess_sec (n : Nat) (x : Sess) (s : State) : (s.setSess n x).sec = s.sec := rfl
@[simp] theorem State.setSess_cal (n : Nat) (x : Sess) (s : State) : (s.setSess n x).cal = s.cal := rfl
@[simp] theorem State.setSess_nv (n : Nat) (x : Sess) (s : State) : (s.setSess n x).nv = s.nv := rfl
@[simp] theorem State.setSess_bth (n : Nat) (x : Sess) (s : State) : (s.setSess n x).bth = s.bth := rfl
@[simp] theorem State.setSess_prf (n : Nat) (x : Sess) (s : State) : (s.setSess n x).prf = s.prf := rfl
@[simp] theorem State.setSess_engaged (n : Nat) (x : Sess) (s : State) : (s.setSess n x).engaged = s.engaged := rfl
@[simp] theorem State.setSess_stopAsked (n : Nat) (x : Sess) (s : State) : (s.setSess n x).stopAsked = s.stopAsked := rfl
@[simp] theorem State.setSess_ifaces (n : Nat) (x : Sess) (s : State) : (s.setSess n x).ifaces = s.ifaces := rfl
@[simp] theorem State.setSess_authFail (n : Nat) (x : Sess) (s : State) : (s.setSess n x).authFail = s.authFail := rfl
@[simp] theorem State.setSess_lpx (n : Nat) (x : Sess) (s : State) : (s.setSess n x).lpx = s.lpx := rfl
@[simp] theorem State.setSess_packages (n : Nat) (x : Sess) (s : State) : (s.setSess n x).packages = s.packages := rfl
@[simp] theorem State.setSess_trained (n : Nat) (x : Sess) (s : State) : (s.setSess n x).trained = s.trained := rfl
@[simp] theorem State.setSess_credits (n : Nat) (x : Sess) (s : State) : (s.setSess n x).credits = s.credits := rfl
@[simp] theorem State.setSess_sliceMap (n : Nat) (x : Sess) (s : State) : (s.setSess n x).sliceMap = s.sliceMap := rfl
@[simp] theorem State.setSess_mft (n : Nat) (x : Sess) (s : State) : (s.setSess n x).mft = s.mft := rfl
@[simp] theorem State.setSess_stores (n : Nat) (x : Sess) (s : State) : (s.setSess n x).stores = s.stores := rfl
@[simp] theorem State.setSess_engines (n : Nat) (x : Sess) (s : State) : (s.setSess n x).engines = s.engines := rfl
@[simp] theorem State.setSess_descs (n : Nat) (x : Sess) (s : State) : (s.setSess n x).descs = s.descs := rfl
@[simp] theorem State.setSess_nextDesc (n : Nat) (x : Sess) (s : State) : (s.setSess n x).nextDesc = s.nextDesc := rfl
@[simp] theorem State.setSess_hbm (n : Nat) (x : Sess) (s : State) : (s.setSess n x).hbm = s.hbm := rfl
@[simp] theorem State.setSess_slices (n : Nat) (x : Sess) (s : State) : (s.setSess n x).slices = s.slices := rfl
@[simp] theorem State.setSess_lines (n : Nat) (x : Sess) (s : State) : (s.setSess n x).lines = s.lines := rfl
@[simp] theorem State.setSess_copies (n : Nat) (x : Sess) (s : State) : (s.setSess n x).copies = s.copies := rfl
@[simp] theorem State.setSess_plru (n : Nat) (x : Sess) (s : State) : (s.setSess n x).plru = s.plru := rfl
@[simp] theorem State.setSess_cohMsgs (n : Nat) (x : Sess) (s : State) : (s.setSess n x).cohMsgs = s.cohMsgs := rfl
@[simp] theorem State.setSess_mdDies (n : Nat) (x : Sess) (s : State) : (s.setSess n x).mdDies = s.mdDies := rfl
@[simp] theorem State.setSess_ports (n : Nat) (x : Sess) (s : State) : (s.setSess n x).ports = s.ports := rfl
@[simp] theorem State.setSess_marks (n : Nat) (x : Sess) (s : State) : (s.setSess n x).marks = s.marks := rfl
@[simp] theorem State.setSess_backing (n : Nat) (x : Sess) (s : State) : (s.setSess n x).backing = s.backing := rfl
@[simp] theorem State.setSess_mem (n : Nat) (x : Sess) (s : State) : (s.setSess n x).mem = s.mem := rfl

/-! ### modStore -/

@[simp] theorem State.modStore_pending (b : Nat) (f : Store → Store) (s : State) : (s.modStore b f).pending = s.pending := rfl
@[simp] theorem State.modStore_free (b : Nat) (f : Store → Store) (s : State) : (s.modStore b f).free = s.free := rfl
@[simp] theorem State.modStore_out (b : Nat) (f : Store → Store) (s : State) : (s.modStore b f).out = s.out := rfl
@[simp] theorem State.modStore_tick (b : Nat) (f : Store → Store) (s : State) : (s.modStore b f).tick = s.tick := rfl
@[simp] theorem State.modStore_failed (b : Nat) (f : Store → Store) (s : State) : (s.modStore b f).failed = s.failed := rfl
@[simp] theorem State.modStore_stopped (b : Nat) (f : Store → Store) (s : State) : (s.modStore b f).stopped = s.stopped := rfl
@[simp] theorem State.modStore_cores (b : Nat) (f : Store → Store) (s : State) : (s.modStore b f).cores = s.cores := rfl
@[simp] theorem State.modStore_clusters (b : Nat) (f : Store → Store) (s : State) : (s.modStore b f).clusters = s.clusters := rfl
@[simp] theorem State.modStore_ctxs (b : Nat) (f : Store → Store) (s : State) : (s.modStore b f).ctxs = s.ctxs := rfl
@[simp] theorem State.modStore_orders (b : Nat) (f : Store → Store) (s : State) : (s.modStore b f).orders = s.orders := rfl
@[simp] theorem State.modStore_berths (b : Nat) (f : Store → Store) (s : State) : (s.modStore b f).berths = s.berths := rfl
@[simp] theorem State.modStore_dies (b : Nat) (f : Store → Store) (s : State) : (s.modStore b f).dies = s.dies := rfl
@[simp] theorem State.modStore_mbx (b : Nat) (f : Store → Store) (s : State) : (s.modStore b f).mbx = s.mbx := rfl
@[simp] theorem State.modStore_conns (b : Nat) (f : Store → Store) (s : State) : (s.modStore b f).conns = s.conns := rfl
@[simp] theorem State.modStore_nextConn (b : Nat) (f : Store → Store) (s : State) : (s.modStore b f).nextConn = s.nextConn := rfl
@[simp] theorem State.modStore_outbox (b : Nat) (f : Store → Store) (s : State) : (s.modStore b f).outbox = s.outbox := rfl
@[simp] theorem State.modStore_sends (b : Nat) (f : Store → Store) (s : State) : (s.modStore b f).sends = s.sends := rfl
@[simp] theorem State.modStore_evtOpen (b : Nat) (f : Store → Store) (s : State) : (s.modStore b f).evtOpen = s.evtOpen := rfl
@[simp] theorem State.modStore_retired (b : Nat) (f : Store → Store) (s : State) : (s.modStore b f).retired = s.retired := rfl
@[simp] theorem State.modStore_stackGib (b : Nat) (f : Store → Store) (s : State) : (s.modStore b f).stackGib = s.stackGib := rfl
@[simp] theorem State.modStore_lpxCount (b : Nat) (f : Store → Store) (s : State) : (s.modStore b f).lpxCount = s.lpxCount := rfl
@[simp] theorem State.modStore_lpxGib (b : Nat) (f : Store → Store) (s : State) : (s.modStore b f).lpxGib = s.lpxGib := rfl
@[simp] theorem State.modStore_rst (b : Nat) (f : Store → Store) (s : State) : (s.modStore b f).rst = s.rst := rfl
@[simp] theorem State.modStore_aon (b : Nat) (f : Store → Store) (s : State) : (s.modStore b f).aon = s.aon := rfl
@[simp] theorem State.modStore_pwr (b : Nat) (f : Store → Store) (s : State) : (s.modStore b f).pwr = s.pwr := rfl
@[simp] theorem State.modStore_sec (b : Nat) (f : Store → Store) (s : State) : (s.modStore b f).sec = s.sec := rfl
@[simp] theorem State.modStore_cal (b : Nat) (f : Store → Store) (s : State) : (s.modStore b f).cal = s.cal := rfl
@[simp] theorem State.modStore_nv (b : Nat) (f : Store → Store) (s : State) : (s.modStore b f).nv = s.nv := rfl
@[simp] theorem State.modStore_bth (b : Nat) (f : Store → Store) (s : State) : (s.modStore b f).bth = s.bth := rfl
@[simp] theorem State.modStore_prf (b : Nat) (f : Store → Store) (s : State) : (s.modStore b f).prf = s.prf := rfl
@[simp] theorem State.modStore_engaged (b : Nat) (f : Store → Store) (s : State) : (s.modStore b f).engaged = s.engaged := rfl
@[simp] theorem State.modStore_stopAsked (b : Nat) (f : Store → Store) (s : State) : (s.modStore b f).stopAsked = s.stopAsked := rfl
@[simp] theorem State.modStore_ifaces (b : Nat) (f : Store → Store) (s : State) : (s.modStore b f).ifaces = s.ifaces := rfl
@[simp] theorem State.modStore_authFail (b : Nat) (f : Store → Store) (s : State) : (s.modStore b f).authFail = s.authFail := rfl
@[simp] theorem State.modStore_lpx (b : Nat) (f : Store → Store) (s : State) : (s.modStore b f).lpx = s.lpx := rfl
@[simp] theorem State.modStore_packages (b : Nat) (f : Store → Store) (s : State) : (s.modStore b f).packages = s.packages := rfl
@[simp] theorem State.modStore_trained (b : Nat) (f : Store → Store) (s : State) : (s.modStore b f).trained = s.trained := rfl
@[simp] theorem State.modStore_credits (b : Nat) (f : Store → Store) (s : State) : (s.modStore b f).credits = s.credits := rfl
@[simp] theorem State.modStore_sliceMap (b : Nat) (f : Store → Store) (s : State) : (s.modStore b f).sliceMap = s.sliceMap := rfl
@[simp] theorem State.modStore_mft (b : Nat) (f : Store → Store) (s : State) : (s.modStore b f).mft = s.mft := rfl
@[simp] theorem State.modStore_sessions (b : Nat) (f : Store → Store) (s : State) : (s.modStore b f).sessions = s.sessions := rfl
@[simp] theorem State.modStore_engines (b : Nat) (f : Store → Store) (s : State) : (s.modStore b f).engines = s.engines := rfl
@[simp] theorem State.modStore_descs (b : Nat) (f : Store → Store) (s : State) : (s.modStore b f).descs = s.descs := rfl
@[simp] theorem State.modStore_nextDesc (b : Nat) (f : Store → Store) (s : State) : (s.modStore b f).nextDesc = s.nextDesc := rfl
@[simp] theorem State.modStore_hbm (b : Nat) (f : Store → Store) (s : State) : (s.modStore b f).hbm = s.hbm := rfl
@[simp] theorem State.modStore_slices (b : Nat) (f : Store → Store) (s : State) : (s.modStore b f).slices = s.slices := rfl
@[simp] theorem State.modStore_lines (b : Nat) (f : Store → Store) (s : State) : (s.modStore b f).lines = s.lines := rfl
@[simp] theorem State.modStore_copies (b : Nat) (f : Store → Store) (s : State) : (s.modStore b f).copies = s.copies := rfl
@[simp] theorem State.modStore_plru (b : Nat) (f : Store → Store) (s : State) : (s.modStore b f).plru = s.plru := rfl
@[simp] theorem State.modStore_cohMsgs (b : Nat) (f : Store → Store) (s : State) : (s.modStore b f).cohMsgs = s.cohMsgs := rfl
@[simp] theorem State.modStore_mdDies (b : Nat) (f : Store → Store) (s : State) : (s.modStore b f).mdDies = s.mdDies := rfl
@[simp] theorem State.modStore_ports (b : Nat) (f : Store → Store) (s : State) : (s.modStore b f).ports = s.ports := rfl
@[simp] theorem State.modStore_marks (b : Nat) (f : Store → Store) (s : State) : (s.modStore b f).marks = s.marks := rfl
@[simp] theorem State.modStore_backing (b : Nat) (f : Store → Store) (s : State) : (s.modStore b f).backing = s.backing := rfl
@[simp] theorem State.modStore_mem (b : Nat) (f : Store → Store) (s : State) : (s.modStore b f).mem = s.mem := rfl

/-! ### modEngine -/

@[simp] theorem State.modEngine_pending (e : Nat) (f : SetEng → SetEng) (s : State) : (s.modEngine e f).pending = s.pending := rfl
@[simp] theorem State.modEngine_free (e : Nat) (f : SetEng → SetEng) (s : State) : (s.modEngine e f).free = s.free := rfl
@[simp] theorem State.modEngine_out (e : Nat) (f : SetEng → SetEng) (s : State) : (s.modEngine e f).out = s.out := rfl
@[simp] theorem State.modEngine_tick (e : Nat) (f : SetEng → SetEng) (s : State) : (s.modEngine e f).tick = s.tick := rfl
@[simp] theorem State.modEngine_failed (e : Nat) (f : SetEng → SetEng) (s : State) : (s.modEngine e f).failed = s.failed := rfl
@[simp] theorem State.modEngine_stopped (e : Nat) (f : SetEng → SetEng) (s : State) : (s.modEngine e f).stopped = s.stopped := rfl
@[simp] theorem State.modEngine_cores (e : Nat) (f : SetEng → SetEng) (s : State) : (s.modEngine e f).cores = s.cores := rfl
@[simp] theorem State.modEngine_clusters (e : Nat) (f : SetEng → SetEng) (s : State) : (s.modEngine e f).clusters = s.clusters := rfl
@[simp] theorem State.modEngine_ctxs (e : Nat) (f : SetEng → SetEng) (s : State) : (s.modEngine e f).ctxs = s.ctxs := rfl
@[simp] theorem State.modEngine_orders (e : Nat) (f : SetEng → SetEng) (s : State) : (s.modEngine e f).orders = s.orders := rfl
@[simp] theorem State.modEngine_berths (e : Nat) (f : SetEng → SetEng) (s : State) : (s.modEngine e f).berths = s.berths := rfl
@[simp] theorem State.modEngine_dies (e : Nat) (f : SetEng → SetEng) (s : State) : (s.modEngine e f).dies = s.dies := rfl
@[simp] theorem State.modEngine_mbx (e : Nat) (f : SetEng → SetEng) (s : State) : (s.modEngine e f).mbx = s.mbx := rfl
@[simp] theorem State.modEngine_conns (e : Nat) (f : SetEng → SetEng) (s : State) : (s.modEngine e f).conns = s.conns := rfl
@[simp] theorem State.modEngine_nextConn (e : Nat) (f : SetEng → SetEng) (s : State) : (s.modEngine e f).nextConn = s.nextConn := rfl
@[simp] theorem State.modEngine_outbox (e : Nat) (f : SetEng → SetEng) (s : State) : (s.modEngine e f).outbox = s.outbox := rfl
@[simp] theorem State.modEngine_sends (e : Nat) (f : SetEng → SetEng) (s : State) : (s.modEngine e f).sends = s.sends := rfl
@[simp] theorem State.modEngine_evtOpen (e : Nat) (f : SetEng → SetEng) (s : State) : (s.modEngine e f).evtOpen = s.evtOpen := rfl
@[simp] theorem State.modEngine_retired (e : Nat) (f : SetEng → SetEng) (s : State) : (s.modEngine e f).retired = s.retired := rfl
@[simp] theorem State.modEngine_stackGib (e : Nat) (f : SetEng → SetEng) (s : State) : (s.modEngine e f).stackGib = s.stackGib := rfl
@[simp] theorem State.modEngine_lpxCount (e : Nat) (f : SetEng → SetEng) (s : State) : (s.modEngine e f).lpxCount = s.lpxCount := rfl
@[simp] theorem State.modEngine_lpxGib (e : Nat) (f : SetEng → SetEng) (s : State) : (s.modEngine e f).lpxGib = s.lpxGib := rfl
@[simp] theorem State.modEngine_rst (e : Nat) (f : SetEng → SetEng) (s : State) : (s.modEngine e f).rst = s.rst := rfl
@[simp] theorem State.modEngine_aon (e : Nat) (f : SetEng → SetEng) (s : State) : (s.modEngine e f).aon = s.aon := rfl
@[simp] theorem State.modEngine_pwr (e : Nat) (f : SetEng → SetEng) (s : State) : (s.modEngine e f).pwr = s.pwr := rfl
@[simp] theorem State.modEngine_sec (e : Nat) (f : SetEng → SetEng) (s : State) : (s.modEngine e f).sec = s.sec := rfl
@[simp] theorem State.modEngine_cal (e : Nat) (f : SetEng → SetEng) (s : State) : (s.modEngine e f).cal = s.cal := rfl
@[simp] theorem State.modEngine_nv (e : Nat) (f : SetEng → SetEng) (s : State) : (s.modEngine e f).nv = s.nv := rfl
@[simp] theorem State.modEngine_bth (e : Nat) (f : SetEng → SetEng) (s : State) : (s.modEngine e f).bth = s.bth := rfl
@[simp] theorem State.modEngine_prf (e : Nat) (f : SetEng → SetEng) (s : State) : (s.modEngine e f).prf = s.prf := rfl
@[simp] theorem State.modEngine_engaged (e : Nat) (f : SetEng → SetEng) (s : State) : (s.modEngine e f).engaged = s.engaged := rfl
@[simp] theorem State.modEngine_stopAsked (e : Nat) (f : SetEng → SetEng) (s : State) : (s.modEngine e f).stopAsked = s.stopAsked := rfl
@[simp] theorem State.modEngine_ifaces (e : Nat) (f : SetEng → SetEng) (s : State) : (s.modEngine e f).ifaces = s.ifaces := rfl
@[simp] theorem State.modEngine_authFail (e : Nat) (f : SetEng → SetEng) (s : State) : (s.modEngine e f).authFail = s.authFail := rfl
@[simp] theorem State.modEngine_lpx (e : Nat) (f : SetEng → SetEng) (s : State) : (s.modEngine e f).lpx = s.lpx := rfl
@[simp] theorem State.modEngine_packages (e : Nat) (f : SetEng → SetEng) (s : State) : (s.modEngine e f).packages = s.packages := rfl
@[simp] theorem State.modEngine_trained (e : Nat) (f : SetEng → SetEng) (s : State) : (s.modEngine e f).trained = s.trained := rfl
@[simp] theorem State.modEngine_credits (e : Nat) (f : SetEng → SetEng) (s : State) : (s.modEngine e f).credits = s.credits := rfl
@[simp] theorem State.modEngine_sliceMap (e : Nat) (f : SetEng → SetEng) (s : State) : (s.modEngine e f).sliceMap = s.sliceMap := rfl
@[simp] theorem State.modEngine_mft (e : Nat) (f : SetEng → SetEng) (s : State) : (s.modEngine e f).mft = s.mft := rfl
@[simp] theorem State.modEngine_sessions (e : Nat) (f : SetEng → SetEng) (s : State) : (s.modEngine e f).sessions = s.sessions := rfl
@[simp] theorem State.modEngine_stores (e : Nat) (f : SetEng → SetEng) (s : State) : (s.modEngine e f).stores = s.stores := rfl
@[simp] theorem State.modEngine_descs (e : Nat) (f : SetEng → SetEng) (s : State) : (s.modEngine e f).descs = s.descs := rfl
@[simp] theorem State.modEngine_nextDesc (e : Nat) (f : SetEng → SetEng) (s : State) : (s.modEngine e f).nextDesc = s.nextDesc := rfl
@[simp] theorem State.modEngine_hbm (e : Nat) (f : SetEng → SetEng) (s : State) : (s.modEngine e f).hbm = s.hbm := rfl
@[simp] theorem State.modEngine_slices (e : Nat) (f : SetEng → SetEng) (s : State) : (s.modEngine e f).slices = s.slices := rfl
@[simp] theorem State.modEngine_lines (e : Nat) (f : SetEng → SetEng) (s : State) : (s.modEngine e f).lines = s.lines := rfl
@[simp] theorem State.modEngine_copies (e : Nat) (f : SetEng → SetEng) (s : State) : (s.modEngine e f).copies = s.copies := rfl
@[simp] theorem State.modEngine_plru (e : Nat) (f : SetEng → SetEng) (s : State) : (s.modEngine e f).plru = s.plru := rfl
@[simp] theorem State.modEngine_cohMsgs (e : Nat) (f : SetEng → SetEng) (s : State) : (s.modEngine e f).cohMsgs = s.cohMsgs := rfl
@[simp] theorem State.modEngine_mdDies (e : Nat) (f : SetEng → SetEng) (s : State) : (s.modEngine e f).mdDies = s.mdDies := rfl
@[simp] theorem State.modEngine_ports (e : Nat) (f : SetEng → SetEng) (s : State) : (s.modEngine e f).ports = s.ports := rfl
@[simp] theorem State.modEngine_marks (e : Nat) (f : SetEng → SetEng) (s : State) : (s.modEngine e f).marks = s.marks := rfl
@[simp] theorem State.modEngine_backing (e : Nat) (f : SetEng → SetEng) (s : State) : (s.modEngine e f).backing = s.backing := rfl
@[simp] theorem State.modEngine_mem (e : Nat) (f : SetEng → SetEng) (s : State) : (s.modEngine e f).mem = s.mem := rfl

/-! ### setLine -/

@[simp] theorem State.setLine_pending (l : Nat) (x : Line) (s : State) : (s.setLine l x).pending = s.pending := rfl
@[simp] theorem State.setLine_free (l : Nat) (x : Line) (s : State) : (s.setLine l x).free = s.free := rfl
@[simp] theorem State.setLine_out (l : Nat) (x : Line) (s : State) : (s.setLine l x).out = s.out := rfl
@[simp] theorem State.setLine_tick (l : Nat) (x : Line) (s : State) : (s.setLine l x).tick = s.tick := rfl
@[simp] theorem State.setLine_failed (l : Nat) (x : Line) (s : State) : (s.setLine l x).failed = s.failed := rfl
@[simp] theorem State.setLine_stopped (l : Nat) (x : Line) (s : State) : (s.setLine l x).stopped = s.stopped := rfl
@[simp] theorem State.setLine_cores (l : Nat) (x : Line) (s : State) : (s.setLine l x).cores = s.cores := rfl
@[simp] theorem State.setLine_clusters (l : Nat) (x : Line) (s : State) : (s.setLine l x).clusters = s.clusters := rfl
@[simp] theorem State.setLine_ctxs (l : Nat) (x : Line) (s : State) : (s.setLine l x).ctxs = s.ctxs := rfl
@[simp] theorem State.setLine_orders (l : Nat) (x : Line) (s : State) : (s.setLine l x).orders = s.orders := rfl
@[simp] theorem State.setLine_berths (l : Nat) (x : Line) (s : State) : (s.setLine l x).berths = s.berths := rfl
@[simp] theorem State.setLine_dies (l : Nat) (x : Line) (s : State) : (s.setLine l x).dies = s.dies := rfl
@[simp] theorem State.setLine_mbx (l : Nat) (x : Line) (s : State) : (s.setLine l x).mbx = s.mbx := rfl
@[simp] theorem State.setLine_conns (l : Nat) (x : Line) (s : State) : (s.setLine l x).conns = s.conns := rfl
@[simp] theorem State.setLine_nextConn (l : Nat) (x : Line) (s : State) : (s.setLine l x).nextConn = s.nextConn := rfl
@[simp] theorem State.setLine_outbox (l : Nat) (x : Line) (s : State) : (s.setLine l x).outbox = s.outbox := rfl
@[simp] theorem State.setLine_sends (l : Nat) (x : Line) (s : State) : (s.setLine l x).sends = s.sends := rfl
@[simp] theorem State.setLine_evtOpen (l : Nat) (x : Line) (s : State) : (s.setLine l x).evtOpen = s.evtOpen := rfl
@[simp] theorem State.setLine_retired (l : Nat) (x : Line) (s : State) : (s.setLine l x).retired = s.retired := rfl
@[simp] theorem State.setLine_stackGib (l : Nat) (x : Line) (s : State) : (s.setLine l x).stackGib = s.stackGib := rfl
@[simp] theorem State.setLine_lpxCount (l : Nat) (x : Line) (s : State) : (s.setLine l x).lpxCount = s.lpxCount := rfl
@[simp] theorem State.setLine_lpxGib (l : Nat) (x : Line) (s : State) : (s.setLine l x).lpxGib = s.lpxGib := rfl
@[simp] theorem State.setLine_rst (l : Nat) (x : Line) (s : State) : (s.setLine l x).rst = s.rst := rfl
@[simp] theorem State.setLine_aon (l : Nat) (x : Line) (s : State) : (s.setLine l x).aon = s.aon := rfl
@[simp] theorem State.setLine_pwr (l : Nat) (x : Line) (s : State) : (s.setLine l x).pwr = s.pwr := rfl
@[simp] theorem State.setLine_sec (l : Nat) (x : Line) (s : State) : (s.setLine l x).sec = s.sec := rfl
@[simp] theorem State.setLine_cal (l : Nat) (x : Line) (s : State) : (s.setLine l x).cal = s.cal := rfl
@[simp] theorem State.setLine_nv (l : Nat) (x : Line) (s : State) : (s.setLine l x).nv = s.nv := rfl
@[simp] theorem State.setLine_bth (l : Nat) (x : Line) (s : State) : (s.setLine l x).bth = s.bth := rfl
@[simp] theorem State.setLine_prf (l : Nat) (x : Line) (s : State) : (s.setLine l x).prf = s.prf := rfl
@[simp] theorem State.setLine_engaged (l : Nat) (x : Line) (s : State) : (s.setLine l x).engaged = s.engaged := rfl
@[simp] theorem State.setLine_stopAsked (l : Nat) (x : Line) (s : State) : (s.setLine l x).stopAsked = s.stopAsked := rfl
@[simp] theorem State.setLine_ifaces (l : Nat) (x : Line) (s : State) : (s.setLine l x).ifaces = s.ifaces := rfl
@[simp] theorem State.setLine_authFail (l : Nat) (x : Line) (s : State) : (s.setLine l x).authFail = s.authFail := rfl
@[simp] theorem State.setLine_lpx (l : Nat) (x : Line) (s : State) : (s.setLine l x).lpx = s.lpx := rfl
@[simp] theorem State.setLine_packages (l : Nat) (x : Line) (s : State) : (s.setLine l x).packages = s.packages := rfl
@[simp] theorem State.setLine_trained (l : Nat) (x : Line) (s : State) : (s.setLine l x).trained = s.trained := rfl
@[simp] theorem State.setLine_credits (l : Nat) (x : Line) (s : State) : (s.setLine l x).credits = s.credits := rfl
@[simp] theorem State.setLine_sliceMap (l : Nat) (x : Line) (s : State) : (s.setLine l x).sliceMap = s.sliceMap := rfl
@[simp] theorem State.setLine_mft (l : Nat) (x : Line) (s : State) : (s.setLine l x).mft = s.mft := rfl
@[simp] theorem State.setLine_sessions (l : Nat) (x : Line) (s : State) : (s.setLine l x).sessions = s.sessions := rfl
@[simp] theorem State.setLine_stores (l : Nat) (x : Line) (s : State) : (s.setLine l x).stores = s.stores := rfl
@[simp] theorem State.setLine_engines (l : Nat) (x : Line) (s : State) : (s.setLine l x).engines = s.engines := rfl
@[simp] theorem State.setLine_descs (l : Nat) (x : Line) (s : State) : (s.setLine l x).descs = s.descs := rfl
@[simp] theorem State.setLine_nextDesc (l : Nat) (x : Line) (s : State) : (s.setLine l x).nextDesc = s.nextDesc := rfl
@[simp] theorem State.setLine_hbm (l : Nat) (x : Line) (s : State) : (s.setLine l x).hbm = s.hbm := rfl
@[simp] theorem State.setLine_slices (l : Nat) (x : Line) (s : State) : (s.setLine l x).slices = s.slices := rfl
@[simp] theorem State.setLine_copies (l : Nat) (x : Line) (s : State) : (s.setLine l x).copies = s.copies := rfl
@[simp] theorem State.setLine_plru (l : Nat) (x : Line) (s : State) : (s.setLine l x).plru = s.plru := rfl
@[simp] theorem State.setLine_cohMsgs (l : Nat) (x : Line) (s : State) : (s.setLine l x).cohMsgs = s.cohMsgs := rfl
@[simp] theorem State.setLine_mdDies (l : Nat) (x : Line) (s : State) : (s.setLine l x).mdDies = s.mdDies := rfl
@[simp] theorem State.setLine_ports (l : Nat) (x : Line) (s : State) : (s.setLine l x).ports = s.ports := rfl
@[simp] theorem State.setLine_marks (l : Nat) (x : Line) (s : State) : (s.setLine l x).marks = s.marks := rfl
@[simp] theorem State.setLine_backing (l : Nat) (x : Line) (s : State) : (s.setLine l x).backing = s.backing := rfl
@[simp] theorem State.setLine_mem (l : Nat) (x : Line) (s : State) : (s.setLine l x).mem = s.mem := rfl

/-! ### modSlice -/

@[simp] theorem State.modSlice_pending (i : Nat) (f : Slice → Slice) (s : State) : (s.modSlice i f).pending = s.pending := rfl
@[simp] theorem State.modSlice_free (i : Nat) (f : Slice → Slice) (s : State) : (s.modSlice i f).free = s.free := rfl
@[simp] theorem State.modSlice_out (i : Nat) (f : Slice → Slice) (s : State) : (s.modSlice i f).out = s.out := rfl
@[simp] theorem State.modSlice_tick (i : Nat) (f : Slice → Slice) (s : State) : (s.modSlice i f).tick = s.tick := rfl
@[simp] theorem State.modSlice_failed (i : Nat) (f : Slice → Slice) (s : State) : (s.modSlice i f).failed = s.failed := rfl
@[simp] theorem State.modSlice_stopped (i : Nat) (f : Slice → Slice) (s : State) : (s.modSlice i f).stopped = s.stopped := rfl
@[simp] theorem State.modSlice_cores (i : Nat) (f : Slice → Slice) (s : State) : (s.modSlice i f).cores = s.cores := rfl
@[simp] theorem State.modSlice_clusters (i : Nat) (f : Slice → Slice) (s : State) : (s.modSlice i f).clusters = s.clusters := rfl
@[simp] theorem State.modSlice_ctxs (i : Nat) (f : Slice → Slice) (s : State) : (s.modSlice i f).ctxs = s.ctxs := rfl
@[simp] theorem State.modSlice_orders (i : Nat) (f : Slice → Slice) (s : State) : (s.modSlice i f).orders = s.orders := rfl
@[simp] theorem State.modSlice_berths (i : Nat) (f : Slice → Slice) (s : State) : (s.modSlice i f).berths = s.berths := rfl
@[simp] theorem State.modSlice_dies (i : Nat) (f : Slice → Slice) (s : State) : (s.modSlice i f).dies = s.dies := rfl
@[simp] theorem State.modSlice_mbx (i : Nat) (f : Slice → Slice) (s : State) : (s.modSlice i f).mbx = s.mbx := rfl
@[simp] theorem State.modSlice_conns (i : Nat) (f : Slice → Slice) (s : State) : (s.modSlice i f).conns = s.conns := rfl
@[simp] theorem State.modSlice_nextConn (i : Nat) (f : Slice → Slice) (s : State) : (s.modSlice i f).nextConn = s.nextConn := rfl
@[simp] theorem State.modSlice_outbox (i : Nat) (f : Slice → Slice) (s : State) : (s.modSlice i f).outbox = s.outbox := rfl
@[simp] theorem State.modSlice_sends (i : Nat) (f : Slice → Slice) (s : State) : (s.modSlice i f).sends = s.sends := rfl
@[simp] theorem State.modSlice_evtOpen (i : Nat) (f : Slice → Slice) (s : State) : (s.modSlice i f).evtOpen = s.evtOpen := rfl
@[simp] theorem State.modSlice_retired (i : Nat) (f : Slice → Slice) (s : State) : (s.modSlice i f).retired = s.retired := rfl
@[simp] theorem State.modSlice_stackGib (i : Nat) (f : Slice → Slice) (s : State) : (s.modSlice i f).stackGib = s.stackGib := rfl
@[simp] theorem State.modSlice_lpxCount (i : Nat) (f : Slice → Slice) (s : State) : (s.modSlice i f).lpxCount = s.lpxCount := rfl
@[simp] theorem State.modSlice_lpxGib (i : Nat) (f : Slice → Slice) (s : State) : (s.modSlice i f).lpxGib = s.lpxGib := rfl
@[simp] theorem State.modSlice_rst (i : Nat) (f : Slice → Slice) (s : State) : (s.modSlice i f).rst = s.rst := rfl
@[simp] theorem State.modSlice_aon (i : Nat) (f : Slice → Slice) (s : State) : (s.modSlice i f).aon = s.aon := rfl
@[simp] theorem State.modSlice_pwr (i : Nat) (f : Slice → Slice) (s : State) : (s.modSlice i f).pwr = s.pwr := rfl
@[simp] theorem State.modSlice_sec (i : Nat) (f : Slice → Slice) (s : State) : (s.modSlice i f).sec = s.sec := rfl
@[simp] theorem State.modSlice_cal (i : Nat) (f : Slice → Slice) (s : State) : (s.modSlice i f).cal = s.cal := rfl
@[simp] theorem State.modSlice_nv (i : Nat) (f : Slice → Slice) (s : State) : (s.modSlice i f).nv = s.nv := rfl
@[simp] theorem State.modSlice_bth (i : Nat) (f : Slice → Slice) (s : State) : (s.modSlice i f).bth = s.bth := rfl
@[simp] theorem State.modSlice_prf (i : Nat) (f : Slice → Slice) (s : State) : (s.modSlice i f).prf = s.prf := rfl
@[simp] theorem State.modSlice_engaged (i : Nat) (f : Slice → Slice) (s : State) : (s.modSlice i f).engaged = s.engaged := rfl
@[simp] theorem State.modSlice_stopAsked (i : Nat) (f : Slice → Slice) (s : State) : (s.modSlice i f).stopAsked = s.stopAsked := rfl
@[simp] theorem State.modSlice_ifaces (i : Nat) (f : Slice → Slice) (s : State) : (s.modSlice i f).ifaces = s.ifaces := rfl
@[simp] theorem State.modSlice_authFail (i : Nat) (f : Slice → Slice) (s : State) : (s.modSlice i f).authFail = s.authFail := rfl
@[simp] theorem State.modSlice_lpx (i : Nat) (f : Slice → Slice) (s : State) : (s.modSlice i f).lpx = s.lpx := rfl
@[simp] theorem State.modSlice_packages (i : Nat) (f : Slice → Slice) (s : State) : (s.modSlice i f).packages = s.packages := rfl
@[simp] theorem State.modSlice_trained (i : Nat) (f : Slice → Slice) (s : State) : (s.modSlice i f).trained = s.trained := rfl
@[simp] theorem State.modSlice_credits (i : Nat) (f : Slice → Slice) (s : State) : (s.modSlice i f).credits = s.credits := rfl
@[simp] theorem State.modSlice_sliceMap (i : Nat) (f : Slice → Slice) (s : State) : (s.modSlice i f).sliceMap = s.sliceMap := rfl
@[simp] theorem State.modSlice_mft (i : Nat) (f : Slice → Slice) (s : State) : (s.modSlice i f).mft = s.mft := rfl
@[simp] theorem State.modSlice_sessions (i : Nat) (f : Slice → Slice) (s : State) : (s.modSlice i f).sessions = s.sessions := rfl
@[simp] theorem State.modSlice_stores (i : Nat) (f : Slice → Slice) (s : State) : (s.modSlice i f).stores = s.stores := rfl
@[simp] theorem State.modSlice_engines (i : Nat) (f : Slice → Slice) (s : State) : (s.modSlice i f).engines = s.engines := rfl
@[simp] theorem State.modSlice_descs (i : Nat) (f : Slice → Slice) (s : State) : (s.modSlice i f).descs = s.descs := rfl
@[simp] theorem State.modSlice_nextDesc (i : Nat) (f : Slice → Slice) (s : State) : (s.modSlice i f).nextDesc = s.nextDesc := rfl
@[simp] theorem State.modSlice_hbm (i : Nat) (f : Slice → Slice) (s : State) : (s.modSlice i f).hbm = s.hbm := rfl
@[simp] theorem State.modSlice_lines (i : Nat) (f : Slice → Slice) (s : State) : (s.modSlice i f).lines = s.lines := rfl
@[simp] theorem State.modSlice_copies (i : Nat) (f : Slice → Slice) (s : State) : (s.modSlice i f).copies = s.copies := rfl
@[simp] theorem State.modSlice_plru (i : Nat) (f : Slice → Slice) (s : State) : (s.modSlice i f).plru = s.plru := rfl
@[simp] theorem State.modSlice_cohMsgs (i : Nat) (f : Slice → Slice) (s : State) : (s.modSlice i f).cohMsgs = s.cohMsgs := rfl
@[simp] theorem State.modSlice_mdDies (i : Nat) (f : Slice → Slice) (s : State) : (s.modSlice i f).mdDies = s.mdDies := rfl
@[simp] theorem State.modSlice_ports (i : Nat) (f : Slice → Slice) (s : State) : (s.modSlice i f).ports = s.ports := rfl
@[simp] theorem State.modSlice_marks (i : Nat) (f : Slice → Slice) (s : State) : (s.modSlice i f).marks = s.marks := rfl
@[simp] theorem State.modSlice_backing (i : Nat) (f : Slice → Slice) (s : State) : (s.modSlice i f).backing = s.backing := rfl
@[simp] theorem State.modSlice_mem (i : Nat) (f : Slice → Slice) (s : State) : (s.modSlice i f).mem = s.mem := rfl

/-! ### modStack -/

@[simp] theorem State.modStack_pending (k : Nat) (f : Stack → Stack) (s : State) : (s.modStack k f).pending = s.pending := rfl
@[simp] theorem State.modStack_free (k : Nat) (f : Stack → Stack) (s : State) : (s.modStack k f).free = s.free := rfl
@[simp] theorem State.modStack_out (k : Nat) (f : Stack → Stack) (s : State) : (s.modStack k f).out = s.out := rfl
@[simp] theorem State.modStack_tick (k : Nat) (f : Stack → Stack) (s : State) : (s.modStack k f).tick = s.tick := rfl
@[simp] theorem State.modStack_failed (k : Nat) (f : Stack → Stack) (s : State) : (s.modStack k f).failed = s.failed := rfl
@[simp] theorem State.modStack_stopped (k : Nat) (f : Stack → Stack) (s : State) : (s.modStack k f).stopped = s.stopped := rfl
@[simp] theorem State.modStack_cores (k : Nat) (f : Stack → Stack) (s : State) : (s.modStack k f).cores = s.cores := rfl
@[simp] theorem State.modStack_clusters (k : Nat) (f : Stack → Stack) (s : State) : (s.modStack k f).clusters = s.clusters := rfl
@[simp] theorem State.modStack_ctxs (k : Nat) (f : Stack → Stack) (s : State) : (s.modStack k f).ctxs = s.ctxs := rfl
@[simp] theorem State.modStack_orders (k : Nat) (f : Stack → Stack) (s : State) : (s.modStack k f).orders = s.orders := rfl
@[simp] theorem State.modStack_berths (k : Nat) (f : Stack → Stack) (s : State) : (s.modStack k f).berths = s.berths := rfl
@[simp] theorem State.modStack_dies (k : Nat) (f : Stack → Stack) (s : State) : (s.modStack k f).dies = s.dies := rfl
@[simp] theorem State.modStack_mbx (k : Nat) (f : Stack → Stack) (s : State) : (s.modStack k f).mbx = s.mbx := rfl
@[simp] theorem State.modStack_conns (k : Nat) (f : Stack → Stack) (s : State) : (s.modStack k f).conns = s.conns := rfl
@[simp] theorem State.modStack_nextConn (k : Nat) (f : Stack → Stack) (s : State) : (s.modStack k f).nextConn = s.nextConn := rfl
@[simp] theorem State.modStack_outbox (k : Nat) (f : Stack → Stack) (s : State) : (s.modStack k f).outbox = s.outbox := rfl
@[simp] theorem State.modStack_sends (k : Nat) (f : Stack → Stack) (s : State) : (s.modStack k f).sends = s.sends := rfl
@[simp] theorem State.modStack_evtOpen (k : Nat) (f : Stack → Stack) (s : State) : (s.modStack k f).evtOpen = s.evtOpen := rfl
@[simp] theorem State.modStack_retired (k : Nat) (f : Stack → Stack) (s : State) : (s.modStack k f).retired = s.retired := rfl
@[simp] theorem State.modStack_stackGib (k : Nat) (f : Stack → Stack) (s : State) : (s.modStack k f).stackGib = s.stackGib := rfl
@[simp] theorem State.modStack_lpxCount (k : Nat) (f : Stack → Stack) (s : State) : (s.modStack k f).lpxCount = s.lpxCount := rfl
@[simp] theorem State.modStack_lpxGib (k : Nat) (f : Stack → Stack) (s : State) : (s.modStack k f).lpxGib = s.lpxGib := rfl
@[simp] theorem State.modStack_rst (k : Nat) (f : Stack → Stack) (s : State) : (s.modStack k f).rst = s.rst := rfl
@[simp] theorem State.modStack_aon (k : Nat) (f : Stack → Stack) (s : State) : (s.modStack k f).aon = s.aon := rfl
@[simp] theorem State.modStack_pwr (k : Nat) (f : Stack → Stack) (s : State) : (s.modStack k f).pwr = s.pwr := rfl
@[simp] theorem State.modStack_sec (k : Nat) (f : Stack → Stack) (s : State) : (s.modStack k f).sec = s.sec := rfl
@[simp] theorem State.modStack_cal (k : Nat) (f : Stack → Stack) (s : State) : (s.modStack k f).cal = s.cal := rfl
@[simp] theorem State.modStack_nv (k : Nat) (f : Stack → Stack) (s : State) : (s.modStack k f).nv = s.nv := rfl
@[simp] theorem State.modStack_bth (k : Nat) (f : Stack → Stack) (s : State) : (s.modStack k f).bth = s.bth := rfl
@[simp] theorem State.modStack_prf (k : Nat) (f : Stack → Stack) (s : State) : (s.modStack k f).prf = s.prf := rfl
@[simp] theorem State.modStack_engaged (k : Nat) (f : Stack → Stack) (s : State) : (s.modStack k f).engaged = s.engaged := rfl
@[simp] theorem State.modStack_stopAsked (k : Nat) (f : Stack → Stack) (s : State) : (s.modStack k f).stopAsked = s.stopAsked := rfl
@[simp] theorem State.modStack_ifaces (k : Nat) (f : Stack → Stack) (s : State) : (s.modStack k f).ifaces = s.ifaces := rfl
@[simp] theorem State.modStack_authFail (k : Nat) (f : Stack → Stack) (s : State) : (s.modStack k f).authFail = s.authFail := rfl
@[simp] theorem State.modStack_lpx (k : Nat) (f : Stack → Stack) (s : State) : (s.modStack k f).lpx = s.lpx := rfl
@[simp] theorem State.modStack_packages (k : Nat) (f : Stack → Stack) (s : State) : (s.modStack k f).packages = s.packages := rfl
@[simp] theorem State.modStack_trained (k : Nat) (f : Stack → Stack) (s : State) : (s.modStack k f).trained = s.trained := rfl
@[simp] theorem State.modStack_credits (k : Nat) (f : Stack → Stack) (s : State) : (s.modStack k f).credits = s.credits := rfl
@[simp] theorem State.modStack_sliceMap (k : Nat) (f : Stack → Stack) (s : State) : (s.modStack k f).sliceMap = s.sliceMap := rfl
@[simp] theorem State.modStack_mft (k : Nat) (f : Stack → Stack) (s : State) : (s.modStack k f).mft = s.mft := rfl
@[simp] theorem State.modStack_sessions (k : Nat) (f : Stack → Stack) (s : State) : (s.modStack k f).sessions = s.sessions := rfl
@[simp] theorem State.modStack_stores (k : Nat) (f : Stack → Stack) (s : State) : (s.modStack k f).stores = s.stores := rfl
@[simp] theorem State.modStack_engines (k : Nat) (f : Stack → Stack) (s : State) : (s.modStack k f).engines = s.engines := rfl
@[simp] theorem State.modStack_descs (k : Nat) (f : Stack → Stack) (s : State) : (s.modStack k f).descs = s.descs := rfl
@[simp] theorem State.modStack_nextDesc (k : Nat) (f : Stack → Stack) (s : State) : (s.modStack k f).nextDesc = s.nextDesc := rfl
@[simp] theorem State.modStack_slices (k : Nat) (f : Stack → Stack) (s : State) : (s.modStack k f).slices = s.slices := rfl
@[simp] theorem State.modStack_lines (k : Nat) (f : Stack → Stack) (s : State) : (s.modStack k f).lines = s.lines := rfl
@[simp] theorem State.modStack_copies (k : Nat) (f : Stack → Stack) (s : State) : (s.modStack k f).copies = s.copies := rfl
@[simp] theorem State.modStack_plru (k : Nat) (f : Stack → Stack) (s : State) : (s.modStack k f).plru = s.plru := rfl
@[simp] theorem State.modStack_cohMsgs (k : Nat) (f : Stack → Stack) (s : State) : (s.modStack k f).cohMsgs = s.cohMsgs := rfl
@[simp] theorem State.modStack_mdDies (k : Nat) (f : Stack → Stack) (s : State) : (s.modStack k f).mdDies = s.mdDies := rfl
@[simp] theorem State.modStack_ports (k : Nat) (f : Stack → Stack) (s : State) : (s.modStack k f).ports = s.ports := rfl
@[simp] theorem State.modStack_marks (k : Nat) (f : Stack → Stack) (s : State) : (s.modStack k f).marks = s.marks := rfl
@[simp] theorem State.modStack_backing (k : Nat) (f : Stack → Stack) (s : State) : (s.modStack k f).backing = s.backing := rfl
@[simp] theorem State.modStack_mem (k : Nat) (f : Stack → Stack) (s : State) : (s.modStack k f).mem = s.mem := rfl

/-! ### modMd -/

@[simp] theorem State.modMd_pending (i : Nat) (f : MdDie → MdDie) (s : State) : (s.modMd i f).pending = s.pending := rfl
@[simp] theorem State.modMd_free (i : Nat) (f : MdDie → MdDie) (s : State) : (s.modMd i f).free = s.free := rfl
@[simp] theorem State.modMd_out (i : Nat) (f : MdDie → MdDie) (s : State) : (s.modMd i f).out = s.out := rfl
@[simp] theorem State.modMd_tick (i : Nat) (f : MdDie → MdDie) (s : State) : (s.modMd i f).tick = s.tick := rfl
@[simp] theorem State.modMd_failed (i : Nat) (f : MdDie → MdDie) (s : State) : (s.modMd i f).failed = s.failed := rfl
@[simp] theorem State.modMd_stopped (i : Nat) (f : MdDie → MdDie) (s : State) : (s.modMd i f).stopped = s.stopped := rfl
@[simp] theorem State.modMd_cores (i : Nat) (f : MdDie → MdDie) (s : State) : (s.modMd i f).cores = s.cores := rfl
@[simp] theorem State.modMd_clusters (i : Nat) (f : MdDie → MdDie) (s : State) : (s.modMd i f).clusters = s.clusters := rfl
@[simp] theorem State.modMd_ctxs (i : Nat) (f : MdDie → MdDie) (s : State) : (s.modMd i f).ctxs = s.ctxs := rfl
@[simp] theorem State.modMd_orders (i : Nat) (f : MdDie → MdDie) (s : State) : (s.modMd i f).orders = s.orders := rfl
@[simp] theorem State.modMd_berths (i : Nat) (f : MdDie → MdDie) (s : State) : (s.modMd i f).berths = s.berths := rfl
@[simp] theorem State.modMd_dies (i : Nat) (f : MdDie → MdDie) (s : State) : (s.modMd i f).dies = s.dies := rfl
@[simp] theorem State.modMd_mbx (i : Nat) (f : MdDie → MdDie) (s : State) : (s.modMd i f).mbx = s.mbx := rfl
@[simp] theorem State.modMd_conns (i : Nat) (f : MdDie → MdDie) (s : State) : (s.modMd i f).conns = s.conns := rfl
@[simp] theorem State.modMd_nextConn (i : Nat) (f : MdDie → MdDie) (s : State) : (s.modMd i f).nextConn = s.nextConn := rfl
@[simp] theorem State.modMd_outbox (i : Nat) (f : MdDie → MdDie) (s : State) : (s.modMd i f).outbox = s.outbox := rfl
@[simp] theorem State.modMd_sends (i : Nat) (f : MdDie → MdDie) (s : State) : (s.modMd i f).sends = s.sends := rfl
@[simp] theorem State.modMd_evtOpen (i : Nat) (f : MdDie → MdDie) (s : State) : (s.modMd i f).evtOpen = s.evtOpen := rfl
@[simp] theorem State.modMd_retired (i : Nat) (f : MdDie → MdDie) (s : State) : (s.modMd i f).retired = s.retired := rfl
@[simp] theorem State.modMd_stackGib (i : Nat) (f : MdDie → MdDie) (s : State) : (s.modMd i f).stackGib = s.stackGib := rfl
@[simp] theorem State.modMd_lpxCount (i : Nat) (f : MdDie → MdDie) (s : State) : (s.modMd i f).lpxCount = s.lpxCount := rfl
@[simp] theorem State.modMd_lpxGib (i : Nat) (f : MdDie → MdDie) (s : State) : (s.modMd i f).lpxGib = s.lpxGib := rfl
@[simp] theorem State.modMd_rst (i : Nat) (f : MdDie → MdDie) (s : State) : (s.modMd i f).rst = s.rst := rfl
@[simp] theorem State.modMd_aon (i : Nat) (f : MdDie → MdDie) (s : State) : (s.modMd i f).aon = s.aon := rfl
@[simp] theorem State.modMd_pwr (i : Nat) (f : MdDie → MdDie) (s : State) : (s.modMd i f).pwr = s.pwr := rfl
@[simp] theorem State.modMd_sec (i : Nat) (f : MdDie → MdDie) (s : State) : (s.modMd i f).sec = s.sec := rfl
@[simp] theorem State.modMd_cal (i : Nat) (f : MdDie → MdDie) (s : State) : (s.modMd i f).cal = s.cal := rfl
@[simp] theorem State.modMd_nv (i : Nat) (f : MdDie → MdDie) (s : State) : (s.modMd i f).nv = s.nv := rfl
@[simp] theorem State.modMd_bth (i : Nat) (f : MdDie → MdDie) (s : State) : (s.modMd i f).bth = s.bth := rfl
@[simp] theorem State.modMd_prf (i : Nat) (f : MdDie → MdDie) (s : State) : (s.modMd i f).prf = s.prf := rfl
@[simp] theorem State.modMd_engaged (i : Nat) (f : MdDie → MdDie) (s : State) : (s.modMd i f).engaged = s.engaged := rfl
@[simp] theorem State.modMd_stopAsked (i : Nat) (f : MdDie → MdDie) (s : State) : (s.modMd i f).stopAsked = s.stopAsked := rfl
@[simp] theorem State.modMd_ifaces (i : Nat) (f : MdDie → MdDie) (s : State) : (s.modMd i f).ifaces = s.ifaces := rfl
@[simp] theorem State.modMd_authFail (i : Nat) (f : MdDie → MdDie) (s : State) : (s.modMd i f).authFail = s.authFail := rfl
@[simp] theorem State.modMd_lpx (i : Nat) (f : MdDie → MdDie) (s : State) : (s.modMd i f).lpx = s.lpx := rfl
@[simp] theorem State.modMd_packages (i : Nat) (f : MdDie → MdDie) (s : State) : (s.modMd i f).packages = s.packages := rfl
@[simp] theorem State.modMd_trained (i : Nat) (f : MdDie → MdDie) (s : State) : (s.modMd i f).trained = s.trained := rfl
@[simp] theorem State.modMd_credits (i : Nat) (f : MdDie → MdDie) (s : State) : (s.modMd i f).credits = s.credits := rfl
@[simp] theorem State.modMd_sliceMap (i : Nat) (f : MdDie → MdDie) (s : State) : (s.modMd i f).sliceMap = s.sliceMap := rfl
@[simp] theorem State.modMd_mft (i : Nat) (f : MdDie → MdDie) (s : State) : (s.modMd i f).mft = s.mft := rfl
@[simp] theorem State.modMd_sessions (i : Nat) (f : MdDie → MdDie) (s : State) : (s.modMd i f).sessions = s.sessions := rfl
@[simp] theorem State.modMd_stores (i : Nat) (f : MdDie → MdDie) (s : State) : (s.modMd i f).stores = s.stores := rfl
@[simp] theorem State.modMd_engines (i : Nat) (f : MdDie → MdDie) (s : State) : (s.modMd i f).engines = s.engines := rfl
@[simp] theorem State.modMd_descs (i : Nat) (f : MdDie → MdDie) (s : State) : (s.modMd i f).descs = s.descs := rfl
@[simp] theorem State.modMd_nextDesc (i : Nat) (f : MdDie → MdDie) (s : State) : (s.modMd i f).nextDesc = s.nextDesc := rfl
@[simp] theorem State.modMd_hbm (i : Nat) (f : MdDie → MdDie) (s : State) : (s.modMd i f).hbm = s.hbm := rfl
@[simp] theorem State.modMd_slices (i : Nat) (f : MdDie → MdDie) (s : State) : (s.modMd i f).slices = s.slices := rfl
@[simp] theorem State.modMd_lines (i : Nat) (f : MdDie → MdDie) (s : State) : (s.modMd i f).lines = s.lines := rfl
@[simp] theorem State.modMd_copies (i : Nat) (f : MdDie → MdDie) (s : State) : (s.modMd i f).copies = s.copies := rfl
@[simp] theorem State.modMd_plru (i : Nat) (f : MdDie → MdDie) (s : State) : (s.modMd i f).plru = s.plru := rfl
@[simp] theorem State.modMd_cohMsgs (i : Nat) (f : MdDie → MdDie) (s : State) : (s.modMd i f).cohMsgs = s.cohMsgs := rfl
@[simp] theorem State.modMd_ports (i : Nat) (f : MdDie → MdDie) (s : State) : (s.modMd i f).ports = s.ports := rfl
@[simp] theorem State.modMd_marks (i : Nat) (f : MdDie → MdDie) (s : State) : (s.modMd i f).marks = s.marks := rfl
@[simp] theorem State.modMd_backing (i : Nat) (f : MdDie → MdDie) (s : State) : (s.modMd i f).backing = s.backing := rfl
@[simp] theorem State.modMd_mem (i : Nat) (f : MdDie → MdDie) (s : State) : (s.modMd i f).mem = s.mem := rfl

/-! ### modLpx -/

@[simp] theorem State.modLpx_pending (x : Nat) (f : Lpx → Lpx) (s : State) : (s.modLpx x f).pending = s.pending := rfl
@[simp] theorem State.modLpx_free (x : Nat) (f : Lpx → Lpx) (s : State) : (s.modLpx x f).free = s.free := rfl
@[simp] theorem State.modLpx_out (x : Nat) (f : Lpx → Lpx) (s : State) : (s.modLpx x f).out = s.out := rfl
@[simp] theorem State.modLpx_tick (x : Nat) (f : Lpx → Lpx) (s : State) : (s.modLpx x f).tick = s.tick := rfl
@[simp] theorem State.modLpx_failed (x : Nat) (f : Lpx → Lpx) (s : State) : (s.modLpx x f).failed = s.failed := rfl
@[simp] theorem State.modLpx_stopped (x : Nat) (f : Lpx → Lpx) (s : State) : (s.modLpx x f).stopped = s.stopped := rfl
@[simp] theorem State.modLpx_cores (x : Nat) (f : Lpx → Lpx) (s : State) : (s.modLpx x f).cores = s.cores := rfl
@[simp] theorem State.modLpx_clusters (x : Nat) (f : Lpx → Lpx) (s : State) : (s.modLpx x f).clusters = s.clusters := rfl
@[simp] theorem State.modLpx_ctxs (x : Nat) (f : Lpx → Lpx) (s : State) : (s.modLpx x f).ctxs = s.ctxs := rfl
@[simp] theorem State.modLpx_orders (x : Nat) (f : Lpx → Lpx) (s : State) : (s.modLpx x f).orders = s.orders := rfl
@[simp] theorem State.modLpx_berths (x : Nat) (f : Lpx → Lpx) (s : State) : (s.modLpx x f).berths = s.berths := rfl
@[simp] theorem State.modLpx_dies (x : Nat) (f : Lpx → Lpx) (s : State) : (s.modLpx x f).dies = s.dies := rfl
@[simp] theorem State.modLpx_mbx (x : Nat) (f : Lpx → Lpx) (s : State) : (s.modLpx x f).mbx = s.mbx := rfl
@[simp] theorem State.modLpx_conns (x : Nat) (f : Lpx → Lpx) (s : State) : (s.modLpx x f).conns = s.conns := rfl
@[simp] theorem State.modLpx_nextConn (x : Nat) (f : Lpx → Lpx) (s : State) : (s.modLpx x f).nextConn = s.nextConn := rfl
@[simp] theorem State.modLpx_outbox (x : Nat) (f : Lpx → Lpx) (s : State) : (s.modLpx x f).outbox = s.outbox := rfl
@[simp] theorem State.modLpx_sends (x : Nat) (f : Lpx → Lpx) (s : State) : (s.modLpx x f).sends = s.sends := rfl
@[simp] theorem State.modLpx_evtOpen (x : Nat) (f : Lpx → Lpx) (s : State) : (s.modLpx x f).evtOpen = s.evtOpen := rfl
@[simp] theorem State.modLpx_retired (x : Nat) (f : Lpx → Lpx) (s : State) : (s.modLpx x f).retired = s.retired := rfl
@[simp] theorem State.modLpx_stackGib (x : Nat) (f : Lpx → Lpx) (s : State) : (s.modLpx x f).stackGib = s.stackGib := rfl
@[simp] theorem State.modLpx_lpxCount (x : Nat) (f : Lpx → Lpx) (s : State) : (s.modLpx x f).lpxCount = s.lpxCount := rfl
@[simp] theorem State.modLpx_lpxGib (x : Nat) (f : Lpx → Lpx) (s : State) : (s.modLpx x f).lpxGib = s.lpxGib := rfl
@[simp] theorem State.modLpx_rst (x : Nat) (f : Lpx → Lpx) (s : State) : (s.modLpx x f).rst = s.rst := rfl
@[simp] theorem State.modLpx_aon (x : Nat) (f : Lpx → Lpx) (s : State) : (s.modLpx x f).aon = s.aon := rfl
@[simp] theorem State.modLpx_pwr (x : Nat) (f : Lpx → Lpx) (s : State) : (s.modLpx x f).pwr = s.pwr := rfl
@[simp] theorem State.modLpx_sec (x : Nat) (f : Lpx → Lpx) (s : State) : (s.modLpx x f).sec = s.sec := rfl
@[simp] theorem State.modLpx_cal (x : Nat) (f : Lpx → Lpx) (s : State) : (s.modLpx x f).cal = s.cal := rfl
@[simp] theorem State.modLpx_nv (x : Nat) (f : Lpx → Lpx) (s : State) : (s.modLpx x f).nv = s.nv := rfl
@[simp] theorem State.modLpx_bth (x : Nat) (f : Lpx → Lpx) (s : State) : (s.modLpx x f).bth = s.bth := rfl
@[simp] theorem State.modLpx_prf (x : Nat) (f : Lpx → Lpx) (s : State) : (s.modLpx x f).prf = s.prf := rfl
@[simp] theorem State.modLpx_engaged (x : Nat) (f : Lpx → Lpx) (s : State) : (s.modLpx x f).engaged = s.engaged := rfl
@[simp] theorem State.modLpx_stopAsked (x : Nat) (f : Lpx → Lpx) (s : State) : (s.modLpx x f).stopAsked = s.stopAsked := rfl
@[simp] theorem State.modLpx_ifaces (x : Nat) (f : Lpx → Lpx) (s : State) : (s.modLpx x f).ifaces = s.ifaces := rfl
@[simp] theorem State.modLpx_authFail (x : Nat) (f : Lpx → Lpx) (s : State) : (s.modLpx x f).authFail = s.authFail := rfl
@[simp] theorem State.modLpx_packages (x : Nat) (f : Lpx → Lpx) (s : State) : (s.modLpx x f).packages = s.packages := rfl
@[simp] theorem State.modLpx_trained (x : Nat) (f : Lpx → Lpx) (s : State) : (s.modLpx x f).trained = s.trained := rfl
@[simp] theorem State.modLpx_credits (x : Nat) (f : Lpx → Lpx) (s : State) : (s.modLpx x f).credits = s.credits := rfl
@[simp] theorem State.modLpx_sliceMap (x : Nat) (f : Lpx → Lpx) (s : State) : (s.modLpx x f).sliceMap = s.sliceMap := rfl
@[simp] theorem State.modLpx_mft (x : Nat) (f : Lpx → Lpx) (s : State) : (s.modLpx x f).mft = s.mft := rfl
@[simp] theorem State.modLpx_sessions (x : Nat) (f : Lpx → Lpx) (s : State) : (s.modLpx x f).sessions = s.sessions := rfl
@[simp] theorem State.modLpx_stores (x : Nat) (f : Lpx → Lpx) (s : State) : (s.modLpx x f).stores = s.stores := rfl
@[simp] theorem State.modLpx_engines (x : Nat) (f : Lpx → Lpx) (s : State) : (s.modLpx x f).engines = s.engines := rfl
@[simp] theorem State.modLpx_descs (x : Nat) (f : Lpx → Lpx) (s : State) : (s.modLpx x f).descs = s.descs := rfl
@[simp] theorem State.modLpx_nextDesc (x : Nat) (f : Lpx → Lpx) (s : State) : (s.modLpx x f).nextDesc = s.nextDesc := rfl
@[simp] theorem State.modLpx_hbm (x : Nat) (f : Lpx → Lpx) (s : State) : (s.modLpx x f).hbm = s.hbm := rfl
@[simp] theorem State.modLpx_slices (x : Nat) (f : Lpx → Lpx) (s : State) : (s.modLpx x f).slices = s.slices := rfl
@[simp] theorem State.modLpx_lines (x : Nat) (f : Lpx → Lpx) (s : State) : (s.modLpx x f).lines = s.lines := rfl
@[simp] theorem State.modLpx_copies (x : Nat) (f : Lpx → Lpx) (s : State) : (s.modLpx x f).copies = s.copies := rfl
@[simp] theorem State.modLpx_plru (x : Nat) (f : Lpx → Lpx) (s : State) : (s.modLpx x f).plru = s.plru := rfl
@[simp] theorem State.modLpx_cohMsgs (x : Nat) (f : Lpx → Lpx) (s : State) : (s.modLpx x f).cohMsgs = s.cohMsgs := rfl
@[simp] theorem State.modLpx_mdDies (x : Nat) (f : Lpx → Lpx) (s : State) : (s.modLpx x f).mdDies = s.mdDies := rfl
@[simp] theorem State.modLpx_ports (x : Nat) (f : Lpx → Lpx) (s : State) : (s.modLpx x f).ports = s.ports := rfl
@[simp] theorem State.modLpx_marks (x : Nat) (f : Lpx → Lpx) (s : State) : (s.modLpx x f).marks = s.marks := rfl
@[simp] theorem State.modLpx_backing (x : Nat) (f : Lpx → Lpx) (s : State) : (s.modLpx x f).backing = s.backing := rfl
@[simp] theorem State.modLpx_mem (x : Nat) (f : Lpx → Lpx) (s : State) : (s.modLpx x f).mem = s.mem := rfl

/-! ### say -/

@[simp] theorem State.say_pending (o : Out) (s : State) : (s.say o).pending = s.pending := rfl
@[simp] theorem State.say_free (o : Out) (s : State) : (s.say o).free = s.free := rfl
@[simp] theorem State.say_tick (o : Out) (s : State) : (s.say o).tick = s.tick := rfl
@[simp] theorem State.say_failed (o : Out) (s : State) : (s.say o).failed = s.failed := rfl
@[simp] theorem State.say_stopped (o : Out) (s : State) : (s.say o).stopped = s.stopped := rfl
@[simp] theorem State.say_cores (o : Out) (s : State) : (s.say o).cores = s.cores := rfl
@[simp] theorem State.say_clusters (o : Out) (s : State) : (s.say o).clusters = s.clusters := rfl
@[simp] theorem State.say_ctxs (o : Out) (s : State) : (s.say o).ctxs = s.ctxs := rfl
@[simp] theorem State.say_orders (o : Out) (s : State) : (s.say o).orders = s.orders := rfl
@[simp] theorem State.say_berths (o : Out) (s : State) : (s.say o).berths = s.berths := rfl
@[simp] theorem State.say_dies (o : Out) (s : State) : (s.say o).dies = s.dies := rfl
@[simp] theorem State.say_mbx (o : Out) (s : State) : (s.say o).mbx = s.mbx := rfl
@[simp] theorem State.say_conns (o : Out) (s : State) : (s.say o).conns = s.conns := rfl
@[simp] theorem State.say_nextConn (o : Out) (s : State) : (s.say o).nextConn = s.nextConn := rfl
@[simp] theorem State.say_outbox (o : Out) (s : State) : (s.say o).outbox = s.outbox := rfl
@[simp] theorem State.say_sends (o : Out) (s : State) : (s.say o).sends = s.sends := rfl
@[simp] theorem State.say_evtOpen (o : Out) (s : State) : (s.say o).evtOpen = s.evtOpen := rfl
@[simp] theorem State.say_retired (o : Out) (s : State) : (s.say o).retired = s.retired := rfl
@[simp] theorem State.say_stackGib (o : Out) (s : State) : (s.say o).stackGib = s.stackGib := rfl
@[simp] theorem State.say_lpxCount (o : Out) (s : State) : (s.say o).lpxCount = s.lpxCount := rfl
@[simp] theorem State.say_lpxGib (o : Out) (s : State) : (s.say o).lpxGib = s.lpxGib := rfl
@[simp] theorem State.say_rst (o : Out) (s : State) : (s.say o).rst = s.rst := rfl
@[simp] theorem State.say_aon (o : Out) (s : State) : (s.say o).aon = s.aon := rfl
@[simp] theorem State.say_pwr (o : Out) (s : State) : (s.say o).pwr = s.pwr := rfl
@[simp] theorem State.say_sec (o : Out) (s : State) : (s.say o).sec = s.sec := rfl
@[simp] theorem State.say_cal (o : Out) (s : State) : (s.say o).cal = s.cal := rfl
@[simp] theorem State.say_nv (o : Out) (s : State) : (s.say o).nv = s.nv := rfl
@[simp] theorem State.say_bth (o : Out) (s : State) : (s.say o).bth = s.bth := rfl
@[simp] theorem State.say_prf (o : Out) (s : State) : (s.say o).prf = s.prf := rfl
@[simp] theorem State.say_engaged (o : Out) (s : State) : (s.say o).engaged = s.engaged := rfl
@[simp] theorem State.say_stopAsked (o : Out) (s : State) : (s.say o).stopAsked = s.stopAsked := rfl
@[simp] theorem State.say_ifaces (o : Out) (s : State) : (s.say o).ifaces = s.ifaces := rfl
@[simp] theorem State.say_authFail (o : Out) (s : State) : (s.say o).authFail = s.authFail := rfl
@[simp] theorem State.say_lpx (o : Out) (s : State) : (s.say o).lpx = s.lpx := rfl
@[simp] theorem State.say_packages (o : Out) (s : State) : (s.say o).packages = s.packages := rfl
@[simp] theorem State.say_trained (o : Out) (s : State) : (s.say o).trained = s.trained := rfl
@[simp] theorem State.say_credits (o : Out) (s : State) : (s.say o).credits = s.credits := rfl
@[simp] theorem State.say_sliceMap (o : Out) (s : State) : (s.say o).sliceMap = s.sliceMap := rfl
@[simp] theorem State.say_mft (o : Out) (s : State) : (s.say o).mft = s.mft := rfl
@[simp] theorem State.say_sessions (o : Out) (s : State) : (s.say o).sessions = s.sessions := rfl
@[simp] theorem State.say_stores (o : Out) (s : State) : (s.say o).stores = s.stores := rfl
@[simp] theorem State.say_engines (o : Out) (s : State) : (s.say o).engines = s.engines := rfl
@[simp] theorem State.say_descs (o : Out) (s : State) : (s.say o).descs = s.descs := rfl
@[simp] theorem State.say_nextDesc (o : Out) (s : State) : (s.say o).nextDesc = s.nextDesc := rfl
@[simp] theorem State.say_hbm (o : Out) (s : State) : (s.say o).hbm = s.hbm := rfl
@[simp] theorem State.say_slices (o : Out) (s : State) : (s.say o).slices = s.slices := rfl
@[simp] theorem State.say_lines (o : Out) (s : State) : (s.say o).lines = s.lines := rfl
@[simp] theorem State.say_copies (o : Out) (s : State) : (s.say o).copies = s.copies := rfl
@[simp] theorem State.say_plru (o : Out) (s : State) : (s.say o).plru = s.plru := rfl
@[simp] theorem State.say_cohMsgs (o : Out) (s : State) : (s.say o).cohMsgs = s.cohMsgs := rfl
@[simp] theorem State.say_mdDies (o : Out) (s : State) : (s.say o).mdDies = s.mdDies := rfl
@[simp] theorem State.say_ports (o : Out) (s : State) : (s.say o).ports = s.ports := rfl
@[simp] theorem State.say_marks (o : Out) (s : State) : (s.say o).marks = s.marks := rfl
@[simp] theorem State.say_backing (o : Out) (s : State) : (s.say o).backing = s.backing := rfl
@[simp] theorem State.say_mem (o : Out) (s : State) : (s.say o).mem = s.mem := rfl

/-! ### poke -/

@[simp] theorem State.poke_pending (a : Nat) (v : Byte) (s : State) : (s.poke a v).pending = s.pending := rfl
@[simp] theorem State.poke_free (a : Nat) (v : Byte) (s : State) : (s.poke a v).free = s.free := rfl
@[simp] theorem State.poke_out (a : Nat) (v : Byte) (s : State) : (s.poke a v).out = s.out := rfl
@[simp] theorem State.poke_tick (a : Nat) (v : Byte) (s : State) : (s.poke a v).tick = s.tick := rfl
@[simp] theorem State.poke_failed (a : Nat) (v : Byte) (s : State) : (s.poke a v).failed = s.failed := rfl
@[simp] theorem State.poke_stopped (a : Nat) (v : Byte) (s : State) : (s.poke a v).stopped = s.stopped := rfl
@[simp] theorem State.poke_cores (a : Nat) (v : Byte) (s : State) : (s.poke a v).cores = s.cores := rfl
@[simp] theorem State.poke_clusters (a : Nat) (v : Byte) (s : State) : (s.poke a v).clusters = s.clusters := rfl
@[simp] theorem State.poke_ctxs (a : Nat) (v : Byte) (s : State) : (s.poke a v).ctxs = s.ctxs := rfl
@[simp] theorem State.poke_orders (a : Nat) (v : Byte) (s : State) : (s.poke a v).orders = s.orders := rfl
@[simp] theorem State.poke_berths (a : Nat) (v : Byte) (s : State) : (s.poke a v).berths = s.berths := rfl
@[simp] theorem State.poke_dies (a : Nat) (v : Byte) (s : State) : (s.poke a v).dies = s.dies := rfl
@[simp] theorem State.poke_mbx (a : Nat) (v : Byte) (s : State) : (s.poke a v).mbx = s.mbx := rfl
@[simp] theorem State.poke_conns (a : Nat) (v : Byte) (s : State) : (s.poke a v).conns = s.conns := rfl
@[simp] theorem State.poke_nextConn (a : Nat) (v : Byte) (s : State) : (s.poke a v).nextConn = s.nextConn := rfl
@[simp] theorem State.poke_outbox (a : Nat) (v : Byte) (s : State) : (s.poke a v).outbox = s.outbox := rfl
@[simp] theorem State.poke_sends (a : Nat) (v : Byte) (s : State) : (s.poke a v).sends = s.sends := rfl
@[simp] theorem State.poke_evtOpen (a : Nat) (v : Byte) (s : State) : (s.poke a v).evtOpen = s.evtOpen := rfl
@[simp] theorem State.poke_retired (a : Nat) (v : Byte) (s : State) : (s.poke a v).retired = s.retired := rfl
@[simp] theorem State.poke_stackGib (a : Nat) (v : Byte) (s : State) : (s.poke a v).stackGib = s.stackGib := rfl
@[simp] theorem State.poke_lpxCount (a : Nat) (v : Byte) (s : State) : (s.poke a v).lpxCount = s.lpxCount := rfl
@[simp] theorem State.poke_lpxGib (a : Nat) (v : Byte) (s : State) : (s.poke a v).lpxGib = s.lpxGib := rfl
@[simp] theorem State.poke_rst (a : Nat) (v : Byte) (s : State) : (s.poke a v).rst = s.rst := rfl
@[simp] theorem State.poke_aon (a : Nat) (v : Byte) (s : State) : (s.poke a v).aon = s.aon := rfl
@[simp] theorem State.poke_pwr (a : Nat) (v : Byte) (s : State) : (s.poke a v).pwr = s.pwr := rfl
@[simp] theorem State.poke_sec (a : Nat) (v : Byte) (s : State) : (s.poke a v).sec = s.sec := rfl
@[simp] theorem State.poke_cal (a : Nat) (v : Byte) (s : State) : (s.poke a v).cal = s.cal := rfl
@[simp] theorem State.poke_nv (a : Nat) (v : Byte) (s : State) : (s.poke a v).nv = s.nv := rfl
@[simp] theorem State.poke_bth (a : Nat) (v : Byte) (s : State) : (s.poke a v).bth = s.bth := rfl
@[simp] theorem State.poke_prf (a : Nat) (v : Byte) (s : State) : (s.poke a v).prf = s.prf := rfl
@[simp] theorem State.poke_engaged (a : Nat) (v : Byte) (s : State) : (s.poke a v).engaged = s.engaged := rfl
@[simp] theorem State.poke_stopAsked (a : Nat) (v : Byte) (s : State) : (s.poke a v).stopAsked = s.stopAsked := rfl
@[simp] theorem State.poke_ifaces (a : Nat) (v : Byte) (s : State) : (s.poke a v).ifaces = s.ifaces := rfl
@[simp] theorem State.poke_authFail (a : Nat) (v : Byte) (s : State) : (s.poke a v).authFail = s.authFail := rfl
@[simp] theorem State.poke_lpx (a : Nat) (v : Byte) (s : State) : (s.poke a v).lpx = s.lpx := rfl
@[simp] theorem State.poke_packages (a : Nat) (v : Byte) (s : State) : (s.poke a v).packages = s.packages := rfl
@[simp] theorem State.poke_trained (a : Nat) (v : Byte) (s : State) : (s.poke a v).trained = s.trained := rfl
@[simp] theorem State.poke_credits (a : Nat) (v : Byte) (s : State) : (s.poke a v).credits = s.credits := rfl
@[simp] theorem State.poke_sliceMap (a : Nat) (v : Byte) (s : State) : (s.poke a v).sliceMap = s.sliceMap := rfl
@[simp] theorem State.poke_mft (a : Nat) (v : Byte) (s : State) : (s.poke a v).mft = s.mft := rfl
@[simp] theorem State.poke_sessions (a : Nat) (v : Byte) (s : State) : (s.poke a v).sessions = s.sessions := rfl
@[simp] theorem State.poke_stores (a : Nat) (v : Byte) (s : State) : (s.poke a v).stores = s.stores := rfl
@[simp] theorem State.poke_engines (a : Nat) (v : Byte) (s : State) : (s.poke a v).engines = s.engines := rfl
@[simp] theorem State.poke_descs (a : Nat) (v : Byte) (s : State) : (s.poke a v).descs = s.descs := rfl
@[simp] theorem State.poke_nextDesc (a : Nat) (v : Byte) (s : State) : (s.poke a v).nextDesc = s.nextDesc := rfl
@[simp] theorem State.poke_hbm (a : Nat) (v : Byte) (s : State) : (s.poke a v).hbm = s.hbm := rfl
@[simp] theorem State.poke_slices (a : Nat) (v : Byte) (s : State) : (s.poke a v).slices = s.slices := rfl
@[simp] theorem State.poke_lines (a : Nat) (v : Byte) (s : State) : (s.poke a v).lines = s.lines := rfl
@[simp] theorem State.poke_copies (a : Nat) (v : Byte) (s : State) : (s.poke a v).copies = s.copies := rfl
@[simp] theorem State.poke_plru (a : Nat) (v : Byte) (s : State) : (s.poke a v).plru = s.plru := rfl
@[simp] theorem State.poke_cohMsgs (a : Nat) (v : Byte) (s : State) : (s.poke a v).cohMsgs = s.cohMsgs := rfl
@[simp] theorem State.poke_mdDies (a : Nat) (v : Byte) (s : State) : (s.poke a v).mdDies = s.mdDies := rfl
@[simp] theorem State.poke_ports (a : Nat) (v : Byte) (s : State) : (s.poke a v).ports = s.ports := rfl
@[simp] theorem State.poke_marks (a : Nat) (v : Byte) (s : State) : (s.poke a v).marks = s.marks := rfl

/-! ### pokeThrough -/

@[simp] theorem State.pokeThrough_pending (a : Nat) (v : Byte) (s : State) : (s.pokeThrough a v).pending = s.pending := rfl
@[simp] theorem State.pokeThrough_free (a : Nat) (v : Byte) (s : State) : (s.pokeThrough a v).free = s.free := rfl
@[simp] theorem State.pokeThrough_out (a : Nat) (v : Byte) (s : State) : (s.pokeThrough a v).out = s.out := rfl
@[simp] theorem State.pokeThrough_tick (a : Nat) (v : Byte) (s : State) : (s.pokeThrough a v).tick = s.tick := rfl
@[simp] theorem State.pokeThrough_failed (a : Nat) (v : Byte) (s : State) : (s.pokeThrough a v).failed = s.failed := rfl
@[simp] theorem State.pokeThrough_stopped (a : Nat) (v : Byte) (s : State) : (s.pokeThrough a v).stopped = s.stopped := rfl
@[simp] theorem State.pokeThrough_cores (a : Nat) (v : Byte) (s : State) : (s.pokeThrough a v).cores = s.cores := rfl
@[simp] theorem State.pokeThrough_clusters (a : Nat) (v : Byte) (s : State) : (s.pokeThrough a v).clusters = s.clusters := rfl
@[simp] theorem State.pokeThrough_ctxs (a : Nat) (v : Byte) (s : State) : (s.pokeThrough a v).ctxs = s.ctxs := rfl
@[simp] theorem State.pokeThrough_orders (a : Nat) (v : Byte) (s : State) : (s.pokeThrough a v).orders = s.orders := rfl
@[simp] theorem State.pokeThrough_berths (a : Nat) (v : Byte) (s : State) : (s.pokeThrough a v).berths = s.berths := rfl
@[simp] theorem State.pokeThrough_dies (a : Nat) (v : Byte) (s : State) : (s.pokeThrough a v).dies = s.dies := rfl
@[simp] theorem State.pokeThrough_mbx (a : Nat) (v : Byte) (s : State) : (s.pokeThrough a v).mbx = s.mbx := rfl
@[simp] theorem State.pokeThrough_conns (a : Nat) (v : Byte) (s : State) : (s.pokeThrough a v).conns = s.conns := rfl
@[simp] theorem State.pokeThrough_nextConn (a : Nat) (v : Byte) (s : State) : (s.pokeThrough a v).nextConn = s.nextConn := rfl
@[simp] theorem State.pokeThrough_outbox (a : Nat) (v : Byte) (s : State) : (s.pokeThrough a v).outbox = s.outbox := rfl
@[simp] theorem State.pokeThrough_sends (a : Nat) (v : Byte) (s : State) : (s.pokeThrough a v).sends = s.sends := rfl
@[simp] theorem State.pokeThrough_evtOpen (a : Nat) (v : Byte) (s : State) : (s.pokeThrough a v).evtOpen = s.evtOpen := rfl
@[simp] theorem State.pokeThrough_retired (a : Nat) (v : Byte) (s : State) : (s.pokeThrough a v).retired = s.retired := rfl
@[simp] theorem State.pokeThrough_stackGib (a : Nat) (v : Byte) (s : State) : (s.pokeThrough a v).stackGib = s.stackGib := rfl
@[simp] theorem State.pokeThrough_lpxCount (a : Nat) (v : Byte) (s : State) : (s.pokeThrough a v).lpxCount = s.lpxCount := rfl
@[simp] theorem State.pokeThrough_lpxGib (a : Nat) (v : Byte) (s : State) : (s.pokeThrough a v).lpxGib = s.lpxGib := rfl
@[simp] theorem State.pokeThrough_rst (a : Nat) (v : Byte) (s : State) : (s.pokeThrough a v).rst = s.rst := rfl
@[simp] theorem State.pokeThrough_aon (a : Nat) (v : Byte) (s : State) : (s.pokeThrough a v).aon = s.aon := rfl
@[simp] theorem State.pokeThrough_pwr (a : Nat) (v : Byte) (s : State) : (s.pokeThrough a v).pwr = s.pwr := rfl
@[simp] theorem State.pokeThrough_sec (a : Nat) (v : Byte) (s : State) : (s.pokeThrough a v).sec = s.sec := rfl
@[simp] theorem State.pokeThrough_cal (a : Nat) (v : Byte) (s : State) : (s.pokeThrough a v).cal = s.cal := rfl
@[simp] theorem State.pokeThrough_nv (a : Nat) (v : Byte) (s : State) : (s.pokeThrough a v).nv = s.nv := rfl
@[simp] theorem State.pokeThrough_bth (a : Nat) (v : Byte) (s : State) : (s.pokeThrough a v).bth = s.bth := rfl
@[simp] theorem State.pokeThrough_prf (a : Nat) (v : Byte) (s : State) : (s.pokeThrough a v).prf = s.prf := rfl
@[simp] theorem State.pokeThrough_engaged (a : Nat) (v : Byte) (s : State) : (s.pokeThrough a v).engaged = s.engaged := rfl
@[simp] theorem State.pokeThrough_stopAsked (a : Nat) (v : Byte) (s : State) : (s.pokeThrough a v).stopAsked = s.stopAsked := rfl
@[simp] theorem State.pokeThrough_ifaces (a : Nat) (v : Byte) (s : State) : (s.pokeThrough a v).ifaces = s.ifaces := rfl
@[simp] theorem State.pokeThrough_authFail (a : Nat) (v : Byte) (s : State) : (s.pokeThrough a v).authFail = s.authFail := rfl
@[simp] theorem State.pokeThrough_lpx (a : Nat) (v : Byte) (s : State) : (s.pokeThrough a v).lpx = s.lpx := rfl
@[simp] theorem State.pokeThrough_packages (a : Nat) (v : Byte) (s : State) : (s.pokeThrough a v).packages = s.packages := rfl
@[simp] theorem State.pokeThrough_trained (a : Nat) (v : Byte) (s : State) : (s.pokeThrough a v).trained = s.trained := rfl
@[simp] theorem State.pokeThrough_credits (a : Nat) (v : Byte) (s : State) : (s.pokeThrough a v).credits = s.credits := rfl
@[simp] theorem State.pokeThrough_sliceMap (a : Nat) (v : Byte) (s : State) : (s.pokeThrough a v).sliceMap = s.sliceMap := rfl
@[simp] theorem State.pokeThrough_mft (a : Nat) (v : Byte) (s : State) : (s.pokeThrough a v).mft = s.mft := rfl
@[simp] theorem State.pokeThrough_sessions (a : Nat) (v : Byte) (s : State) : (s.pokeThrough a v).sessions = s.sessions := rfl
@[simp] theorem State.pokeThrough_stores (a : Nat) (v : Byte) (s : State) : (s.pokeThrough a v).stores = s.stores := rfl
@[simp] theorem State.pokeThrough_engines (a : Nat) (v : Byte) (s : State) : (s.pokeThrough a v).engines = s.engines := rfl
@[simp] theorem State.pokeThrough_descs (a : Nat) (v : Byte) (s : State) : (s.pokeThrough a v).descs = s.descs := rfl
@[simp] theorem State.pokeThrough_nextDesc (a : Nat) (v : Byte) (s : State) : (s.pokeThrough a v).nextDesc = s.nextDesc := rfl
@[simp] theorem State.pokeThrough_hbm (a : Nat) (v : Byte) (s : State) : (s.pokeThrough a v).hbm = s.hbm := rfl
@[simp] theorem State.pokeThrough_slices (a : Nat) (v : Byte) (s : State) : (s.pokeThrough a v).slices = s.slices := rfl
@[simp] theorem State.pokeThrough_lines (a : Nat) (v : Byte) (s : State) : (s.pokeThrough a v).lines = s.lines := rfl
@[simp] theorem State.pokeThrough_copies (a : Nat) (v : Byte) (s : State) : (s.pokeThrough a v).copies = s.copies := rfl
@[simp] theorem State.pokeThrough_plru (a : Nat) (v : Byte) (s : State) : (s.pokeThrough a v).plru = s.plru := rfl
@[simp] theorem State.pokeThrough_cohMsgs (a : Nat) (v : Byte) (s : State) : (s.pokeThrough a v).cohMsgs = s.cohMsgs := rfl
@[simp] theorem State.pokeThrough_mdDies (a : Nat) (v : Byte) (s : State) : (s.pokeThrough a v).mdDies = s.mdDies := rfl
@[simp] theorem State.pokeThrough_ports (a : Nat) (v : Byte) (s : State) : (s.pokeThrough a v).ports = s.ports := rfl
@[simp] theorem State.pokeThrough_marks (a : Nat) (v : Byte) (s : State) : (s.pokeThrough a v).marks = s.marks := rfl

/-! ### withPending -/

@[simp] theorem State.withPending_free (s : State) (q : List Instr) : (s.withPending q).free = s.free := rfl
@[simp] theorem State.withPending_out (s : State) (q : List Instr) : (s.withPending q).out = s.out := rfl
@[simp] theorem State.withPending_tick (s : State) (q : List Instr) : (s.withPending q).tick = s.tick := rfl
@[simp] theorem State.withPending_failed (s : State) (q : List Instr) : (s.withPending q).failed = s.failed := rfl
@[simp] theorem State.withPending_stopped (s : State) (q : List Instr) : (s.withPending q).stopped = s.stopped := rfl
@[simp] theorem State.withPending_cores (s : State) (q : List Instr) : (s.withPending q).cores = s.cores := rfl
@[simp] theorem State.withPending_clusters (s : State) (q : List Instr) : (s.withPending q).clusters = s.clusters := rfl
@[simp] theorem State.withPending_ctxs (s : State) (q : List Instr) : (s.withPending q).ctxs = s.ctxs := rfl
@[simp] theorem State.withPending_orders (s : State) (q : List Instr) : (s.withPending q).orders = s.orders := rfl
@[simp] theorem State.withPending_berths (s : State) (q : List Instr) : (s.withPending q).berths = s.berths := rfl
@[simp] theorem State.withPending_dies (s : State) (q : List Instr) : (s.withPending q).dies = s.dies := rfl
@[simp] theorem State.withPending_mbx (s : State) (q : List Instr) : (s.withPending q).mbx = s.mbx := rfl
@[simp] theorem State.withPending_conns (s : State) (q : List Instr) : (s.withPending q).conns = s.conns := rfl
@[simp] theorem State.withPending_nextConn (s : State) (q : List Instr) : (s.withPending q).nextConn = s.nextConn := rfl
@[simp] theorem State.withPending_outbox (s : State) (q : List Instr) : (s.withPending q).outbox = s.outbox := rfl
@[simp] theorem State.withPending_sends (s : State) (q : List Instr) : (s.withPending q).sends = s.sends := rfl
@[simp] theorem State.withPending_evtOpen (s : State) (q : List Instr) : (s.withPending q).evtOpen = s.evtOpen := rfl
@[simp] theorem State.withPending_retired (s : State) (q : List Instr) : (s.withPending q).retired = s.retired := rfl
@[simp] theorem State.withPending_stackGib (s : State) (q : List Instr) : (s.withPending q).stackGib = s.stackGib := rfl
@[simp] theorem State.withPending_lpxCount (s : State) (q : List Instr) : (s.withPending q).lpxCount = s.lpxCount := rfl
@[simp] theorem State.withPending_lpxGib (s : State) (q : List Instr) : (s.withPending q).lpxGib = s.lpxGib := rfl
@[simp] theorem State.withPending_rst (s : State) (q : List Instr) : (s.withPending q).rst = s.rst := rfl
@[simp] theorem State.withPending_aon (s : State) (q : List Instr) : (s.withPending q).aon = s.aon := rfl
@[simp] theorem State.withPending_pwr (s : State) (q : List Instr) : (s.withPending q).pwr = s.pwr := rfl
@[simp] theorem State.withPending_sec (s : State) (q : List Instr) : (s.withPending q).sec = s.sec := rfl
@[simp] theorem State.withPending_cal (s : State) (q : List Instr) : (s.withPending q).cal = s.cal := rfl
@[simp] theorem State.withPending_nv (s : State) (q : List Instr) : (s.withPending q).nv = s.nv := rfl
@[simp] theorem State.withPending_bth (s : State) (q : List Instr) : (s.withPending q).bth = s.bth := rfl
@[simp] theorem State.withPending_prf (s : State) (q : List Instr) : (s.withPending q).prf = s.prf := rfl
@[simp] theorem State.withPending_engaged (s : State) (q : List Instr) : (s.withPending q).engaged = s.engaged := rfl
@[simp] theorem State.withPending_stopAsked (s : State) (q : List Instr) : (s.withPending q).stopAsked = s.stopAsked := rfl
@[simp] theorem State.withPending_ifaces (s : State) (q : List Instr) : (s.withPending q).ifaces = s.ifaces := rfl
@[simp] theorem State.withPending_authFail (s : State) (q : List Instr) : (s.withPending q).authFail = s.authFail := rfl
@[simp] theorem State.withPending_lpx (s : State) (q : List Instr) : (s.withPending q).lpx = s.lpx := rfl
@[simp] theorem State.withPending_packages (s : State) (q : List Instr) : (s.withPending q).packages = s.packages := rfl
@[simp] theorem State.withPending_trained (s : State) (q : List Instr) : (s.withPending q).trained = s.trained := rfl
@[simp] theorem State.withPending_credits (s : State) (q : List Instr) : (s.withPending q).credits = s.credits := rfl
@[simp] theorem State.withPending_sliceMap (s : State) (q : List Instr) : (s.withPending q).sliceMap = s.sliceMap := rfl
@[simp] theorem State.withPending_mft (s : State) (q : List Instr) : (s.withPending q).mft = s.mft := rfl
@[simp] theorem State.withPending_sessions (s : State) (q : List Instr) : (s.withPending q).sessions = s.sessions := rfl
@[simp] theorem State.withPending_stores (s : State) (q : List Instr) : (s.withPending q).stores = s.stores := rfl
@[simp] theorem State.withPending_engines (s : State) (q : List Instr) : (s.withPending q).engines = s.engines := rfl
@[simp] theorem State.withPending_descs (s : State) (q : List Instr) : (s.withPending q).descs = s.descs := rfl
@[simp] theorem State.withPending_nextDesc (s : State) (q : List Instr) : (s.withPending q).nextDesc = s.nextDesc := rfl
@[simp] theorem State.withPending_hbm (s : State) (q : List Instr) : (s.withPending q).hbm = s.hbm := rfl
@[simp] theorem State.withPending_slices (s : State) (q : List Instr) : (s.withPending q).slices = s.slices := rfl
@[simp] theorem State.withPending_lines (s : State) (q : List Instr) : (s.withPending q).lines = s.lines := rfl
@[simp] theorem State.withPending_copies (s : State) (q : List Instr) : (s.withPending q).copies = s.copies := rfl
@[simp] theorem State.withPending_plru (s : State) (q : List Instr) : (s.withPending q).plru = s.plru := rfl
@[simp] theorem State.withPending_cohMsgs (s : State) (q : List Instr) : (s.withPending q).cohMsgs = s.cohMsgs := rfl
@[simp] theorem State.withPending_mdDies (s : State) (q : List Instr) : (s.withPending q).mdDies = s.mdDies := rfl
@[simp] theorem State.withPending_ports (s : State) (q : List Instr) : (s.withPending q).ports = s.ports := rfl
@[simp] theorem State.withPending_marks (s : State) (q : List Instr) : (s.withPending q).marks = s.marks := rfl
@[simp] theorem State.withPending_backing (s : State) (q : List Instr) : (s.withPending q).backing = s.backing := rfl
@[simp] theorem State.withPending_mem (s : State) (q : List Instr) : (s.withPending q).mem = s.mem := rfl

/-! ### What is read of the part that changed -/

@[simp] theorem State.withPending_pending (s : State) (q : List Instr) : (s.withPending q).pending = q := rfl

theorem State.core_setCore (i j : Nat) (c : Core) (s : State) :
    (s.setCore i c).core j = if j = i then c else s.core j := tget_tset ..
theorem State.core_modCore (i j : Nat) (f : Core → Core) (s : State) :
    (s.modCore i f).core j = if j = i then f (s.core i) else s.core j := tget_tset ..
theorem State.core_modWork (i j : Nat) (f : CoreWork → CoreWork) (s : State) :
    (s.modWork i f).core j = if j = i then { s.core i with work := f (s.core i).work } else s.core j := tget_tset ..
theorem State.ctx_setCtx (k j : Nat) (x : Option Ctx) (s : State) :
    (s.setCtx k x).ctx j = if j = k then x else s.ctx j := tget_tset ..
theorem State.ctx_modCtx (k j : Nat) (f : Ctx → Ctx) (s : State) :
    (s.modCtx k f).ctx j = if j = k then (s.ctx k).map f else s.ctx j := tget_tset ..
theorem State.order_setOrder (o j : Nat) (x : Option Order) (s : State) :
    (s.setOrder o x).order j = if j = o then x else s.order j := tget_tset ..
theorem State.order_modOrder (o j : Nat) (f : Order → Order) (s : State) :
    (s.modOrder o f).order j = if j = o then (s.order o).map f else s.order j := tget_tset ..
theorem State.berth_setBerth (b j : Nat) (x : Berth) (s : State) :
    (s.setBerth b x).berth j = if j = b then x else s.berth j := tget_tset ..
theorem State.berth_modBerth (b j : Nat) (f : Berth → Berth) (s : State) :
    (s.modBerth b f).berth j = if j = b then f (s.berth b) else s.berth j := tget_tset ..
theorem State.port_setPort (p j : Nat) (x : Port) (s : State) :
    (s.setPort p x).port j = if j = p then x else s.port j := tget_tset ..
theorem State.port_modPort (p j : Nat) (f : Port → Port) (s : State) :
    (s.modPort p f).port j = if j = p then f (s.port p) else s.port j := tget_tset ..
theorem State.die_modDie (d j : Nat) (f : Die → Die) (s : State) :
    (s.modDie d f).die j = if j = d then f (s.die d) else s.die j := tget_tmod ..
theorem State.cluster_modCluster (n j : Nat) (f : Cluster → Cluster) (s : State) :
    (s.modCluster n f).cluster j = if j = n then f (s.cluster n) else s.cluster j := tget_tmod ..
theorem State.conn_setConn (n j : Nat) (x : Option Conn) (s : State) :
    (s.setConn n x).conn j = if j = n then x else s.conn j := tget_tset ..
theorem State.sess_setSess (n j : Nat) (x : Sess) (s : State) :
    (s.setSess n x).sess j = if j = n then x else s.sess j := tget_tset ..

/-! ### Groups -/

theorem CoreWork.group_setGroup (g j : Nat) (x : Option Group) (w : CoreWork) :
    (w.setGroup g x).group j = if j = g then x else w.group j := tget_tset ..

/-- What a group's place reads as after a group was set. -/
theorem State.groupAt_setGroup (c d : CoreAt) (g : Group) (s : State) :
    (s.setGroup c g).groupAt d = if d = c then some g else s.groupAt d := by
  obtain ⟨i, n⟩ := c
  obtain ⟨j, m⟩ := d
  unfold State.groupAt State.setGroup
  rw [State.core_modWork]
  by_cases hj : j = i
  · subst hj
    by_cases hm : m = n <;> simp [CoreWork.group_setGroup, hm]
  · simp [hj]

@[simp] theorem State.groupAt_setGroup_same (c : CoreAt) (g : Group) (s : State) :
    (s.setGroup c g).groupAt c = some g := by simp [State.groupAt_setGroup]

/-- Setting a group leaves every other part of its core and every other core alone. -/
theorem State.core_setGroup (c : CoreAt) (g : Group) (s : State) (j : Nat) :
    (s.setGroup c g).core j =
      if j = c.core then { s.core j with work := (s.core j).work.setGroup c.grp (some g) } else s.core j := by
  unfold State.setGroup
  rw [State.core_modWork]
  by_cases hj : j = c.core <;> simp [hj]

/-! ### Registers of a group -/

@[simp] theorem Group.setS_pc (g : Group) (r : Nat) (x : Word) : (g.setS r x).pc = g.pc := rfl
@[simp] theorem Group.setM_pc (g : Group) (r : Nat) (x : Word) : (g.setM r x).pc = g.pc := rfl
@[simp] theorem Group.setLanes_pc (g : Group) (r : Nat) (f : Nat → Lane) : (g.setLanes r f).pc = g.pc := rfl
@[simp] theorem Group.advance_pc (g : Group) : g.advance.pc = g.pc + 8 := rfl
@[simp] theorem Group.advance_sreg (g : Group) (r : Nat) : g.advance.sreg r = g.sreg r := rfl
@[simp] theorem Group.advance_mreg (g : Group) (r : Nat) : g.advance.mreg r = g.mreg r := rfl
@[simp] theorem Group.advance_vreg (g : Group) (r : Nat) : g.advance.vreg r = g.vreg r := rfl
theorem Group.sreg_setS (g : Group) (r j : Nat) (x : Word) :
    (g.setS r x).sreg j = if j = r then x else g.sreg j := tget_tset ..
theorem Group.mreg_setM (g : Group) (r j : Nat) (x : Word) :
    (g.setM r x).mreg j = if j = r then x &&& widthMask g.width else g.mreg j := tget_tset ..
/-- The lanes of a vector register after the active lanes of one were written (06 R137). -/
theorem Group.lane_setLanes (g : Group) (r j t : Nat) (f : Nat → Lane) (ht : t < 64) :
    (g.setLanes r f).lane j t = if j = r ∧ g.active t then f t else g.lane j t := by
  unfold Group.lane Group.vreg Group.setLanes
  by_cases hj : j = r
  · subst hj
    by_cases ha : g.active t <;> simp [ht, ha, Group.lane, Group.vreg]
  · simp [tget_tset, hj]

end Sys2Proof.Machine
end

