-- ==== Sys2Proof/Laws/Box.lean ====
section
/-! SUPPORT. Laws of the shared operations of the platform: what an event, a response, a doorbell and a command of the security
controller can do. -/

namespace Sys2Proof.Machine

/-! ### Stops and events -/

@[simp] theorem State.triggerStop_mem (d : Nat) (s : State) : (s.triggerStop d).mem = s.mem := by
  unfold State.triggerStop; split <;> rfl
@[simp] theorem State.triggerStop_backing (d : Nat) (s : State) : (s.triggerStop d).backing = s.backing := by
  unfold State.triggerStop; split <;> rfl
@[simp] theorem State.triggerStop_tick (d : Nat) (s : State) : (s.triggerStop d).tick = s.tick := by
  unfold State.triggerStop; split <;> rfl
@[simp] theorem State.triggerStop_berths (d : Nat) (s : State) : (s.triggerStop d).berths = s.berths := by
  unfold State.triggerStop; split <;> rfl
@[simp] theorem State.triggerStop_ctxs (d : Nat) (s : State) : (s.triggerStop d).ctxs = s.ctxs := by
  unfold State.triggerStop; split <;> rfl
@[simp] theorem State.triggerStop_orders (d : Nat) (s : State) : (s.triggerStop d).orders = s.orders := by
  unfold State.triggerStop; split <;> rfl
@[simp] theorem State.triggerStop_cores (d : Nat) (s : State) : (s.triggerStop d).cores = s.cores := by
  unfold State.triggerStop; split <;> rfl
@[simp] theorem State.triggerStop_ports (d : Nat) (s : State) : (s.triggerStop d).ports = s.ports := by
  unfold State.triggerStop; split <;> rfl
@[simp] theorem State.triggerStop_pending (d : Nat) (s : State) : (s.triggerStop d).pending = s.pending := by
  unfold State.triggerStop; split <;> rfl
@[simp] theorem State.triggerStop_lines (d : Nat) (s : State) : (s.triggerStop d).lines = s.lines := by
  unfold State.triggerStop; split <;> rfl
@[simp] theorem State.triggerStop_clusters (d : Nat) (s : State) : (s.triggerStop d).clusters = s.clusters := by
  unfold State.triggerStop; split <;> rfl
@[simp] theorem State.triggerStop_conns (d : Nat) (s : State) : (s.triggerStop d).conns = s.conns := by
  unfold State.triggerStop; split <;> rfl
@[simp] theorem State.triggerStop_sessions (d : Nat) (s : State) : (s.triggerStop d).sessions = s.sessions := by
  unfold State.triggerStop; split <;> rfl
@[simp] theorem State.triggerStop_stores (d : Nat) (s : State) : (s.triggerStop d).stores = s.stores := by
  unfold State.triggerStop; split <;> rfl
@[simp] theorem State.triggerStop_descs (d : Nat) (s : State) : (s.triggerStop d).descs = s.descs := by
  unfold State.triggerStop; split <;> rfl
@[simp] theorem State.triggerStop_engines (d : Nat) (s : State) : (s.triggerStop d).engines = s.engines := by
  unfold State.triggerStop; split <;> rfl
@[simp] theorem State.triggerStop_failed (d : Nat) (s : State) : (s.triggerStop d).failed = s.failed := by
  unfold State.triggerStop; split <;> rfl
@[simp] theorem State.triggerStop_retired (d : Nat) (s : State) : (s.triggerStop d).retired = s.retired := by
  unfold State.triggerStop; split <;> rfl
@[simp] theorem State.triggerStop_rst (d : Nat) (s : State) : (s.triggerStop d).rst = s.rst := by
  unfold State.triggerStop; split <;> rfl
@[simp] theorem State.triggerStop_sec (d : Nat) (s : State) : (s.triggerStop d).sec = s.sec := by
  unfold State.triggerStop; split <;> rfl
@[simp] theorem State.triggerStop_mft (d : Nat) (s : State) : (s.triggerStop d).mft = s.mft := by
  unfold State.triggerStop; split <;> rfl
@[simp] theorem State.triggerStop_nv (d : Nat) (s : State) : (s.triggerStop d).nv = s.nv := by
  unfold State.triggerStop; split <;> rfl
@[simp] theorem State.triggerStop_bth (d : Nat) (s : State) : (s.triggerStop d).bth = s.bth := by
  unfold State.triggerStop; split <;> rfl
@[simp] theorem State.triggerStop_prf (d : Nat) (s : State) : (s.triggerStop d).prf = s.prf := by
  unfold State.triggerStop; split <;> rfl

@[simp] theorem State.raiseEvent_mem (r : EventRec) (s : State) : (s.raiseEvent r).mem = s.mem := by
  unfold State.raiseEvent
  split
  · rfl
  · dsimp only
    split <;> split <;> (try split) <;> simp
@[simp] theorem State.raiseEvent_backing (r : EventRec) (s : State) : (s.raiseEvent r).backing = s.backing := by
  unfold State.raiseEvent
  split
  · rfl
  · dsimp only
    split <;> split <;> (try split) <;> simp
@[simp] theorem State.raiseEvent_tick (r : EventRec) (s : State) : (s.raiseEvent r).tick = s.tick := by
  unfold State.raiseEvent
  split
  · rfl
  · dsimp only
    split <;> split <;> (try split) <;> simp
@[simp] theorem State.raiseEvent_berths (r : EventRec) (s : State) : (s.raiseEvent r).berths = s.berths := by
  unfold State.raiseEvent
  split
  · rfl
  · dsimp only
    split <;> split <;> (try split) <;> simp
@[simp] theorem State.raiseEvent_ctxs (r : EventRec) (s : State) : (s.raiseEvent r).ctxs = s.ctxs := by
  unfold State.raiseEvent
  split
  · rfl
  · dsimp only
    split <;> split <;> (try split) <;> simp
@[simp] theorem State.raiseEvent_orders (r : EventRec) (s : State) : (s.raiseEvent r).orders = s.orders := by
  unfold State.raiseEvent
  split
  · rfl
  · dsimp only
    split <;> split <;> (try split) <;> simp
@[simp] theorem State.raiseEvent_cores (r : EventRec) (s : State) : (s.raiseEvent r).cores = s.cores := by
  unfold State.raiseEvent
  split
  · rfl
  · dsimp only
    split <;> split <;> (try split) <;> simp
@[simp] theorem State.raiseEvent_ports (r : EventRec) (s : State) : (s.raiseEvent r).ports = s.ports := by
  unfold State.raiseEvent
  split
  · rfl
  · dsimp only
    split <;> split <;> (try split) <;> simp
@[simp] theorem State.raiseEvent_pending (r : EventRec) (s : State) : (s.raiseEvent r).pending = s.pending := by
  unfold State.raiseEvent
  split
  · rfl
  · dsimp only
    split <;> split <;> (try split) <;> simp
@[simp] theorem State.raiseEvent_lines (r : EventRec) (s : State) : (s.raiseEvent r).lines = s.lines := by
  unfold State.raiseEvent
  split
  · rfl
  · dsimp only
    split <;> split <;> (try split) <;> simp
@[simp] theorem State.raiseEvent_clusters (r : EventRec) (s : State) : (s.raiseEvent r).clusters = s.clusters := by
  unfold State.raiseEvent
  split
  · rfl
  · dsimp only
    split <;> split <;> (try split) <;> simp
@[simp] theorem State.raiseEvent_conns (r : EventRec) (s : State) : (s.raiseEvent r).conns = s.conns := by
  unfold State.raiseEvent
  split
  · rfl
  · dsimp only
    split <;> split <;> (try split) <;> simp
@[simp] theorem State.raiseEvent_sessions (r : EventRec) (s : State) : (s.raiseEvent r).sessions = s.sessions := by
  unfold State.raiseEvent
  split
  · rfl
  · dsimp only
    split <;> split <;> (try split) <;> simp
@[simp] theorem State.raiseEvent_stores (r : EventRec) (s : State) : (s.raiseEvent r).stores = s.stores := by
  unfold State.raiseEvent
  split
  · rfl
  · dsimp only
    split <;> split <;> (try split) <;> simp
@[simp] theorem State.raiseEvent_descs (r : EventRec) (s : State) : (s.raiseEvent r).descs = s.descs := by
  unfold State.raiseEvent
  split
  · rfl
  · dsimp only
    split <;> split <;> (try split) <;> simp
@[simp] theorem State.raiseEvent_engines (r : EventRec) (s : State) : (s.raiseEvent r).engines = s.engines := by
  unfold State.raiseEvent
  split
  · rfl
  · dsimp only
    split <;> split <;> (try split) <;> simp
@[simp] theorem State.raiseEvent_failed (r : EventRec) (s : State) : (s.raiseEvent r).failed = s.failed := by
  unfold State.raiseEvent
  split
  · rfl
  · dsimp only
    split <;> split <;> (try split) <;> simp
@[simp] theorem State.raiseEvent_retired (r : EventRec) (s : State) : (s.raiseEvent r).retired = s.retired := by
  unfold State.raiseEvent
  split
  · rfl
  · dsimp only
    split <;> split <;> (try split) <;> simp
@[simp] theorem State.raiseEvent_rst (r : EventRec) (s : State) : (s.raiseEvent r).rst = s.rst := by
  unfold State.raiseEvent
  split
  · rfl
  · dsimp only
    split <;> split <;> (try split) <;> simp
@[simp] theorem State.raiseEvent_sec (r : EventRec) (s : State) : (s.raiseEvent r).sec = s.sec := by
  unfold State.raiseEvent
  split
  · rfl
  · dsimp only
    split <;> split <;> (try split) <;> simp
@[simp] theorem State.raiseEvent_mft (r : EventRec) (s : State) : (s.raiseEvent r).mft = s.mft := by
  unfold State.raiseEvent
  split
  · rfl
  · dsimp only
    split <;> split <;> (try split) <;> simp
@[simp] theorem State.raiseEvent_nv (r : EventRec) (s : State) : (s.raiseEvent r).nv = s.nv := by
  unfold State.raiseEvent
  split
  · rfl
  · dsimp only
    split <;> split <;> (try split) <;> simp
@[simp] theorem State.raiseEvent_bth (r : EventRec) (s : State) : (s.raiseEvent r).bth = s.bth := by
  unfold State.raiseEvent
  split
  · rfl
  · dsimp only
    split <;> split <;> (try split) <;> simp
@[simp] theorem State.raiseEvent_prf (r : EventRec) (s : State) : (s.raiseEvent r).prf = s.prf := by
  unfold State.raiseEvent
  split
  · rfl
  · dsimp only
    split <;> split <;> (try split) <;> simp

@[simp] theorem State.triggerStop_mbx (d : Nat) (s : State) : (s.triggerStop d).mbx = s.mbx := by
  unfold State.triggerStop; split <;> rfl

/-- An event leaves the request of the mailbox and its response alone. -/
theorem State.raiseEvent_req (r : EventRec) (s : State) : (s.raiseEvent r).mbx.req = s.mbx.req := by
  unfold State.raiseEvent
  split
  · rfl
  · dsimp only
    split <;> split <;> (try split) <;> simp

/-! ### The mailbox (21 R465 to R467) -/

/-- Everything that a doorbell can do: nothing, one more dropped request, one of two refusals, or the command. -/
theorem doorbell_cases (op len : Nat) (r : MbxReq) (f : State → State) (s : State) :
    (s.serves = none ∧ s.doorbell op len r f = s) ∨
    ∃ ok, s.serves = some ok ∧
      ((s.mbx.req.isSome = true ∧ s.doorbell op len r f = { s with mbx := { s.mbx with dropped := satAdd s.mbx.dropped 1 } }) ∨
       (s.mbx.req = none ∧ ok op = false ∧ s.doorbell op len r f = s.respond op r.tag 1 0 []) ∨
       (s.mbx.req = none ∧ ok op = true ∧ (r.clean = false ∨ r.body.length ≠ len) ∧
          s.doorbell op len r f = s.respond op r.tag 2 0 []) ∨
       (s.mbx.req = none ∧ ok op = true ∧ r.clean = true ∧ r.body.length = len ∧ s.doorbell op len r f = f s)) := by
  unfold State.doorbell
  cases hs : s.serves with
  | none => exact .inl ⟨rfl, rfl⟩
  | some ok =>
    refine .inr ⟨ok, rfl, ?_⟩
    cases hq : s.mbx.req with
    | some q => exact .inl (by simp)
    | none =>
      cases ho : ok op
      · exact .inr (.inl (by simp [ho]))
      · cases hc : r.clean <;> by_cases hl : r.body.length = len <;> simp [ho, hl]

/-- A response leaves everything but the mailbox and what has been sent. -/
theorem respond_frame (op tag status result : Nat) (body : List Byte) (s : State) :
    s.respond op tag status result body =
      { s with mbx := (s.respond op tag status result body).mbx, out := (s.respond op tag status result body).out } := by
  unfold State.respond; dsimp only; split <;> rfl

/-! ### The security controller (19 R429) -/

/-- Everything that a row of the security controller can do. -/
theorem secRow_cases (op : Nat) (f : List Byte → State → State) (s : State) :
    secRow op f s = .next s ∨
    (s.running = true ∧ s.sec.ready = true ∧
      ((s.sec.running = some op ∧ secRow op f s = .next (f s.sec.input s)) ∨
       (s.sec.running.isSome = true ∧ s.fwActs = true ∧ secRow op f s = .next (s.startSec op [] false)) ∨
       (s.sec.running = none ∧ s.fwActs = true ∧ secRow op f s = .next (f s.secInput (s.fwSec op))))) := by
  unfold secRow
  cases hr : s.running <;> cases hy : s.sec.ready <;> simp
  cases ho : s.sec.running with
  | none => cases hf : s.fwActs <;> simp
  | some o => by_cases h : o = op ∧ s.sec.moving = none <;> cases hf : s.fwActs <;> simp [h, State.fwSec, ho]

end Sys2Proof.Machine
end

