-- ==== Sys2Proof/Laws/Issue.lean ====
section
/-! SUPPORT. Laws of the shared operations of core instructions: what `issue` and the forms built on it can do. -/

namespace Sys2Proof.Machine

/-- A group that may issue, at a PC that can be fetched, with a legal word and allocated registers: the instruction's own
effect follows. -/
theorem issue_run {c : CoreAt} {w : Word} {s : State} {k : Nat} {x : Ctx} {g : Group} (body : Body)
    (h : s.runGroup c = some (k, x, g)) (hf : s.fetchOk x.berth g.pc = true) (hl : legalWord g.width w = true)
    (ha : allocOk g.regs w = true) : issue c w body s = body k x g s := by
  simp [issue, h, hf, hl, ha]

/-- Everything that `issue` can do: nothing where the group may not issue, one of three faults in the order of 06 R156, or
the instruction's own effect. -/
theorem issue_cases (c : CoreAt) (w : Word) (body : Body) (s : State) :
    (s.runGroup c = none ∧ issue c w body s = s) ∨
    ∃ k x g, s.runGroup c = some (k, x, g) ∧
      ((s.fetchOk x.berth g.pc = false ∧ issue c w body s = s.coreFault c 0x06) ∨
       (s.fetchOk x.berth g.pc = true ∧ legalWord g.width w = false ∧ issue c w body s = s.coreFault c 0x01) ∨
       (s.fetchOk x.berth g.pc = true ∧ legalWord g.width w = true ∧ allocOk g.regs w = false ∧
          issue c w body s = s.coreFault c 0x02) ∨
       (s.fetchOk x.berth g.pc = true ∧ legalWord g.width w = true ∧ allocOk g.regs w = true ∧
          issue c w body s = body k x g s)) := by
  unfold issue
  cases hr : s.runGroup c with
  | none => exact .inl ⟨rfl, rfl⟩
  | some p =>
    obtain ⟨k, x, g⟩ := p
    refine .inr ⟨k, x, g, rfl, ?_⟩
    cases hf : s.fetchOk x.berth g.pc <;> cases hl : legalWord g.width w <;> cases ha : allocOk g.regs w <;>
      simp [hf, hl, ha]

/-- An instruction that changes only its group: the group it leaves. -/
theorem issueGroup_run {c : CoreAt} {w : Word} {s : State} {k : Nat} {x : Ctx} {g : Group} (f : Group → Group)
    (h : s.runGroup c = some (k, x, g)) (hf : s.fetchOk x.berth g.pc = true) (hl : legalWord g.width w = true)
    (ha : allocOk g.regs w = true) : issueGroup c w f s = s.setGroup c (f g).advance :=
  issue_run _ h hf hl ha

/-- A branch or mask instruction: the group it leaves. -/
theorem issueJump_run {c : CoreAt} {w : Word} {s : State} {k : Nat} {x : Ctx} {g : Group} (f : Group → Group)
    (h : s.runGroup c = some (k, x, g)) (hf : s.fetchOk x.berth g.pc = true) (hl : legalWord g.width w = true)
    (ha : allocOk g.regs w = true) : issueJump c w f s = s.setGroup c (f g) :=
  issue_run _ h hf hl ha

/-- A group that may issue stands at its place, is neither ended nor held, and its context is resident. -/
theorem runGroup_some {s : State} {c : CoreAt} {k : Nat} {x : Ctx} {g : Group} (h : s.runGroup c = some (k, x, g)) :
    s.groupAt c = some g ∧ (s.core c.core).ctx = some k ∧ s.ctx k = some x ∧ g.ended = false ∧ g.hold = none := by
  unfold State.runGroup at h
  simp only at h
  split at h
  · split at h
    · split at h
      · rename_i hc hg _ _ hx hb
        simp only [Option.some.injEq, Prod.mk.injEq] at h
        obtain ⟨rfl, rfl, rfl⟩ := h
        simp only [Bool.and_eq_true, Bool.not_eq_true', Option.isNone_iff_eq_none] at hb
        exact ⟨hg, hc, hx, hb.1.2, hb.2⟩
      · cases h
    · cases h
  · cases h

end Sys2Proof.Machine
end

