-- ==== Sys2Proof/Laws/Memory.lean ====
section
/-! SUPPORT. Laws of memory: what a byte reads as after a write, and that every operation on memory keeps the canonical
form. -/

namespace Sys2Proof.Machine

/-! ### Reads after writes -/

/-- What a byte reads as after one byte has been written. -/
theorem byte_poke (s : State) (d a : Nat) (v : Byte) : (s.poke d v).byte a = if a = d then v else s.byte a :=
  tget_tset 0 s.mem d a v

theorem byte_pokeThrough (s : State) (d a : Nat) (v : Byte) :
    (s.pokeThrough d v).byte a = if a = d then v else s.byte a := tget_tset 0 s.mem d a v

/-- Bytes written one after another: those at a byte's place count from `n` on. -/
theorem byte_pokes (d : Nat) (bs : List Byte) (n : Nat) (s : State) (a : Nat) :
    ((bs.zipIdx n).foldl (fun s p => s.poke (d + p.2) p.1) s).byte a =
      if d + n ≤ a ∧ a < d + n + bs.length then bs.getD (a - (d + n)) 0 else s.byte a := by
  induction bs generalizing n s with
  | nil => simp
  | cons b bs ih =>
    simp only [List.zipIdx_cons, List.foldl_cons, ih, byte_poke, List.length_cons]
    by_cases h : a = d + n
    · subst h; simp
    · by_cases h2 : d + n ≤ a ∧ a < d + n + (bs.length + 1)
      · obtain ⟨m, rfl⟩ : ∃ m, a = d + n + (m + 1) := ⟨a - (d + n) - 1, by omega⟩
        have e1 : d + n + (m + 1) - (d + (n + 1)) = m := by omega
        have e2 : d + n + (m + 1) - (d + n) = m + 1 := by omega
        rw [if_pos (by omega), if_pos h2, e1, e2, List.getD_cons_succ]
      · rw [if_neg (by omega), if_neg h, if_neg h2]

/-- What a byte reads as after a run of bytes has been written from `d` on. -/
theorem byte_pokeN (s : State) (d : Nat) (bs : List Byte) (a : Nat) :
    (s.pokeN d bs).byte a = if d ≤ a ∧ a < d + bs.length then bs.getD (a - d) 0 else s.byte a := by
  simpa [State.pokeN] using byte_pokes d bs 0 s a

/-- A write leaves every byte outside its range alone. -/
theorem byte_pokeN_outside (s : State) (d : Nat) (bs : List Byte) (a : Nat) (h : a < d ∨ d + bs.length ≤ a) :
    (s.pokeN d bs).byte a = s.byte a := by
  rw [byte_pokeN, if_neg (by omega)]

/-! ### The canonical form -/

/-- States with the same bytes have the same form. -/
theorem memOk_congr {s t : State} (hm : t.mem = s.mem) (hb : t.backing = s.backing) (h : s.memOk = true) : t.memOk = true := by
  simpa [State.memOk, hm, hb] using h

theorem memOk_iff (s : State) : s.memOk = true ↔ Tbl.wf 0 s.mem = true ∧ Tbl.wf none s.backing = true := by
  simp only [State.memOk, Memory.wf, Bool.and_eq_true]

theorem reset_memOk : State.reset.memOk = true := rfl

/-- A fold whose every step keeps the form keeps it. -/
theorem memOk_foldl {α : Type} (f : State → α → State) (hf : ∀ s a, s.memOk = true → (f s a).memOk = true) (l : List α)
    (s : State) (h : s.memOk = true) : (l.foldl f s).memOk = true := by
  induction l generalizing s with
  | nil => exact h
  | cons a l ih => exact ih _ (hf s a h)

theorem memOk_poke (d : Nat) (v : Byte) (s : State) (h : s.memOk = true) : (s.poke d v).memOk = true := by
  obtain ⟨hm, hb⟩ := (memOk_iff s).1 h
  refine (memOk_iff _).2 ⟨wf_tset 0 s.mem d v hm, ?_⟩
  simp only [State.poke]
  split
  · exact hb
  · exact wf_tset none s.backing d _ hb

theorem memOk_pokeN (d : Nat) (bs : List Byte) (s : State) (h : s.memOk = true) : (s.pokeN d bs).memOk = true :=
  memOk_foldl _ (fun s _ h => memOk_poke _ _ s h) _ s h

theorem memOk_pokeThrough (d : Nat) (v : Byte) (s : State) (h : s.memOk = true) : (s.pokeThrough d v).memOk = true := by
  obtain ⟨hm, hb⟩ := (memOk_iff s).1 h
  exact (memOk_iff _).2 ⟨wf_tset 0 s.mem d v hm, wf_tset none s.backing d none hb⟩

theorem memOk_writeBack (ln : Nat) (s : State) (h : s.memOk = true) : (s.writeBack ln).memOk = true := by
  obtain ⟨hm, hb⟩ := (memOk_iff s).1 h
  exact (memOk_iff _).2 ⟨hm, wf_filter none s.backing _ hb⟩

theorem memOk_discard (ln : Nat) (s : State) (h : s.memOk = true) : (s.discard ln).memOk = true := by
  refine memOk_foldl _ (fun s i h => ?_) _ s h
  split
  · exact memOk_pokeThrough _ _ s h
  · exact h

theorem memOk_writeLoc (k : Nat) (l : Loc) (bs : List Byte) (s : State) (h : s.memOk = true) :
    (s.writeLoc k l bs).memOk = true := by
  unfold State.writeLoc
  split
  · exact memOk_pokeN _ _ s h
  · exact memOk_congr rfl rfl h
  · exact h

theorem memOk_shown (k : Nat) (l : Loc) (n : Nat) (s : State) (h : s.memOk = true) : (s.shown k l n).memOk = true := by
  unfold State.shown
  split
  · split
    · exact memOk_congr rfl rfl h
    · exact h
  · exact h

theorem memOk_zeroRange (d n : Nat) (s : State) (h : s.memOk = true) : (s.zeroRange d n).memOk = true := by
  obtain ⟨hm, hb⟩ := (memOk_iff s).1 h
  exact memOk_shown _ _ _ _ ((memOk_iff _).2 ⟨wf_filter 0 s.mem _ hm, wf_filter none s.backing _ hb⟩)

theorem memOk_discardLines (p : Nat → Bool) (s : State) (h : s.memOk = true) : (s.discardLines p).memOk = true := by
  have key : ((s.backing.filter fun e => p (e.1 / 128)).foldl
      (fun s e => e.2.elim s fun v => s.pokeThrough e.1 v) s).memOk = true := by
    refine memOk_foldl _ (fun s e h => ?_) _ s h
    cases e.2 with
    | none => exact h
    | some v => exact memOk_pokeThrough _ _ s h
  exact memOk_congr rfl rfl key

/-- A cold reset lists nothing. -/
theorem memOk_coldReset (cause : Nat) (s : State) : (s.coldReset cause).memOk = true := rfl

/-- Boot zeroes stacked memory and keeps the rest. -/
theorem memOk_low (s t : State) (p : Nat → Bool) (hm : t.mem = s.mem.filter fun q => p q.1)
    (hb : t.backing = s.backing.filter fun q => p q.1) (h : s.memOk = true) : t.memOk = true := by
  obtain ⟨h1, h2⟩ := (memOk_iff s).1 h
  exact (memOk_iff t).2 ⟨hm ▸ wf_filter 0 s.mem _ h1, hb ▸ wf_filter none s.backing _ h2⟩

end Sys2Proof.Machine
end

