-- ==== Sys2Proof/Tests/Fixture.lean ====
section
/-! SUPPORT. Small states and words that the tests and the witnesses share. -/

namespace Sys2Proof.Tests

open Sys2Proof Sys2Proof.Machine

/-- Slot 0 of core slot 0. -/
def c0 : CoreAt := { core := 0, grp := 0 }

/-- A device that is ready. -/
def up : Rst := { ready := true, pending := false, fwUp := true }

def workOf (g : Group) : CoreWork := { groups := [(0, some g)], blocks := [(0, some { groups := [0] })] }

/-- A berth that is ENABLED, its first 64 KiB at DPA 0x1000_0000. -/
def berth1 : Berth := { state := 2, map := [(0, some { dpa := 0x10000000, w := true, x := true })] }

def ctx0 : Ctx := { berth := 1, switchedIn := true, cores := [0], clusters := [0] }

/-- The same running a program of one scratch bank. -/
def ctxP : Ctx := { ctx0 with prog := some { scrBanks := 1 } }

/-- A device that is ready, with work `w` on core slot 0, which context 0 of berth 1 holds. -/
def coreWith (w : CoreWork) : State :=
  { stackGib := 384, rst := up, clusters := [(0, { asleep := false })], ctxs := [(0, some ctx0)], berths := [(1, berth1)],
    cores := [(0, { slotState := 1, bound := some 0, ctx := some 0, work := w })] }

/-- The same with group `g` alone. -/
def coreState (g : Group) : State := coreWith (workOf g)

/-- The state after a command, where it answers a next state. -/
def next (i : Instr) (s : State) : Option State :=
  match exec i s with
  | .next t => some t
  | _ => none

/-- A value read from the state after a command. -/
def after {α : Type} (i : Instr) (s : State) (f : State → α) : Option α := (next i s).map f

/-- A value read from group `g` after a command. -/
def grp {α : Type} (i : Instr) (g : Group) (f : Group → α) : Option α :=
  ((next i (coreState g)).bind fun t => t.groupAt c0).map f

/-! Words of the formats of 06: everything below the opcode. -/

/-- VV: VD, VA, VB, VC and the bits below. -/
def vv (d a b c low : Nat) : Rest := BitVec.ofNat 56 (d * 2 ^ 48 + a * 2 ^ 40 + b * 2 ^ 32 + c * 2 ^ 24 + low)
/-- VS: VD, VA, TYPE and MOD as one nibble each, K, IMM. -/
def vs (d a ty k imm : Nat) : Rest := BitVec.ofNat 56 (d * 2 ^ 48 + a * 2 ^ 40 + ty * 2 ^ 36 + k * 2 ^ 32 + imm)
/-- M: VD, VA, VB, SB and the bits below. -/
def mm (d a b sb low : Nat) : Rest := BitVec.ofNat 56 (d * 2 ^ 48 + a * 2 ^ 40 + b * 2 ^ 32 + sb * 2 ^ 26 + low)
/-- B: MD, MA, MB, SA and the bits below. -/
def bb (md ma mb sa low : Nat) : Rest := BitVec.ofNat 56 (md * 2 ^ 53 + ma * 2 ^ 50 + mb * 2 ^ 47 + sa * 2 ^ 40 + low)
/-- C: VD, VA, VS and the bits below. -/
def cc (d a vsr low : Nat) : Rest := BitVec.ofNat 56 (d * 2 ^ 48 + a * 2 ^ 40 + vsr * 2 ^ 32 + low)
/-- X: ST, SA, SB, SC and the bits below. -/
def xx (st sa sb sc low : Nat) : Rest := BitVec.ofNat 56 (st * 2 ^ 50 + sa * 2 ^ 44 + sb * 2 ^ 38 + sc * 2 ^ 32 + low)
/-- S: SD, SA, SB and IMM. -/
def ss (sd sa sb imm : Nat) : Rest := BitVec.ofNat 56 (sd * 2 ^ 50 + sa * 2 ^ 44 + sb * 2 ^ 38 + imm)

/-- A group of 64 lanes of which lanes 0 and 1 are active, with v1 to v3, s1 and s2 and m1. -/
def g3 (a b c : Lane) (s1 s2 : Word) : Group :=
  { v := [(1, [a, a]), (2, [b, b]), (3, [c, c])], s := [(1, s1), (2, s2)], m := [(0, 3), (1, 1)] }

end Sys2Proof.Tests
end

