-- ==== Sys2Proof/Tests/Core.lean ====
section
/-! SUPPORT. Core instructions: one step of each on the small state of the fixture. Expected values are worked out by hand
from the tables of 05, 06 and 08. -/

set_option Elab.async false

namespace Sys2Proof.Tests

open Sys2Proof Sys2Proof.Machine

/-- v4 in lanes 0, 1 and 2 after a VV word that writes v4 from v1, v2, v3. -/
def vvLanes (f : CoreAt → Rest → Instr) (low : Nat) (a b c : Lane) (vc : Nat := 0) : Option (Lane × Lane × Lane × Word) :=
  grp (f c0 (vv 4 1 2 vc low)) (g3 a b c 0 0) fun h => (h.lane 4 0, h.lane 4 1, h.lane 4 2, h.pc)
/-- v4 in lanes 0 and 2 after a VS word that writes v4 from v1 and an immediate. -/
def vsLanes (f : CoreAt → Rest → Instr) (ty : Nat) (a : Lane) (imm : Nat) : Option (Lane × Lane) :=
  grp (f c0 (vs 4 1 ty 1 imm)) (g3 a 0 0 0 0) fun h => (h.lane 4 0, h.lane 4 2)
/-- s3 and the PC after a scalar word that writes s3 from s1 and s2. -/
def scal (f : CoreAt → Rest → Instr) (a b : Word) : Option (Word × Word) :=
  grp (f c0 (vs 3 1 0 0 2)) (g3 0 0 0 a b) fun h => (h.sreg 3, h.pc)

/-! Vector–vector operations (06 R137): inactive lane 2 keeps its 0; the PC advances by 8. -/

theorem test_vadd_wraps : vvLanes .vadd 0 0xFFFFFFFF 2 0 = some (1, 1, 0, 8) := by decide
theorem test_vadd_saturates : vvLanes .vadd 0x110000 0x7FFFFFFF 2 0 = some (0x7FFFFFFF, 0x7FFFFFFF, 0, 8) := by decide
theorem test_vsub : vvLanes .vsub 0 2 5 0 = some (0xFFFFFFFD, 0xFFFFFFFD, 0, 8) := by decide
theorem test_vsub_saturates : vvLanes .vsub 0x10000 2 5 0 = some (0, 0, 0, 8) := by decide
theorem test_vmul : vvLanes .vmul 0 0x10001 0x10003 0 = some (0x40003, 0x40003, 0, 8) := by decide
/-- 1.5 × −2 = −3 in FP32. -/
theorem test_vmul_f32 : vvLanes .vmul 0x200000 0x3FC00000 0xC0000000 0 = some (0xC0400000, 0xC0400000, 0, 8) := by decide
theorem test_vfma : vvLanes .vfma 0 3 4 5 3 = some (17, 17, 0, 8) := by decide
/-- −(1 × 2) + 3 = 1 with NEG_A in FP32. -/
theorem test_vfma_neg : vvLanes .vfma 0x220000 0x3F800000 0x40000000 0x40400000 3 = some (0x3F800000, 0x3F800000, 0, 8) := by
  decide
theorem test_vmin_signed : vvLanes .vmin 0x100000 0xFFFFFFFF 1 0 = some (0xFFFFFFFF, 0xFFFFFFFF, 0, 8) := by decide
/-- With one NaN the other operand. -/
theorem test_vmax_nan : vvLanes .vmax 0x200000 0x7FC00000 0x3F800000 0 = some (0x3F800000, 0x3F800000, 0, 8) := by decide
theorem test_vmax_unsigned : vvLanes .vmax 0 0xFFFFFFFF 1 0 = some (0xFFFFFFFF, 0xFFFFFFFF, 0, 8) := by decide
theorem test_vand : vvLanes .vand 0 0xC 0xA 0 = some (8, 8, 0, 8) := by decide
theorem test_vor : vvLanes .vor 0 0xC 0xA 0 = some (0xE, 0xE, 0, 8) := by decide
theorem test_vxor : vvLanes .vxor 0 0xC 0xA 0 = some (6, 6, 0, 8) := by decide
/-- The count is b[4:0]. -/
theorem test_vshl : vvLanes .vshl 0 3 33 0 = some (6, 6, 0, 8) := by decide
theorem test_vshr : vvLanes .vshr 0 0x80000000 4 0 = some (0x08000000, 0x08000000, 0, 8) := by decide
theorem test_vshr_signed : vvLanes .vshr 0x100000 0x80000000 4 0 = some (0xF8000000, 0xF8000000, 0, 8) := by decide
/-- m1 holds lane 0 alone. -/
theorem test_vsel : vvLanes .vsel 0 7 9 0 1 = some (7, 9, 0, 8) := by decide
/-- Lane b mod g = lane 2, which reads 0 though it is inactive. -/
theorem test_vshfl : vvLanes .vshfl 0 7 66 0 = some (0, 0, 0, 8) := by decide
theorem test_vcmp_lt : grp (.vcmp c0 (vv 2 1 2 0 0x102000)) (g3 0xFFFFFFFF 0 0 0 0) (·.mreg 2) = some 3 := by decide
/-- 2^−1 = 0.5; 1/√4 = 0.5; 2^3 = 8; log₂ 8 = 3. -/
theorem test_vrcp : grp (.vrcp c0 (vv 4 1 0 0 0x200000)) (g3 0x40000000 0 0 0 0) (·.lane 4 0) = some 0x3F000000 := by
  decide +kernel
theorem test_vrcp_negative_zero :
    grp (.vrcp c0 (vv 4 1 0 0 0x200000)) (g3 0x80000000 0 0 0 0) (·.lane 4 0) = some 0xFF800000 := by decide +kernel
theorem test_vrsqrt : grp (.vrsqrt c0 (vv 4 1 0 0 0x200000)) (g3 0x40800000 0 0 0 0) (·.lane 4 0) = some 0x3F000000 := by
  decide +kernel
theorem test_vexp2 : grp (.vexp2 c0 (vv 4 1 0 0 0x200000)) (g3 0x40400000 0 0 0 0) (·.lane 4 0) = some 0x41000000 := by
  decide +kernel
theorem test_vlog2 : grp (.vlog2 c0 (vv 4 1 0 0 0x200000)) (g3 0x41000000 0 0 0 0) (·.lane 4 0) = some 0x40400000 := by
  decide +kernel

/-! Vector–scalar operations (06 R141). -/

theorem test_vaddS : vsLanes .vaddS 0 3 0xFFFFFFFF = some (2, 0) := by decide
theorem test_vsubS : vsLanes .vsubS 0 3 4 = some (0xFFFFFFFF, 0) := by decide
theorem test_vmulS : vsLanes .vmulS 0 3 4 = some (12, 0) := by decide
/-- c is the prior value of VD: here VD is v3. -/
theorem test_vfmaS : grp (.vfmaS c0 (vs 3 1 0 1 4)) (g3 3 0 100 0 0) (fun h => (h.lane 3 0, h.lane 3 2)) = some (112, 0) := by
  decide
theorem test_vminS : vsLanes .vminS 1 0xFFFFFFFF 1 = some (0xFFFFFFFF, 0) := by decide
theorem test_vmaxS : vsLanes .vmaxS 1 0xFFFFFFFF 1 = some (1, 0) := by decide
theorem test_vandS : vsLanes .vandS 0 0xC 0xA = some (8, 0) := by decide
theorem test_vorS : vsLanes .vorS 0 0xC 0xA = some (0xE, 0) := by decide
theorem test_vxorS : vsLanes .vxorS 0 0xC 0xA = some (6, 0) := by decide
theorem test_vshlS : vsLanes .vshlS 0 3 33 = some (6, 0) := by decide
theorem test_vshrS : vsLanes .vshrS 1 0x80000000 31 = some (0xFFFFFFFF, 0) := by decide
/-- K = 0: the low 32 bits of s1. -/
theorem test_vmov : grp (.vmov c0 (vs 4 0 0 0 1)) (g3 0 0 0 0x1234567800000009 0) (fun h => (h.lane 4 0, h.lane 4 2)) =
    some (9, 0) := by decide
theorem test_vext : grp (.vext c0 (vs 5 1 0 1 1)) (g3 0xFFFFFFFF 0 0 0 0) (·.sreg 5) = some 0xFFFFFFFF := by decide
theorem test_vlid : grp (.vlid c0 (vs 4 0 0 0 0)) (g3 0 0 0 0 0) (fun h => (h.lane 4 0, h.lane 4 1, h.lane 4 2)) =
    some (0, 1, 0) := by decide

/-! Scalar operations (06 R141). -/

theorem test_sadd : scal .sadd 0xFFFFFFFFFFFFFFFF 2 = some (1, 8) := by decide
theorem test_ssub : scal .ssub 1 2 = some (0xFFFFFFFFFFFFFFFF, 8) := by decide
theorem test_smul : scal .smul 0x100000001 0x100000001 = some (0x200000001, 8) := by decide
theorem test_sand : scal .sand 0xC 0xA = some (8, 8) := by decide
theorem test_sor : scal .sor 0xC 0xA = some (0xE, 8) := by decide
theorem test_sxor : scal .sxor 0xC 0xA = some (6, 8) := by decide
theorem test_sshl : scal .sshl 1 65 = some (2, 8) := by decide
theorem test_sshr : scal .sshr 0x8000000000000000 63 = some (1, 8) := by decide
theorem test_ssra : scal .ssra 0x8000000000000000 63 = some (0xFFFFFFFFFFFFFFFF, 8) := by decide
theorem test_smin : scal .smin 0xFFFFFFFFFFFFFFFF 1 = some (0xFFFFFFFFFFFFFFFF, 8) := by decide
theorem test_smax : scal .smax 0xFFFFFFFFFFFFFFFF 1 = some (1, 8) := by decide
theorem test_sslt : scal .sslt 0xFFFFFFFFFFFFFFFF 1 = some (1, 8) := by decide
theorem test_ssltu : scal .ssltu 0xFFFFFFFFFFFFFFFF 1 = some (0, 8) := by decide
/-- An immediate is sign-extended. -/
theorem test_smov : grp (.smov c0 (vs 3 0 0 1 0x80000000)) (g3 0 0 0 0 0) (·.sreg 3) = some 0xFFFFFFFF80000000 := by decide
theorem test_sorhi : grp (.sorhi c0 (vs 3 1 0 1 0x80000001)) (g3 0 0 0 5 0) (·.sreg 3) = some 0x8000000100000005 := by decide

/-! Branches and masks (05 R115, 06 R146 to R148). -/

def pcOf (i : Instr) (g : Group) : Option Word := grp i g (·.pc)
/-- m0, the depth of the mask stack, the top REST and the PC. -/
def mask (i : Instr) (g : Group) : Option (Word × Nat × Word × Word) :=
  grp i g fun h => (h.mreg 0, h.stack.length, (h.stack.head?.getD ⟨0, 0, 0⟩).rest, h.pc)

/-- OFFSET 0xFFFFFF is −1: the word before. -/
theorem test_br : pcOf (.br c0 (bb 0 0 0 0 0xFFFFFF)) { g3 0 0 0 0 0 with pc := 16 } = some 8 := by decide
theorem test_brm_any : pcOf (.brmAny c0 (bb 0 1 0 0 4)) (g3 0 0 0 0 0) = some 32 := by decide
/-- m0 & m1 is lane 0 alone, and m0 holds lanes 0 and 1. -/
theorem test_brm_all : pcOf (.brmAll c0 (BitVec.ofNat 56 (1 * 2 ^ 50 + 2 ^ 46 + 4))) (g3 0 0 0 0 0) = some 8 := by decide
theorem test_bz : pcOf (.bz c0 (bb 0 0 0 1 4)) (g3 0 0 0 0 0) = some 32 := by decide
theorem test_bnz : pcOf (.bnz c0 (bb 0 0 0 1 4)) (g3 0 0 0 0 0) = some 8 := by decide
theorem test_call : grp (.call c0 (bb 0 0 0 1 4)) { g3 0 0 0 0 0 with pc := 16 } (fun h => (h.sreg 1, h.pc)) = some (24, 48) := by
  decide
theorem test_jr : pcOf (.jr c0 (bb 0 0 0 1 0)) (g3 0 0 0 0x40 0) = some 0x40 := by decide
/-- A target off 8 bytes faults, with cause 5. -/
theorem test_jr_misaligned : after (.jr c0 (bb 0 0 0 1 0)) (coreState (g3 0 0 0 0x44 0)) (fun t => (t.core 0).cause) = some 5 := by
  decide
theorem test_mif : mask (.mif c0 (bb 0 1 0 0 4)) (g3 0 0 0 0 0) = some (1, 1, 2, 8) := by decide
theorem test_melse : mask (.melse c0 (bb 0 0 0 0 4)) { g3 0 0 0 0 0 with stack := [⟨3, 2, 0⟩], m := [(0, 1)] } =
    some (2, 1, 0, 8) := by decide
theorem test_mjoin : mask (.mjoin c0 0) { g3 0 0 0 0 0 with stack := [⟨3, 0, 0⟩], m := [(0, 1)] } = some (3, 0, 0, 8) := by decide
theorem test_mloop : mask (.mloop c0 (bb 0 0 0 0 4)) (g3 0 0 0 0 0) = some (3, 1, 0, 8) := by decide
theorem test_mbrk : mask (.mbrk c0 (bb 0 1 0 0 0)) { g3 0 0 0 0 0 with stack := [⟨3, 0, 32⟩] } = some (2, 1, 0, 8) := by decide
theorem test_mskip : mask (.mskip c0 (bb 0 1 0 0 0)) { g3 0 0 0 0 0 with stack := [⟨3, 0, 32⟩] } = some (2, 1, 1, 8) := by decide
theorem test_mresume : mask (.mresume c0 0) { g3 0 0 0 0 0 with stack := [⟨3, 1, 32⟩], m := [(0, 2)] } = some (3, 1, 0, 8) := by
  decide
/-- m2 = mask function of m0 = 3 and m1 = 1. -/
def mlog2 (f : CoreAt → Rest → Instr) (mfn : Nat) (s1 : Word := 0) : Option Word :=
  grp (f c0 (bb 2 0 1 (if mfn = 6 then 1 else 0) (mfn * 2 ^ 24))) (g3 0 0 0 s1 0) (·.mreg 2)
theorem test_mand : mlog2 .mand 0 = some 1 := by decide
theorem test_mor : mlog2 .mor 1 = some 3 := by decide
theorem test_mxor : mlog2 .mxor 2 = some 2 := by decide
theorem test_mandn : mlog2 .mandn 3 = some 2 := by decide
/-- Limited to the group width, here 32. -/
theorem test_mnot : grp (.mnot c0 (bb 2 1 0 0 0x4000000)) { g3 0 0 0 0 0 with width := 32 } (·.mreg 2) = some 0xFFFFFFFE := by
  decide
theorem test_mmov : grp (.mmov c0 (bb 2 1 0 0 0x5000000)) (g3 0 0 0 0 0) (·.mreg 2) = some 1 := by decide
theorem test_ms2m : grp (.ms2m c0 (bb 2 0 0 1 0x6000000)) { g3 0 0 0 0xF00000005 0 with width := 32 } (·.mreg 2) = some 5 := by
  decide
theorem test_mm2s : grp (.mm2s c0 (bb 0 1 0 3 0x7000000)) (g3 0 0 0 0 0) (·.sreg 3) = some 1 := by decide

/-! Conversions (06 R149, 08). -/

/-- FP32 −1.5 and 1.0 in v2 and v3 to BF16 0xBFC0 and 0x3F80 in v4; the running maximum takes 1.5. -/
theorem test_cvt : grp (.cvt c0 (cc 4 2 0 0x01800000)) (g3 0 0xBFC00000 0x3F800000 0 0)
    (fun h => (h.lane 4 0, h.lane 4 2, h.amax)) = some (0x3F80BFC0, 0, 0x3FC00000) := by decide +kernel
theorem test_amaxr : grp (.amaxr c0 (cc 0 0 0 (5 * 2 ^ 14 + 2 ^ 13))) { g3 0 0 0 0 0 with amax := 0x3F800000 }
    (fun h => (h.sreg 5, h.amax)) = some (0x3F800000, 0) := by decide

/-! Loads, stores and atomics (05 R124 to R128, 06 R143, R144). -/

/-- A byte of the first page. -/
def b0 (t : State) (a : Nat) : Nat := (t.byte (0x10000000 + a)).toNat
/-- The fixture with four bytes at BVA 0x100. -/
def mem4 (g : Group) : State := { coreState g with mem := [(0x10000100, 0x78), (0x10000101, 0x56), (0x10000102, 0x34), (0x10000103, 0x92)] }

/-- One byte a lane from s1 + t, sign-extended. -/
theorem test_vld : after (.vld c0 (mm 4 0 0 1 0x10000)) (mem4 (g3 0 0 0 0x102 0))
    (fun t => (t.groupAt c0).map fun h => (h.lane 4 0, h.lane 4 1, h.pc)) = some (some (0x34, 0xFFFFFF92, 8)) := by decide +kernel
theorem test_vst : after (.vst c0 (mm 0 0 2 1 0x400000)) (coreState (g3 0 0xABCD 0 0x100 0))
    (fun t => (b0 t 0x100, b0 t 0x101, b0 t 0x102, b0 t 0x103, b0 t 0x104)) = some (0xCD, 0xAB, 0xCD, 0xAB, 0) := by decide +kernel
theorem test_sld : after (.sld c0 (mm 3 0 0 1 0x800000)) (mem4 (g3 0 0 0 0x100 0))
    (fun t => (t.groupAt c0).map fun h => (h.sreg 3, h.pc)) = some (some (0x92345678, 8)) := by decide +kernel
theorem test_sst : after (.sst c0 (mm 0 0 2 1 0x400004)) (coreState (g3 0 0 0 0x100 0xABCDEF))
    (fun t => (b0 t 0x104, b0 t 0x105, b0 t 0x106)) = some (0xEF, 0xCD, 0) := by decide +kernel
/-- Off its size an access faults with cause 5, and memory keeps its bytes. -/
theorem test_sst_misaligned : after (.sst c0 (mm 0 0 2 1 0x400001)) (coreState (g3 0 0 0 0x100 0xABCD))
    (fun t => ((t.core 0).cause, t.mem.isEmpty)) = some (5, true) := by decide +kernel
/-- Both active lanes act on the word at s1, one after the other; v4 receives what each found. -/
def atomLanes (f : CoreAt → Rest → Instr) (vb : Nat) (low : Nat) (a b c : Lane) : Option (Nat × Option (Lane × Lane)) :=
  after (f c0 (mm 4 5 vb 1 (0x1000000 + 0x800000 + 0x8000 + low))) (mem4 (g3 a b c 0x100 0))
    fun t => (b0 t 0x100 + 256 * (b0 t 0x101 + 256 * (b0 t 0x102 + 256 * b0 t 0x103)),
      (t.groupAt c0).map fun h => (h.lane 4 0, h.lane 4 1))
theorem test_atom_add : atomLanes .atomAdd 1 0x180000 1 0 0 = some (0x9234567A, some (0x92345678, 0x92345679)) := by
  decide +kernel
/-- The compare value is v2, the new one v3. -/
theorem test_atom_cas : atomLanes .atomCas 2 0x180000 0 0x92345678 7 = some (7, some (0x92345678, 7)) := by decide +kernel
theorem test_atom_min : atomLanes .atomMin 1 0x190000 1 0 0 = some (0x92345678, some (0x92345678, 0x92345678)) := by
  decide +kernel
theorem test_atom_max : atomLanes .atomMax 1 0x190000 1 0 0 = some (1, some (0x92345678, 1)) := by decide +kernel
theorem test_atom_and : atomLanes .atomAnd 1 0x180000 0xFF 0 0 = some (0x78, some (0x92345678, 0x78)) := by decide +kernel
theorem test_atom_or : atomLanes .atomOr 1 0x180000 7 0 0 = some (0x9234567F, some (0x92345678, 0x9234567F)) := by
  decide +kernel
theorem test_atom_xor : atomLanes .atomXor 1 0x180000 0xFF 0 0 = some (0x92345678, some (0x92345678, 0x92345687)) := by
  decide +kernel
theorem test_atom_exch : atomLanes .atomExch 1 0x180000 5 0 0 = some (5, some (0x92345678, 5)) := by decide +kernel
/-- 1.0 twice onto +0 gives 2.0. -/
theorem test_atom_fadd : after (.atomFadd c0 (mm 4 5 1 1 (0x1000000 + 0x800000 + 0x8000 + 0x180000)))
    (coreState (g3 0x3F800000 0 0 0x100 0)) (fun t => (b0 t 0x102, b0 t 0x103)) = some (0, 0x40) := by decide +kernel

/-! Matrix commands (05 R121 to R123, 07): a command takes its token slot. -/

theorem test_mclr : after (.mclr c0 (xx 1 0 0 0 0)) (coreState (g3 0 0 0 0 0))
    (fun t => ((t.core 0).work.mq.length, (t.groupAt c0).map (·.pc))) = some (1, some 8) := by decide +kernel
/-- The 16 × 16 tile of K = 32, one unit of 64 bytes a row; a pitch of 0 faults with cause 1. -/
def mmaRegs (pitch : Nat) : Group :=
  { g3 0 0 0 0 0 with s := [(4, BitVec.ofNat 64 (pitch * 2 ^ 48 + 0xFFFFFFA00000)), (5, BitVec.ofNat 64 (2 ^ 48 + 0xFFFFFFA00000)), (6, 32)] }
/-- The fixture with one scratch bank for the context's program. -/
def withScratch (s : State) : State :=
  { s with ctxs := [(0, some ctxP)] }
theorem test_mma : after (.mma c0 (xx 10 4 5 6 0x11000080)) (withScratch (coreState (mmaRegs 1)))
    (fun t => ((t.core 0).work.mq.length, (t.groupAt c0).map (·.pc))) = some (1, some 8) := by decide +kernel
theorem test_mma_pitch : after (.mma c0 (xx 10 4 5 6 0x11000080)) (withScratch (coreState (mmaRegs 0)))
    (fun t => ((t.core 0).cause, (t.core 0).work.mq.length)) = some (1, 0) := by decide +kernel

/-! System instructions (06 R151 to R153). -/

theorem test_nop : pcOf (.nop c0 0) (g3 0 0 0 0 0) = some 8 := by decide
/-- All lanes of the only group of the only block: the core has no group and no block any more. -/
theorem test_exit : after (.exitLanes c0 0) (coreState (g3 0 0 0 0 0))
    (fun t => ((t.groupAt c0).isSome, (t.core 0).work.blocks.isEmpty)) = some (false, true) := by decide +kernel
/-- A group that is its block's only one releases the barrier it arrives at. -/
theorem test_bar_sync : pcOf (.barSync c0 (ss 0 0 0 1)) (g3 0 0 0 0 0) = some 8 := by decide +kernel
theorem test_bar_arrive : pcOf (.barArrive c0 (ss 0 0 0 1)) (g3 0 0 0 0 0) = some 8 := by decide +kernel
theorem test_fence_acq_rel : pcOf (.fenceAcqRel c0 (ss 0 0 0 4)) (g3 0 0 0 0 0) = some 8 := by decide +kernel
theorem test_fence_acquire : pcOf (.fenceAcquire c0 (ss 0 0 0 0xC)) (g3 0 0 0 0 0) = some 8 := by decide +kernel
theorem test_fence_release : pcOf (.fenceRelease c0 (ss 0 0 0 0x14)) (g3 0 0 0 0 0) = some 8 := by decide +kernel
/-- Vector 8 of berth 1 becomes pending, with count 1. -/
theorem test_evt : after (.evt c0 (ss 0 0 0 8)) (coreState (g3 0 0 0 0 0))
    (fun t => ((t.berth 1).evtPend, tget 0 (t.berth 1).evtCount 8)) = some (0x100, 1) := by decide +kernel
/-- Selector 5 is the group width. -/
theorem test_srd : grp (.srd c0 (ss 3 0 0 5)) (g3 0 0 0 0 0) (·.sreg 3) = some 64 := by decide +kernel
theorem test_crange_prefetch : pcOf (.crangePrefetch c0 (ss 0 1 2 0)) (g3 0 0 0 0x100 0x80) = some 8 := by decide +kernel
theorem test_crange_flush : pcOf (.crangeFlush c0 (ss 0 1 2 1)) (g3 0 0 0 0x100 0x80) = some 8 := by decide +kernel
theorem test_crange_invalidate : pcOf (.crangeInvalidate c0 (ss 0 1 2 2)) (g3 0 0 0 0x100 0x80) = some 8 := by decide +kernel
/-- The word of zeros is illegal, and a PC off the map cannot be fetched: causes 1 and 6. -/
theorem test_illegal_encoding : after (.illegalEncoding c0 0) (coreState (g3 0 0 0 0 0)) (fun t => (t.core 0).cause) = some 1 := by
  decide +kernel
theorem test_fetch_fault : after (.instructionFetchFault c0) (coreState { g3 0 0 0 0 0 with pc := 0x10000 })
    (fun t => (t.core 0).cause) = some 6 := by decide +kernel

end Sys2Proof.Tests
end

