-- ==== Sys2Proof/Tests/Examples.lean ====
section
/-! SUPPORT. The worked examples of the spec: every expected value stands in the example's own table. -/

set_option Elab.async false

namespace Sys2Proof.Tests

open Sys2Proof Sys2Proof.Machine

/-- 00 "locating three blocks": the HBM controller of stack 1 of MD2, core slot 37 of CD5, optical port 45. -/
theorem test_example_blocks : locate 0x12 0x380000 = some (.hbm 1, 0) ∧ locate 5 0x294000 = some (.cor 37, 0) ∧
    locate 0x21 0x31A000 = some (.xpt 13, 0) ∧ csSplit 0xF00012380000 = (0x12, 0x380000) := by decide

/-- 01 "following one address": pseudo-channel with h = 0x0DE, its offset, and slice position 182. -/
theorem test_example_address : hashPc 0x001234567A00 = 0x0DE ∧ State.pcOf {} 0x001234567A00 = (0x0DE, 0x091A2B00) ∧
    slicePos 0x001234567A00 = 182 ∧ hashPc 0x001234567B00 % 4 = 3 := by decide +kernel

/-- 12 "one pseudo-channel lost on MD1": stack 3, local pseudo-channel 52 is map-out bit 52. -/
def lostOne : State := { hbm := [(3, { mapout := 0x10000000000000 })] }
theorem test_example_map_out : lostOne.pcMapped 0x0D5 = true ∧ hashPc 0x07D13C00 = 0x0D5 ∧
    lostOne.pcOf 0x07D13C00 = (449, 0x2FA00700) ∧ slicePos 0x07D13C00 = 217 := by decide +kernel

/-- 10 "three berths pin into one set": sets 1,110 and 1,111. -/
theorem test_example_sets : setOf 0x001234567A00 = 1110 ∧ setOf 0x001234567A80 = 1111 := by decide

/-- 05 "coalescing integer and FP32 adds": lanes 1 to 5 and 7 of a width-32 group add to A at 0x100 and B at 0x108. -/
def coalesce : Group :=
  { width := 32, m := [(0, 0xBE)], s := [(1, 0x100)], v := [(5, [0, 0, 0, 8, 8, 0, 0, 8]), (1, [0, 1, 2, 10, 10, 3, 0, 10])] }
theorem test_example_coalescing :
    after (.atomAdd c0 (mm 4 5 1 1 (0x1000000 + 0x800000 + 0x180000 + 0x8000)))
      { coreState coalesce with mem := [(0x10000100, 100)] }
      (fun t => ((t.byte 0x10000100).toNat, (t.byte 0x10000108).toNat,
        (t.groupAt c0).map fun h => [1, 2, 3, 4, 5, 7].map (h.lane 4))) =
      some (106, 30, some [100, 101, 0, 10, 103, 20]) := by decide +kernel

/-- 06 "encoding and checking five words": the words are legal, and the variants are not; opcode and fields. -/
theorem test_example_words : legalWord 64 0x0105030400200000 = true ∧ legalWord 64 0x700807000A800040 = true ∧
    legalWord 64 0x8808000000000005 = true ∧ legalWord 64 0x7809060A12988000 = true ∧ legalWord 64 0xB50000000000000C = true ∧
    legalWord 64 0x0105030400200001 = false ∧ legalWord 64 0x700907000AC00040 = false ∧
    legalWord 64 0x700807000AC00040 = true ∧ legalWord 64 0xB500000000000005 = false ∧ legalWord 64 0 = false := by decide
/-- The same words as this file spells them. -/
theorem test_example_fields : wordOf 0x01 (vv 5 3 4 0 0x200000) = 0x0105030400200000 ∧
    wordOf 0x70 (mm 8 7 0 2 0x2800040) = 0x700807000A800040 ∧ wordOf 0x88 (bb 0 2 0 0 5) = 0x8808000000000005 ∧
    wordOf 0x78 (mm 9 6 10 4 0x2988000) = 0x7809060A12988000 ∧ wordOf 0xB5 (ss 0 0 0 12) = 0xB50000000000000C ∧
    wordOf 0xA0 (xx 10 4 5 6 0x110002AA) = 0xA0284146110002AA := by decide

/-- 07 "one element, three group sizes". -/
def rowA (_ : Nat) : Machine.Num := bf16.decode 0x3F80
def rowB (k : Nat) : Machine.Num := bf16.decode (if k = 0 then 0x4B80 else if k ≤ 5 then 0x3F80 else 0)
theorem test_example_mma : mmaFloat 0 32 4 rowA rowB = 0x4B800003 ∧ mmaFloat 0 32 8 rowA rowB = 0x4B800002 ∧
    mmaFloat 0 32 16 rowA rowB = 0x4B800002 := by decide +kernel

/-- 07 "top-k over one row" in the order that R180 ranks, with the columns: the first six. -/
def topRow : List (Machine.Num × Nat) :=
  [0x3F00, 0x4040, 0xBF80, 0x4040, 0x7FC0, 0x40E8, 0, 0x8000, 0x4000, 0x4040, 0xFF80, 0x3F80, 0x40E8, 0x3E80, 0xC000,
    0x4080].zipIdx.map fun p => (bf16.decode p.1, p.2)
theorem test_example_topk : ((topRow.insertionSort fun a b => ranksBefore a b).map Prod.snd).take 6 = [5, 12, 15, 1, 3, 9] ∧
    ((topRow.insertionSort fun a b => ranksBefore a b).map Prod.snd).getLast? = some 4 := by decide +kernel

/-- 20 "a crumb of a top-k row": SUM, MIN, MAX, NAN and INF of 7.25, 7.25, 4.0, 3.0 and 3.0. -/
theorem test_example_crumb : crumbFloat ([0x40E8, 0x40E8, 0x4080, 0x4040, 0x4040].map bf16.decode) =
    (0x4038800000000000, 0x40400000, 0x40E80000, 0, 0) := by decide +kernel

/-- 08 "a block of MXFP8 E4M3". -/
theorem test_example_mx : cvtLane 0 5 .near true 0x80 [0x447A0000, 0x40466666, 0xBC000000, 0x3F400000] = [0x2C803C7E] ∧
    (cvtLane 0 5 .near false 0x80 [0x447A0000, 0, 0, 0]).map (fun l => l.toNat % 256) = [0x7F] := by decide +kernel

/-- 14 "ranked sets with repeated keys": key and payload, the payloads of A from 0xA0 and those of B from 0xB0. -/
def pairs (base : Nat) (ks : List Nat) : List (List Byte) := ks.zipIdx.map fun p => bytesOf 4 p.1 ++ bytesOf 4 (base + p.2)
def sets (op : Nat) : List Nat :=
  (zipRanked op (elemBefore 0 false) 100 (pairs 0xA0 [2, 5, 5, 5, 9, 12]) (pairs 0xB0 [1, 5, 5, 9, 9, 15]) []).1.map
    fun e => bf e 4 4
theorem test_example_sets_ranked :
    sets 2 = [0xB0, 0xA0, 0xA1, 0xA2, 0xA3, 0xB1, 0xB2, 0xA4, 0xB3, 0xB4, 0xA5, 0xB5] ∧ sets 3 = [0xA1, 0xA2, 0xA4] ∧
    sets 4 = [0xB0, 0xA0, 0xA1, 0xA2, 0xA3, 0xA4, 0xB4, 0xA5, 0xB5] := by decide +kernel

/-- 13 "a step that defers one join": a store of 170 frames of which 60 hold trays; session 10 has 96 reserved. -/
def member (reserved : Bool) (len trays left : Nat) (from_ : Nat) : Sess :=
  { state := 2, berth := 17, reserved := reserved, len := len, maxTokens := 4096, tpt := 128, streams := 4, resvLeft := left,
    rack := (List.range trays).map (from_ + ·) }
def stepState : State :=
  { berths := [(17, { state := 2 })],
    stores := [(17, { frames := (List.range 170).map fun f => (f, some { used := decide (f < 60) }) })],
    sessions := [(10, member true 1023 32 96 0), (11, member false 255 8 0 32), (12, member false 128 4 0 40),
      (13, member false 500 16 0 44), (20, { state := 1, berth := 17, maxTokens := 4096, tpt := 128, streams := 4 }),
      (21, { state := 1, berth := 17, maxTokens := 4096, tpt := 128, streams := 4 })] }
theorem test_example_step : (let r := stepState.stepRun 17 0 2 [12] [600 * 2 ^ 32 + 20, 100 * 2 ^ 32 + 21]
    (r.2.1.served, r.2.1.deferred, r.2.1.stalled, r.1.members 17 0, r.2.2, r.1.freeFrames 17, (r.1.sess 10).resvLeft)) =
    (1, 1, 0, [10, 11, 13, 21], [0x07, 0x00], 10, 92) := by decide +kernel

/-- 18 "two caps over one load": fractions of bulk, standard and assured, in sixty-fourths. -/
theorem test_example_caps :
    fractions 2750 [300, 600, 700] [300 * bubbleScale, 600 * bubbleScale, 700 * bubbleScale] 2400 = (64, 6, 0, false) ∧
    fractions 2750 [300, 600, 700] [300 * bubbleScale, 600 * bubbleScale, 700 * bubbleScale] 1800 = (64, 64, 5, false) := by
  decide +kernel

/-- 03 "a heartbeat lost during a drain": TIMEOUT 500 and L = 3,000,000. -/
def hbAt (t : Nat) : State :=
  { rst := up, tick := t, berths := [(200, { state := 3, grant := { timeout := 500 }, lastHb := 3000000, refTick := 3000000 })] }
theorem test_example_heartbeat : after (.heartbeatTimeout 200) (hbAt 3500000) (fun t => (t.berth 200).state) = some 3 ∧
    after (.heartbeatTimeout 200) (hbAt 3500001) (fun t => ((t.berth 200).state, (t.berth 200).disableRec)) =
      some (5, true) := by decide +kernel

end Sys2Proof.Tests
end

