-- ==== Sys2Proof/WellFormed.lean ====
section
/-! DEFINITION. Well-formed commands: every number names something that the device has (01 R15; 10 R230; 16 R341; 21
R466). A command that is not well-formed has a meaning too: it changes nothing that it does not name. -/

namespace Sys2Proof

open Sys2Proof.Machine

/-- A core slot and a group slot. -/
def Machine.CoreAt.ok (c : CoreAt) : Bool := decide (c.core < 864 ∧ c.grp < 32)

/-- The code of a die (01 R14). -/
def dieCode (d : Nat) : Bool := decide (d < 8 ∨ (0x10 ≤ d ∧ d < 0x14) ∨ d = 0x20 ∨ d = 0x21)

/-- A packet: an interface, a source address and port, a 4-byte session number and an 8-byte SEQ (16 R341). -/
def Machine.Packet.ok (p : Packet) : Bool :=
  decide (p.iface < 128 ∧ p.ver < 256 ∧ p.conn < 2 ^ 32 ∧ p.seq < 2 ^ 64)

/-- A flit: 24-bit sequence numbers (15 R325). -/
def Machine.FlitIn.ok (f : FlitIn) : Bool := decide (f.ty < 256 ∧ f.seq < 2 ^ 24 ∧ f.ack < 2 ^ 24)

/-- A mailbox request: a 4-byte TAG, and a body of at most 4,080 bytes (21 R466). -/
def Machine.MbxReq.ok (r : MbxReq) : Bool := decide (r.tag < 2 ^ 32 ∧ r.body.length ≤ 4080)

/-- A coherence request: a requester, a line, and an operand within the line (10 R230, R234). -/
def Machine.CohReq.ok (r : CohReq) : Bool :=
  decide ((r.who < 162 ∨ (200 ≤ r.who ∧ r.who < 968) ∨ (1000 ≤ r.who ∧ r.who < 1064)) ∧ r.line < 2 ^ 41 ∧ r.off + r.bytes ≤ 128)

/-- Where a register access goes. -/
def Machine.RegAt.ok (r : RegAt) : Bool :=
  match r with
  | .dpa die addr bytes => dieCode die && decide (addr < 2 ^ 48 ∧ 1 ≤ bytes ∧ bytes ≤ 8)
  | .bar off => decide (off < 16384)

/-- Every number of a command names something that the device has. -/
def wellFormed (i : Instr) : Bool :=
  match i with
  | .vadd c _ | .vsub c _ | .vmul c _ | .vfma c _ | .vmin c _ | .vmax c _ | .vand c _ | .vor c _ | .vxor c _ | .vshl c _
  | .vshr c _ | .vsel c _ | .vshfl c _ | .vcmp c _ | .vrcp c _ | .vrsqrt c _ | .vexp2 c _ | .vlog2 c _ | .vaddS c _ | .vsubS c _
  | .vmulS c _ | .vfmaS c _ | .vminS c _ | .vmaxS c _ | .vandS c _ | .vorS c _ | .vxorS c _ | .vshlS c _ | .vshrS c _ | .vmov c _
  | .vext c _ | .vlid c _ | .sadd c _ | .ssub c _ | .smul c _ | .sand c _ | .sor c _ | .sxor c _ | .sshl c _ | .sshr c _
  | .ssra c _ | .smin c _ | .smax c _ | .sslt c _ | .ssltu c _ | .smov c _ | .sorhi c _ | .vld c _ | .vst c _ | .sld c _
  | .sst c _ | .atomCas c _ | .atomAdd c _ | .atomFadd c _ | .atomMin c _ | .atomMax c _ | .atomAnd c _ | .atomOr c _
  | .atomXor c _ | .atomExch c _ | .br c _ | .brmAny c _ | .brmAll c _ | .bz c _ | .bnz c _ | .call c _ | .jr c _ | .mif c _
  | .melse c _ | .mjoin c _ | .mloop c _ | .mbrk c _ | .mskip c _ | .mresume c _ | .mand c _ | .mor c _ | .mxor c _ | .mandn c _
  | .mnot c _ | .mmov c _ | .ms2m c _ | .mm2s c _ | .cvt c _ | .amaxr c _ | .mma c _ | .mout c _ | .mclr c _ | .mtsum c _
  | .mwait c _ | .nop c _ | .exitLanes c _ | .barSync c _ | .barArrive c _ | .fenceAcqRel c _ | .fenceAcquire c _
  | .fenceRelease c _ | .evt c _ | .srd c _ | .crangePrefetch c _ | .crangeFlush c _ | .crangeInvalidate c _ | .matrixAccept c
  | .pin c | .unpin c | .seSubmit c _ | .resSend c | .resSendLast c | .crossClear c _ | .illegalEncoding c _
  | .instructionFetchFault c =>
    decide (c.ok)
  | .commitIntervalExpiry core | .blockResident core | .coreFailure core _ | .replayResume core | .resumeWithoutSpare core =>
    decide (core < 864)
  | .matrixStart core slot | .matrixComplete core slot =>
    decide (core < 864 ∧ slot < 32)
  | .launchEntry ctx | .quantumExpiry ctx | .contextSwitchOut ctx =>
    decide (ctx < 1024)
  | .streamStart c slot | .streamStop c slot | .credit c slot _ =>
    decide (c.ok ∧ slot < 16)
  | .wait c slot rd =>
    decide (c.ok ∧ slot < 16 ∧ rd < 64)
  | .streamEntryBegin core slot | .streamEntryComplete core slot _ | .followersArmed core slot =>
    decide (core < 864 ∧ slot < 16)
  | .pinResult c rd | .sesResult c rd | .sesRet c rd | .seWait c rd | .resWait c rd =>
    decide (c.ok ∧ rd < 64)
  | .storeAdd berth | .storeRemove berth | .policy berth | .openSession berth | .closeSession berth | .stepBatch berth
  | .lookup berth | .result berth | .enable berth | .disableDrain berth _ | .disableWithdraw berth | .destroy berth
  | .mapWrite berth _ _ _ | .mapClear berth _ _ _ | .drainComplete berth | .drainLimitExpiry berth | .withdrawComplete berth
  | .heartbeatTimeout berth | .berthResetComplete berth | .destroyComplete berth | .event berth =>
    decide (berth < 256)
  | .sort engine | .merge engine | .intersect engine | .union engine | .gather engine | .scatter engine | .nwalk engine
  | .segred engine | .topk engine | .hash engine | .descriptorSliceEnd engine | .descriptorComplete engine =>
    decide (engine < 32)
  | .create args =>
    decide (args.length = 6)
  | .berthBadOp op berth =>
    decide ((op = 0 ∨ (8 ≤ op ∧ op < 16)) ∧ berth < 256)
  | .heldCommandRelease | .headerDecision | .orderDispatch _ | .budgetExpiry _ | .completionReport _ | .interferenceIntervalEnd
  | .deviceHeartbeat | .btpResend _ _ | .sessionSilenceLoss _ | .parityError _ | .xd0Loss | .gainUpdate _ _ | .emergencyEntry _
  | .emergencyExit | .refclkLoss | .refclkReturn | .mftCmdSubmit | .mftValidationComplete _ | .mftFlashWriteComplete _
  | .lifecycle _ | .attest | .calWrite _ _ | .calRead | .debugToken _ | .idCert | .lmsTopReserve _ | .lowerTreeBuild
  | .pcieLinkDown | .rstCtlCold | .rstCtlReady | .bootWatchdogExpiry | .bootBegin _ | .jtagAllstop | .allstopBroadcast
  | .jtagBypass | .jtagIdcode | .jtagSamplePreload | .jtagExtest | .i3cStatusRead | .powerGood | .powerGoodLost | .resetInN _
  | .thermalTrip _ _ | .vddAonRemoval | .coolantEvaluation _ _ | .pcieLinkUp | .securityControllerFault =>
    true
  | .headerArrival port | .parkedResponse port | .share port _ | .finish port _ | .bringupRetry port
  | .darkPeriodEnd port | .heartbeatFlitSend port | .noFlitTimeout port | .lossOfLight port | .keyEpochChange port
  | .keyExchangeTimeout port | .crossRd port | .crossWr port | .crossAtm port | .crossRed port | .crossData port | .wack port
  | .arsp port | .crossFault port | .xptCtlReset port | .noLaneMarkerTimeout port | .lightDetected port | .badFlit port _ =>
    decide (port < 64)
  | .hello port digest => decide (port < 64 ∧ digest.length = 48)
  | .chain port _ identity => decide (port < 64 ∧ identity.length = 48)
  | .contextSwitchIn ctx cores =>
    decide (ctx < 1024 ∧ cores.all (· < 864))
  | .openReq pkt | .btpClose pkt | .ack pkt | .heartbeat pkt | .windowWrite pkt | .order pkt | .eventMask pkt | .ifxThreshold pkt
  | .install pkt | .remove pkt =>
    decide (pkt.ok)
  | .neighborDiscovery iface _ | .arp iface _ | .icmpv6Echo iface _ | .otherFrame iface _ | .interfaceLinkChange iface _ =>
    decide (iface < 128)
  | .laneMarker port ms =>
    decide (port < 64 ∧ ms.length = 8)
  | .dataFlit port f | .heartbeatFlit port f | .idleFlit port f | .nak port f =>
    decide (port < 64 ∧ f.ok)
  | .laserFault block | .laserInsert block =>
    decide (block < 16)
  | .cohRd req | .rdo req | .upg req | .own req | .wb req | .nrd req | .nwr req | .cohAtm req | .cohRed req =>
    decide (req.ok)
  | .fwdS line cluster | .fwdX line cluster | .inv line cluster =>
    decide (line < 2 ^ 41 ∧ cluster < 96)
  | .cohReply line | .pendingReductionPerform line | .memoryRequestComplete line _ _ =>
    decide (line < 2 ^ 41)
  | .nackReissue slice | .sliceFailure slice =>
    decide (slice < 256)
  | .flitToAsleepIsland cluster srcDie _ =>
    decide (cluster < 96 ∧ dieCode srcDie)
  | .islandWakeComplete cluster | .islandSleepEntry cluster =>
    decide (cluster < 96)
  | .halfClockDown halfIx =>
    decide (halfIx < 16)
  | .hbmFrameStart pc | .pseudoChannelFailure pc =>
    decide (pc < 512)
  | .lpxFrameStart pkg =>
    decide (pkg < 16)
  | .stackTemperatureSample stack _ | .stackRateStep stack =>
    decide (stack < 8)
  | .sliceClockThrottle md =>
    decide (md < 4)
  | .uncorrectableRead dpa _ =>
    decide (dpa < 2 ^ 48)
  | .selftestComplete cluster r =>
    decide (cluster < 96 ∧ r.failing.all (· < 9))
  | .gangwayLaneFailure die | .powerEstimate die _ | .monCtlStart die | .dbgCtlStop die | .scanOut die =>
    decide (dieCode die)
  | .bubbleUpdate shares =>
    decide (shares.length = 3)
  | .pwrCmdHalvesOff die | .pwrCmdHalvesOn die | .halvesOnComplete die | .pwrCmdSteward die | .dieResetComplete die =>
    decide (die < 8)
  | .pwr6CapWrite watts =>
    decide (watts < 65536)
  | .stwFreqWrite die step =>
    decide (die < 8 ∧ step < 32)
  | .stwStart die n _ =>
    decide (die < 8 ∧ n < 4)
  | .info r | .mftSubmit r | .mftQuery r | .berth r | .berthKey r | .berthQuery r | .exportEntry r | .setCap r | .margin r
  | .halves r | .steward r | .ifConfig r | .portReset r | .evtAck r | .monStart r | .regRead r | .selftest r | .sec r | .engage r
  | .allstop r | .imageWrite r _ | .prefer r | .coldReset r | .dieReset r | .moor r | .unmoor r =>
    decide (r.ok)
  | .rstCtlDie die =>
    decide (die < 256)
  | .rprSelftestStart die cluster =>
    decide (die < 8 ∧ cluster < 12)
  | .xptExportWrite port entry _ =>
    decide (port < 64 ∧ entry < 128)
  | .ethBTkeyWrite berth ix _ =>
    decide (berth < 256 ∧ ix < 6)
  | .aonEvtAck cats =>
    decide (cats < 256)
  | .rcRead reg | .registerWrite reg _ =>
    decide (reg.ok)
  | .pinShortSample level =>
    decide (level < 4096)
  | .mbxUnknownOp op r =>
    decide (op < 65536 ∧ r.ok)

end Sys2Proof
end

