-- ==== Sys2Proof/Tests/Slice0.lean ====
section
/-! SUPPORT. Well-formed commands: an ill-formed term for each check, which the check refuses, beside a well-formed one of
the same shape with the greatest number that the device has. -/

set_option Elab.async false

namespace Sys2Proof.Tests

open Sys2Proof Sys2Proof.Machine

/-- 864 core slots of 32 groups (01 R15, 05 R107). -/
theorem test_wf_core : wellFormed (.vadd ⟨863, 31⟩ 0) = true ∧ wellFormed (.vadd ⟨864, 0⟩ 0) = false ∧
    wellFormed (.nop ⟨0, 32⟩ 0) = false ∧ wellFormed (.coreFailure 864 false) = false ∧
    wellFormed (.matrixStart 0 32) = false := by decide
/-- 1,024 contexts (04 R83). -/
theorem test_wf_ctx : wellFormed (.quantumExpiry 1023) = true ∧ wellFormed (.quantumExpiry 1024) = false ∧
    wellFormed (.contextSwitchIn 0 [864]) = false := by decide
/-- 16 stream slots, 64 scalar registers (05 R107, 09 R209). -/
theorem test_wf_slots : wellFormed (.wait ⟨0, 0⟩ 15 63) = true ∧ wellFormed (.wait ⟨0, 0⟩ 16 0) = false ∧
    wellFormed (.wait ⟨0, 0⟩ 0 64) = false ∧ wellFormed (.streamStart ⟨0, 0⟩ 16) = false ∧
    wellFormed (.streamEntryBegin 0 16) = false ∧ wellFormed (.pinResult ⟨0, 0⟩ 64) = false := by decide
/-- 256 berths, six arguments of CREATE, the op codes of a berth command that no command has (03 R65, R79). -/
theorem test_wf_berth : wellFormed (.enable 255) = true ∧ wellFormed (.enable 256) = false ∧
    wellFormed (.create [0, 0, 0, 0, 0]) = false ∧ wellFormed (.berthBadOp 0 0) = true ∧
    wellFormed (.berthBadOp 7 0) = false ∧ wellFormed (.berthBadOp 16 0) = false := by decide
/-- 32 set engines, 64 crossing ports of 8 lanes, 16 laser blocks, 128 interfaces (14 R297, 15 R317, 16 R339). -/
theorem test_wf_units : wellFormed (.sort 31) = true ∧ wellFormed (.sort 32) = false ∧ wellFormed (.crossRd 63) = true ∧
    wellFormed (.crossRd 64) = false ∧ wellFormed (.laneMarker 0 []) = false ∧ wellFormed (.hello 0 []) = false ∧
    wellFormed (.laserFault 16) = false ∧ wellFormed (.arp 128 []) = false := by decide
/-- Flits and packets carry numbers of the width of their fields (15 R325, 16 R341). -/
theorem test_wf_frames : wellFormed (.dataFlit 0 { seq := 2 ^ 24 - 1 }) = true ∧
    wellFormed (.dataFlit 0 { seq := 2 ^ 24 }) = false ∧ wellFormed (.nak 64 {}) = false ∧
    wellFormed (.order { conn := 2 ^ 32 }) = false ∧ wellFormed (.order { seq := 2 ^ 64 }) = false ∧
    wellFormed (.ack { iface := 128 }) = false := by decide
/-- Lines of 128 bytes, 96 clusters, 256 slices, 162 requesters, the 768 fetchers of clusters and the 64 ports (01 R15, 10 R224, R230). -/
theorem test_wf_lines : wellFormed (.cohRd { who := 161 }) = true ∧ wellFormed (.nrd { who := 1063 }) = true ∧ wellFormed (.cohRd { who := 162 }) = false ∧
    wellFormed (.cohAtm { off := 126, bytes := 4 }) = false ∧ wellFormed (.inv 0 96) = false ∧
    wellFormed (.inv (2 ^ 41) 0) = false ∧ wellFormed (.cohReply (2 ^ 41)) = false ∧
    wellFormed (.nackReissue 256) = false ∧ wellFormed (.sliceFailure 256) = false := by decide
/-- 8 compute dies with 16 halves, 4 memory-side dies, I/O dies 0x20 and 0x21 (01 R14, R24). -/
theorem test_wf_dies : wellFormed (.scanOut 0x21) = true ∧ wellFormed (.scanOut 8) = false ∧
    wellFormed (.islandSleepEntry 96) = false ∧ wellFormed (.flitToAsleepIsland 0 0x14 none) = false ∧
    wellFormed (.halfClockDown 16) = false ∧ wellFormed (.pwrCmdHalvesOff 8) = false ∧
    wellFormed (.sliceClockThrottle 4) = false ∧ wellFormed (.stwStart 0 4 0) = false ∧
    wellFormed (.stwFreqWrite 0 32) = false ∧ wellFormed (.rprSelftestStart 0 12) = false ∧
    wellFormed (.rstCtlDie 256) = false := by decide
/-- 512 pseudo-channels, 16 packages, 8 stacks, device physical addresses of 48 bits (01 R34, 12 R262, R273). -/
theorem test_wf_memory : wellFormed (.hbmFrameStart 511) = true ∧ wellFormed (.hbmFrameStart 512) = false ∧
    wellFormed (.pseudoChannelFailure 512) = false ∧ wellFormed (.lpxFrameStart 16) = false ∧
    wellFormed (.stackRateStep 8) = false ∧ wellFormed (.uncorrectableRead (2 ^ 48) .prefetch) = false ∧
    wellFormed (.selftestComplete 0 { failing := [9] }) = false ∧ wellFormed (.bubbleUpdate [0]) = false ∧
    wellFormed (.pwr6CapWrite 65536) = false := by decide
/-- Mailbox bodies and the fields of registers (15 R336, 16 R357, 21 R465, R466, 22 R476, R477). -/
theorem test_wf_registers : wellFormed (.info { tag := 2 ^ 32 }) = false ∧
    wellFormed (.sec { body := List.replicate 4081 0 }) = false ∧ wellFormed (.mbxUnknownOp 65536 {}) = false ∧
    wellFormed (.xptExportWrite 0 128 0) = false ∧ wellFormed (.ethBTkeyWrite 0 6 0) = false ∧
    wellFormed (.aonEvtAck 256) = false ∧ wellFormed (.pinShortSample 4096) = false ∧
    wellFormed (.rcRead (.bar 16384)) = false ∧ wellFormed (.rcRead (.dpa 0 0 9)) = false ∧
    wellFormed (.registerWrite (.dpa 0x20 (2 ^ 48) 4) 0) = false ∧ wellFormed (.rcRead (.dpa 8 0 4)) = false := by decide +kernel

/-- Words written out field by field from 06 and the tables of its families: 06 "encoding and checking five words", a brm that
tests for all, mlog with FUNC 6, a release fence, crange with FUNC 1, sadd, bz, mma and cvt. -/
theorem test_words :
    commandOf c0 0x0105030400200000 = some (.vadd c0 0x05030400200000) ∧ commandOf c0 0x700807000A800040 = some (.vld c0 0x0807000A800040) ∧
    commandOf c0 0x8808000000000005 = some (.mif c0 0x08000000000005) ∧ commandOf c0 0x7809060A12988000 = some (.atomAdd c0 0x09060A12988000) ∧
    commandOf c0 0xB50000000000000C = some (.evt c0 0xC) ∧ commandOf c0 0x8100400000000004 = some (.brmAll c0 0x00400000000004) ∧
    commandOf c0 0x8100000000000004 = some (.brmAny c0 4) ∧ commandOf c0 0x8F20000006000000 = some (.ms2m c0 0x20000006000000) ∧
    commandOf c0 0xB400000000000014 = some (.fenceRelease c0 0x14) ∧ commandOf c0 0xB700042000000001 = some (.crangeFlush c0 0x00042000000001) ∧
    commandOf c0 0x6003010100000002 = some (.sadd c0 0x03010100000002) ∧ commandOf c0 0x820001FFFFFFFFFF = some (.bz c0 0x0001FFFFFFFFFF) ∧
    commandOf c0 0xA0284146110002AA = some (.mma c0 0x284146110002AA) ∧ commandOf c0 0x9004020001800000 = some (.cvt c0 0x04020001800000) := by
  refine ⟨?_, ?_, ?_, ?_, ?_, ?_, ?_, ?_, ?_, ?_, ?_, ?_, ?_, ?_⟩ <;> rfl
/-- The word of zeros, an opcode that no table lists, and the function codes that no instruction has. -/
theorem test_no_words : commandOf c0 0 = none ∧ commandOf c0 0x0E00000000000000 = none ∧ commandOf c0 0xFF00000000000000 = none ∧
    commandOf c0 0x8F00000008000000 = none ∧ commandOf c0 0xB400000000000018 = none ∧ commandOf c0 0xB700000000000003 = none := by
  refine ⟨?_, ?_, ?_, ?_, ?_, ?_⟩ <;> rfl

end Sys2Proof.Tests
end

