-- ==== Sys2Proof/Tests/WitLink.lean ====
section
/-! SUPPORT. Witnesses for the statements about crossing ports and the coherence fabric: states and operands that meet the
hypotheses of every clause. -/

set_option Elab.async false

namespace Sys2Proof.Tests

open Sys2Proof Sys2Proof.Machine

/-! ### Crossing ports -/

/-- A device whose port 0 is a crossing port `x`, and whose port 1 carries Ethernet. -/
def linked (x : Port) (tick : Nat) : State :=
  { stackGib := 384, rst := up, tick := tick, ports := [(0, { x with mode := 1 }), (1, { mode := 2, laserOk := true })],
    sec := { udsGone := true }, mft := { running := some { recs := [{ ty := 8, body := List.replicate 4 0 ++ List.replicate 48 7 }] } } }
def marks (port : Nat) (d : Word) (lanes : List Nat) : List Marker := lanes.map fun l => { lane := l, port := port, digest := d }

/-- Straight and crossed lanes of a partner; this device's own markers, of the same and of another port; no agreement; a lane
missing. -/
theorem witness_lane_markers :
    (linked { state := 1 } 5).xport 0 = true ∧ ((linked { state := 1 } 5).port 0).state = 1 ∧
    (∀ l ∈ [[0, 1, 2, 3, 4, 5, 6, 7], [7, 0, 1, 2, 3, 4, 5, 6]], (marks 63 9 l).length = 8 ∧
      (∀ m ∈ marks 63 9 l, m.port = 63 ∧ m.digest = 9) ∧ (∀ i, i < 8 → ∃ m ∈ marks 63 9 l, m.lane = i) ∧
      (9 : Word) ≠ (linked { state := 1 } 5).ownDigest) ∧
    (∀ q ∈ [0, 1], ∀ m ∈ marks q (linked { state := 1 } 5).ownDigest [0, 1, 2, 3, 4, 5, 6, 7],
      m.port = q ∧ m.digest = (linked { state := 1 } 5).ownDigest) ∧
    (∃ i, i < 8 ∧ ∀ m ∈ marks 1 9 [0, 1, 2, 3, 4, 5, 6, 6], m.lane ≠ i) := by decide +kernel
theorem witness_markers_differ : ¬ ∃ (q : Nat) (d : Word), ∀ m ∈ marks 1 9 [0, 1, 2, 3, 4, 5, 6] ++ marks 2 9 [7], m.port = q ∧ m.digest = d := by
  rintro ⟨q, d, h⟩
  have h1 : (1 : Nat) = q := (h { lane := 0, port := 1, digest := 9 } (by decide)).1
  have h2 : (2 : Nat) = q := (h { lane := 7, port := 2, digest := 9 } (by decide)).1
  omega
/-- A port in each stage of its bring-up, up, and in a rekey. -/
theorem witness_stages :
    (∀ q ∈ [(1, 0), (2, 0), (2, 1), (3, 2), (3, 3), (4, 4)],
      let x : Port := { state := q.1, stage := q.2 }
      (linked x 5).xport 0 = true ∧ ((linked x 5).port 0).state = q.1 ∧ ((linked x 5).port 0).stage = q.2) ∧
    (linked {} 5).partnerId 0 = some (List.replicate 48 7) ∧ (List.replicate 48 7 : List Byte) ≠ List.replicate 48 6 ∧
    (∀ b ∈ [true, false], let x : Port := { state := 4, stage := 4, rekey := some 3, shareOk := b }
      ((linked x 5).port 0).rekey.isSome = true ∧ ((linked x 5).port 0).shareOk = b) := by decide +kernel
/-- The KEY flits of HELLO, CHAIN, SHARE and FINISH, the last of each padded; a rekey; keys of both ends' HELLOs; an identity
that is not the fixed one, and no fixed one. -/
theorem witness_key_flits :
    (∀ q ∈ [(2, 0, 81, 1), (2, 1, 9813, 43), (3, 2, 193, 1), (3, 3, 48, 1), (4, 4, 193, 1), (4, 4, 48, 1)],
      let x : Port := { state := q.1, stage := q.2.1, keyRx := List.replicate (232 * q.2.2.2) 7,
                        keys := { sent := [List.replicate 81 1], got := [List.replicate 81 7] } }
      Claims.KeyArrived (linked x 5) 0 q.2.2.1 (List.replicate q.2.2.1 7) ∧ ((linked x 5).port 0).keys.sent ≠ [] ∧
      ((linked x 5).port 0).keys.got ≠ []) ∧
    (linked {} 5).partnerId 0 ≠ some (sha384 (List.replicate 97 7)) ∧ ({ linked {} 5 with mft := {} } : State).partnerId 0 = none := by
  refine ⟨?_, by decide +kernel, by decide +kernel⟩
  simp [Claims.KeyArrived, linked, State.port, tget, List.take_replicate]
theorem witness_bare (x : Port) (h : x.inq = [] ∧ x.outbound = [] ∧ x.waitq = []) (n : Nat) : Claims.Bare (linked x n) 0 := h
/-- Every time of a port one tick before it is due, and when it is due. -/
theorem witness_port_times :
    (∀ n ∈ [499999, 500000], ((linked { state := 1 } n).port 0).since = 0 ∧ (linked { state := 1 } n).tick = n) ∧
    (∀ n ∈ [9999999, 10000000], ((linked { state := 5 } n).port 0).state = 5 ∧ (linked { state := 5 } n).tick = n) ∧
    (∀ n ∈ [99999, 100000], ((linked {} n).port 0).darkEnd = none ∧ ((linked {} n).port 0).light = false ∧ (linked {} n).rst.readyTick = 0 ∧
      (linked {} n).tick = n) ∧
    (∀ n ∈ [4, 5], ((linked { darkEnd := some 5 } n).port 0).darkEnd = some 5 ∧ (linked { darkEnd := some 5 } n).tick = n) ∧
    (∀ n ∈ [39, 40], ∀ q ∈ [(4, 4), (6, 4), (6, 0)], ∀ l ∈ [true, false],
      let x : Port := { state := q.1, stage := q.2, light := l }
      ((linked x n).port 0).lastFlit = 0 ∧ ((linked x n).port 0).light = l ∧ ((linked x n).port 0).stage = q.2) ∧
    625 * 54975581 < 34359738368 ∧ 34359738368 ≤ 625 * 54975582 ∧ 625 * 3435973 < 2147483648 ∧ 2147483648 ≤ 625 * 3435974 ∧
    (∀ l ∈ [true, false], ∀ n ∈ [0, 1, 2, 3, 4], ((linked { light := l, state := n } 0).port 0).light = l ∧
      ((linked { light := l, state := n } 0).port 0).darkEnd = none) := by decide +kernel
theorem witness_laser :
    (linked {} 0).running = true ∧ ((linked {} 0).port 0).laserOk = false ∧ ((linked {} 0).port 0).mode = 1 ∧
    ((linked {} 0).port 1).mode = 2 ∧ (linked { state := 5 } 0).xport 0 = true := by decide +kernel
/-- The Ethernet port of a block is held too, and freed again. -/
theorem witness_laser_ethernet :
    let s := { linked {} 0 with ports := [(1, { mode := 2, state := 5, holdReason := 2 })] }
    (s.port 1).state = 5 ∧ s.xport 1 = false ∧ (s.port 1).laserOk = false := by decide +kernel
theorem witness_laser_bare : ∀ i, i < 4 → Claims.Bare (linked { state := 4, stage := 4 } 0) (4 * 0 + i) := by
  unfold Claims.Bare; decide +kernel

/-! ### Flits -/

/-- A link that is up, with two flits in its replay buffer, the last of the sequence and the first. -/
def link : Port := { state := 4, stage := 4, replay := [{ seq := 16777215 }, { seq := 0, body := [1] }], nextSeq := 1, expSeq := 9 }
def rdMsg : XMsg := { op := 1, tag := 4095, addr := 137438953408 }
theorem witness_flits :
    (∀ st ∈ [2, 3, 4, 6], ∀ f ∈ [({ ty := 0, ack := 0, corrected := 2 } : FlitIn), { ty := 0, ack := 16777215, nak := true },
        { ty := 2, allstop := true }, { ty := 2 }, { ty := 1, seq := 9 }, { ty := 1, seq := 10 }, { ty := 3, seq := 9 }],
      Claims.FlitArrives (linked { link with state := st } 5) 0 f) ∧
    (∀ n ∈ [0, 14, 15], ({ link with nakSeq := 16777215, nakCount := n } : Port).nakCount = n) ∧
    Claims.WholeMsg rdMsg ∧ Claims.WholeMsg { op := 2, size := 1, ms := true, body := List.replicate 144 1 } ∧
    Claims.WholeMsg { op := 3, size := 3, fn := 7, body := List.replicate 16 1 } ∧ (Claims.msgBytes rdMsg).length ≤ 232 ∧
    link.rx = [] ∧ 5 ∉ [0, 1, 2, 3, 4, 0x81, 0x82, 0x83, 0x84] ∧ 255 ∉ [0, 1, 2, 3, 4, 0x81, 0x82, 0x83, 0x84] ∧
    (linked { state := 6, stage := 4 } 0).failed = none ∧ (linked link 5).xport 0 = true ∧ 3 < ({ ty := 4 } : FlitIn).ty := by
  unfold Claims.FlitArrives Claims.WholeMsg; decide +kernel
/-- A device in all-stop, its port in bring-up or up; a heartbeat's 256 bytes. -/
theorem witness_all_stop :
    (∀ q ∈ [(2, 0), (3, 2), (4, 4), (6, 4)], let s := { linked { state := q.1, stage := q.2 } 5 with stopped := true }
      s.stopped = true ∧ s.failed = none ∧ s.rst.ready = true ∧ (s.port 0).mode = 1 ∧ (s.port 0).state = q.1 ∧
      ((s.port 0).carries = true ↔ q.2 = 4)) := by decide +kernel

/-! ### Requests of a partner -/

/-- Entry 127 of port 0 leads 1 GiB of berth 1's pages; a request reads its first bytes. -/
def served (m : XMsg) (entry : Nat) : State :=
  let s := linked { link with inq := [m], exports := [(127, BitVec.ofNat 64 entry)] } 5
  { s with berths := [(1, { berth1 with grant := { ports := 1 } })] }
def ask (op size fn n : Nat) : XMsg := { op := op, addr := 127 * 1073741824, size := size, fn := fn, body := List.replicate n 1 }
theorem witness_requests :
    (∀ m ∈ [ask 1 0 0 0, ask 1 1 0 0, ask 2 0 0 64, ask 2 1 0 128, { ask 2 1 0 144 with ms := true }, ask 3 2 7 16, ask 3 3 15 8, ask 3 2 9 8,
        ask 4 2 8 8, ask 4 3 11 8],
      Claims.Asked (served m 0x103) 0 m.op m ∧ Claims.EntryServes (served m 0x103) 0 m true ∧
      Claims.entryLoc (served m 0x103) 0 m .load = .mem 0x10000000 ∧ Claims.entryLoc (served m 0x103) 0 m .store = .mem 0x10000000 ∧
      (served m 0x103).dpaLoc 0x10000000 = .mem 0x10000000 ∧ ((served m 0x103).line (0x10000000 / 128)).pend = [] ∧
      ((served m 0x103).line (0x10000000 / 128)).isBusy = false ∧ ∀ q ∈ (served m 0x103).marks, 6 ≤ q.scope ∨ 6 ≤ q.rel) ∧
    (∀ m ∈ [ask 1 0 0 0, ask 2 0 0 64, ask 3 2 7 16, ask 4 2 8 8], Claims.Asked (served m 0x102) 0 m.op m ∧
      ¬ Claims.EntryServes (served m 0x102) 0 m false ∧ ¬ Claims.EntryServes (served m 0x102) 0 m true ∧
      Claims.entryLoc (served m 0x40000103) 0 m .store = .nothing) := by
  unfold Claims.Asked Claims.EntryServes; decide +kernel

/-- A response of each kind to a request under tag 7, with its waiter. -/
def answered (rsp op : Nat) (w : Waiter) : State :=
  let x : Port := { link with inq := [{ op := rsp, tag := 7, body := [1] }], outbound := [{ msg := { op := op, tag := 7 }, waiter := w }] }
  { coreState {} with ports := [(0, { x with mode := 1 })], sends := [{ num := 3, order := 5, open_ := 1 }] }
theorem witness_responses :
    (∀ q ∈ [(0x81, 1), (0x82, 2), (0x82, 4), (0x83, 3)], ∀ w ∈ [Waiter.none, .result 3],
      (answered q.1 q.2 w).running = true ∧ ((answered q.1 q.2 w).port 0).waitq = [] ∧
      ((answered q.1 q.2 w).port 0).inq = [{ op := q.1, tag := 7, body := [1] }] ∧
      ((answered q.1 q.2 w).port 0).outbound.find? (fun o => o.msg.tag == 7) = some { msg := { op := q.2, tag := 7 }, waiter := w }) ∧
    (let s := answered 0x84 1 (.group { ctx := 0 } true 0)
     s.placeOf { ctx := 0 } = some c0 ∧ (s.core 0).ctx = some 0 ∧ s.ctx 0 = some ctx0 ∧ ctx0.stopping = none ∧
       (s.core 0).faultNew = false) := by decide +kernel

/-! ### The directory -/

/-- Line 0x200000 of the device is `x`; messages in flight; cluster 2's copy is `c`. The clusters 1, 2 and 4 hold cache banks of
context 0. -/
def dirState (x : Line) (msgs : List CohMsg) (c : Copy) : State :=
  let k : Cluster := { asleep := false, parts := [(0, some { ctx := 0, cacheBanks := 1 })] }
  { stackGib := 384, rst := up, lines := if x = {} then [] else [(0x200000, x)], cohMsgs := msgs, mdDies := [(0, { dieOn := 255 }), (1, { dieOn := 255 })],
    copies := [(copyKey 0x200000 2, c)], clusters := [(1, k), (2, k), (4, k)], ctxs := [(0, some ctx0)], berths := [(1, berth1)],
    mft := { running := some {} } }
def full : Line := { present := true, valid := BitVec.allOnes 128 }
def reqOf (k : ReqKind) : CohReq :=
  { kind := k, line := 0x200000, who := if k = .nrd ∨ k = .nwr then 96 else 1, mask := 0xF, data := List.replicate 128 5, op := .add, arg := 3 }
/-- A request of each kind meets a line in each state of the directory. -/
theorem witness_RequestsFollowTheDirectoryTable :
    (∀ p ∈ [ReqKind.rd, .rdo, .upg, .own, .nrd, .nwr, .atm, .red], ∀ x ∈ [full, { full with dir := .shared, ptrs := [1] },
        { full with dir := .shared, ptrs := [3, 4, 5] }, { full with dir := .shared, overflow := true }, { full with dir := .owned, ptrs := [2] }, {},
        { full with busy := some {} }, { full with filling := true }, { full with prio := some 7 }, { full with pend := [reqOf .red] }],
      Claims.Reaches (dirState x [] {}) (reqOf p) ∧ (dirState x [] {}).line 0x200000 = x ∧ (∀ n ∈ x.ptrs, n < 96) ∧ x.ptrs.Nodup ∧
      ((dirState x [] {}).waysUsed 0x200000).length < 16 ∧ (dirState x [] {}).pendingOf ((dirState x [] {}).home 0x200000) < 256) ∧
    Claims.Free full ∧ Claims.roundOf (dirState { full with dir := .shared, ptrs := [1] } [] {}) (reqOf .upg) = [] ∧
    Claims.roundOf (dirState { full with dir := .shared, ptrs := [1] } [] {}) (reqOf .nwr) = [1] ∧
    256 ≤ (dirState { full with busy := some {}, pend := List.replicate 256 (reqOf .red) } [] {}).pendingOf
      ((dirState {} [] {}).home 0x200000) ∧
    ((reqOf .wb).fits = true ∧ (dirState full [] {}).mayHold 0x200000 1 = true ∧ ((dirState full [] {}).copy 0x200000 1).owned = false ∧
      ({ reqOf .wb with who := 2 } : CohReq).fits = true ∧ (dirState full [] {}).mayHold 0x200000 2 = true ∧
      ((dirState full [] { owned := true }).copy 0x200000 2).owned = true) := by
  unfold Claims.Reaches Claims.Free; decide +kernel

/-- The owner's whole and partial copy, an island asleep, and the transaction of a request and of an eviction. -/
theorem witness_forwards :
    (∀ c ∈ [({} : Copy), { owned := true, valid := 1 }, { owned := true, valid := BitVec.allOnes 128, dirty := 3 }],
      ∀ k ∈ [ReqKind.rd, .nrd, .rdo, .upg, .nwr], ∀ e ∈ [true, false],
      ∀ m ∈ [CohMsg.fwdS 0x200000 2, .fwdX 0x200000 2, .inv 0x200000 2],
      let s := dirState { full with busy := some { req := reqOf k, evict := e } } [m] c
      s.running = true ∧ s.copy 0x200000 2 = c ∧ (s.line 0x200000).busy = some { req := reqOf k, evict := e } ∧ s.grantFlying 0x200000 2 = false ∧
      m ∈ s.cohMsgs ∧ (s.cluster 2).asleep = false ∧ (s.cluster 3).asleep = true) := by decide +kernel
/-- Every reply, for a transaction of a request; the reply that ends an eviction for another line's request. -/
theorem witness_replies :
    (∀ m ∈ [CohMsg.toSlice 0x200000 2 true true 0, .toSlice 0x200000 2 true false 1, .toSlice 0x200000 2 false false 0,
        .toReq 0x200000 2 .shared [1] 0, .toReq 0x200000 2 .owned [1] 1, .toReq 0x200000 2 .empty [] 0, .toReq 0x200000 2 .upgrade [] 0,
        .toReq 0x200000 2 .nothing [] 0],
      ∀ k ∈ [ReqKind.rd, .nrd, .rdo, .upg], ∀ u ∈ [({ req := reqOf k, waits := 1 } : Txn), { req := reqOf k, waits := 2 },
        { req := reqOf k, waits := 1, ackOnly := true }, { req := { reqOf k with line := 0x200001 }, waits := 1, evict := true }],
      let s := dirState { full with busy := some u } [m] {}
      s.cohMsgs.find? (CohMsg.replyOf 0x200000) = some m ∧ (s.line 0x200000).busy = some u ∧ (u.req.line = 0x200000 ↔ u.evict = false) ∧
      u.req.bytes = 4) := by decide +kernel
/-- The intake of a slice: a request with three NACKs and one with four, on a free line and on one that is BUSY. -/
def intake (x : Line) (n : Nat) : State :=
  let s := dirState x [] {}
  { s with slices := [(s.home 0x200000, { intake := [{ reqOf .rd with nacks := n }] })] }
theorem witness_intake : ∀ n ∈ [3, 4], ∀ x ∈ [full, { full with busy := some {} }, { full with prio := some 1 }],
    ((intake x n).slice ((intake x n).home 0x200000)).intake = [{ reqOf .rd with nacks := n }] ∧ (intake x n).line 0x200000 = x := by
  decide +kernel
/-- The same device with a package of 32 GiB in the capacity tier. -/
def tiered : State := { dirState {} [] {} with lpxCount := 1, lpxGib := 32, packages := [0] }
theorem witness_pending :
    ((dirState { full with pend := [reqOf .red] } [] {}).line 0x200000).pend = [reqOf .red] ∧ (reqOf .red).line = 0x200000 ∧
    (dirState {} [] {}).dpaLoc (0x200000 * 128) = .mem (0x200000 * 128) ∧ 0x200000 * 128 < lpxBase ∧
    tiered.dpaLoc (0x200000000 * 128) = .mem lpxBase ∧ lpxBase = 0x200000000 * 128 ∧
    ({ full with filling := true, busy := some { req := reqOf .rd } } : Line).filling = true := by decide +kernel
/-- A corrected read in VC2 of a berth that runs an assured order, of either tier, with the counters at their last values. -/
def credited (ce : Nat) : State :=
  { tiered with
    ctxs := [(0, some { ctx0 with order := some 5 })], orders := [(5, some { ctx := 0, hdr := { berth := 1 } })], credits := [((hashPc 0x10000000) * 256 + 1, 4096)],
    hbm := [((pcStack (hashPc 0x10000000)), { ce := ce })], lpx := [(0, { ce := ce })] }
theorem witness_credit : ∀ ce ∈ [0, 4294967293],
    1024 ≤ (credited ce).creditOf ((credited ce).pcOf 0x10000000).1 1 ∧ (credited ce).berthAssured 1 = true ∧
    ((credited ce).stack (pcStack ((credited ce).pcOf 0x10000000).1)).ce = ce ∧
    ((credited ce).lpxOf ((credited ce).pkgOf lpxBase / 8)).ce < 4294967294 := by decide +kernel

end Sys2Proof.Tests
end

