-- ==== Sys2Proof/Tests/WitPlatform.lean ====
section
/-! SUPPORT. Witnesses for the statements about berths, the proofer and the berth transport: states and operands that meet
the hypotheses of every clause. -/

set_option Elab.async false

namespace Sys2Proof.Tests

open Sys2Proof Sys2Proof.Machine

/-! ### Berths -/

/-- The POOL record of pool 0: one pin way, cluster 0, 2 GiB of stacked memory and 1 GiB of the tier, two berths, 8 sessions,
4 contexts. -/
def poolBytes : List Byte :=
  bytesOf 4 256 ++ bytesOf 12 1 ++ bytesOf 4 2 ++ bytesOf 4 1 ++ bytesOf 2 0 ++ bytesOf 2 2 ++ bytesOf 2 8 ++ bytesOf 2 4

/-- A device that is ready, with the berths `bs` and a running Manifest of pool 0. -/
def box (bs : Tbl Berth) : State :=
  { stackGib := 384, rst := up, berths := bs, mft := { running := some { recs := [{ ty := 6, body := poolBytes }] } } }

/-- ARG0 to ARG5 of CREATE. -/
def grantArgs (assured pins contexts timeout : Nat) : List Word :=
  [0, BitVec.ofNat 64 (assured + 4096 + 1048576 + pins * 268435456), 2, BitVec.ofNat 64 (1 + contexts * 65536 + 4294967296), 1,
    BitVec.ofNat 64 timeout]

theorem witness_create :
    (∀ b ∈ [([], 0), ([(0, ({ state := 1, grant := { pool := 1 } } : Berth))], 1)], ∀ q ∈ [(0, 10), (15, 100000)],
      let s := box b.1
      let a := (List.range 6).map fun i => (grantArgs q.1 1 1 q.2).getD i 0
      s.fwActs = true ∧ s.bth.running = none ∧ s.engaged = false ∧ s.lifecycle ≠ 0 ∧ s.mft.running.isSome = true ∧
      s.poolRec (grantOf a).pool = some poolBytes ∧ (s.berth b.2).state = 0 ∧ (∀ j, j < b.2 → (s.berth j).state ≠ 0) ∧
      (s.poolBerths (grantOf a).pool).length < poolMaxBerths poolBytes ∧ grantClean a = true ∧
      Claims.GrantLegal s (grantOf a) poolBytes) ∧
    (∀ q, (box []).poolHeld q = false) :=
  ⟨by unfold Claims.GrantLegal; decide +kernel, fun _ => rfl⟩
/-- A grant past a limit by one, and one with a reserved bit. -/
theorem witness_create_bad : ∀ a ∈ [grantArgs 1537 1 1 10, grantArgs 16 1 1 10, grantArgs 0 2 1 10, grantArgs 0 1 0 10, grantArgs 0 1 5 10,
      grantArgs 0 1 1 9, grantArgs 0 1 1 100001, 1 :: (grantArgs 0 1 1 10).drop 1],
    (box []).poolRec (grantOf a).pool = some poolBytes ∧ ((box []).poolBerths (grantOf a).pool).length < poolMaxBerths poolBytes ∧
    (grantClean a = false ∨ ¬ Claims.GrantLegal (box []) (grantOf a) poolBytes) := by
  unfold Claims.GrantLegal; decide +kernel
/-- Two berths of the pool's two; every berth taken. -/
theorem witness_create_full :
    (let s := box [(0, { state := 1 }), (1, { state := 6 })]
     poolMaxBerths poolBytes ≤ (s.poolBerths (grantOf (grantArgs 0 1 1 10)).pool).length ∧ (s.berth 2).state = 0) ∧
    (∀ j, j < 256 → ((box ((List.range 256).map fun j => (j, { state := 1 }))).berth j).state ≠ 0) := by decide +kernel

/-- Berth 3 in a state. -/
def in3 (n : Nat) : State := box [(3, { state := n })]
theorem witness_BerthCommandsMoveTheirBerth : ∀ n ∈ List.range 8,
    (in3 n).fwActs = true ∧ (in3 n).bth.running = none ∧ (in3 n).mft.running.isSome = true ∧ ((in3 n).berth 3).state = n := by
  decide +kernel
theorem witness_berth_busy :
    ({ in3 1 with bth := { running := some { op := 2, berth := 3, args := [] } } } : State).bth.running =
      some { op := 2, berth := 3, args := [] } ∧ (in3 1).mft.phase = .idle ∧ (in3 1).bth.viaMbx = false := by decide +kernel

/-- Berth 3 in a state with nothing in flight, and with a context. -/
def busy3 (n : Nat) : State := { box [(3, { state := n, drainEnd := some 5, grant := { timeout := 10 } })] with
  tick := 10001, ctxs := [(0, some { berth := 3 })] }
theorem quiet_of (s : State) (b : Nat) (ho : s.orders = []) (hc : s.ctxs = []) (hq : s.prf.queue ++ s.prf.onWay = []) :
    Claims.Quiet s b := by
  refine ⟨fun o x h => ?_, fun k x h => ?_, fun h e => ?_⟩
  · simp [State.order, ho, tget] at h
  · simp [State.ctx, hc, tget] at h
  · simp [hq] at e
theorem quiet3 (n : Nat) : Claims.Quiet (in3 n) 3 := quiet_of _ _ rfl rfl rfl
theorem unquiet3 (n : Nat) : ¬ Claims.Quiet (busy3 n) 3 := fun h => h.2.1 0 _ rfl rfl
theorem witness_BerthTransitionsFollowTheTable :
    (∀ n ∈ [2, 3, 4, 5, 7], (in3 n).running = true ∧ ((in3 n).berth 3).state = n ∧ ((in3 n).berth 3).disableRec = false) ∧
    (∀ n ∈ [2, 3, 4], ((busy3 n).berth 3).state = n ∧ ((busy3 n).berth 3).drainEnd = some 5 ∧ 5 ≤ (busy3 n).tick ∧
      ((busy3 n).berth 3).grant.timeout * 1000 < (busy3 n).tick - ((busy3 n).berth 3).refTick ∧
      (in3 n).tick - ((in3 n).berth 3).refTick ≤ ((in3 n).berth 3).grant.timeout * 1000) ∧
    ((box [(3, { state := 5, disableRec := true })]).berth 3).disableRec = true := by decide +kernel
/-- A draining berth with nothing in flight whose limit has passed; a page of a destroyed berth. -/
def drained : State := { box [(3, { state := 3, drainEnd := some 0, map := [(0, some { dpa := 0x10000000 })] })] with
  lines := [(0x200000, { pin := some 3 })] }
theorem witness_drained : Claims.Quiet drained 3 ∧ (drained.berth 3).pages ≠ [] :=
  ⟨quiet_of _ _ rfl rfl rfl, by decide +kernel⟩

/-- Berth 3 may have 4 MiB of stacked memory. -/
def maps (n : Nat) (pages : Tbl (Option Page)) : State :=
  box [(3, { state := n, map := pages, grant := { hbmMib := 4 } }), (4, { state := 2, map := [(0, some { dpa := 0x20000000 })] })]
/-- ARG1 of MAP_WRITE for a DPA, with the flags. -/
def mapArg (dpa flags : Nat) : Word := BitVec.ofNat 64 (dpa + flags)
theorem witness_map_write : ∀ n ∈ [1, 2, 6], ∀ q ∈ [(0x10000, 0x10000000, 2, 1), (0x10000, 0x10000000, 6, 64), (0x200000, 0x10000000, 15, 2),
      (0xFFFFFFFF0000, 0x1FFF0000, 0, 1)],
    let s := maps n []
    let a1 := mapArg q.2.1 q.2.2.1
    let size := if bitAt 0 a1 then 2097152 else 65536
    let d := fld 16 32 a1 * 65536
    s.fwActs = true ∧ s.bth.running = none ∧ (s.berth 3).state = n ∧ q.1 % size = 0 ∧ d % size = 0 ∧
    q.1 + q.2.2.2 * size ≤ 281474976710656 ∧ d + q.2.2.2 * size ≤ 281474976710656 ∧ fld 4 12 a1 = 0 ∧ fld 48 16 a1 = 0 ∧
    s.stewardTop ≤ d ∧ ((s.berth 3).pages.all fun p => !meets q.1 (q.2.2.2 * size) (p.1 * 65536) (pageBytes p.2.big)) = true ∧
    ((s.berth 4).pages.all fun p => !meets d (q.2.2.2 * size) p.2.dpa (pageBytes p.2.big)) = true ∧
    s.dpaMappable 3 d (q.2.2.2 * size) = true ∧ s.mapFits 3 d (q.2.2.2 * size) = true := by decide +kernel
/-- No other berth has pages. -/
theorem witness_map_others (n : Nat) : ∀ o, o ≠ 3 → o ≠ 4 → ((maps n []).berth o).pages = [] := by
  intro o h3 h4
  have : (maps n []).berth o = {} := by
    simp [maps, box, State.berth, tget, Ne.symm h3, Ne.symm h4]
  rw [this]; rfl
/-- Every check of MAP_WRITE at its edge: unaligned, past 48 bits, no page, too many; a page of another berth,
a page of this one; memory that is not there, and an allotment that is used up. -/
theorem witness_map_refusals :
    (∀ q ∈ [(0x8000, 0x10000000, 1), (0, 0x10000000, 0), (0, 0x10000000, 65537), (0xFFFFFFFF0000, 0x10000000, 2), (0, 0xFFFFFFFF0000, 2)],
      q.1 % 65536 ≠ 0 ∨ 281474976710656 < q.1 + q.2.2 * 65536 ∨ 281474976710656 < q.2.1 + q.2.2 * 65536 ∨ q.2.2 = 0 ∨ 65536 < q.2.2) ∧
    (0x200000 : Nat) % 65536 = 0 ∧
    meets 0x20000000 65536 0x20000000 65536 = true ∧
    ((maps 2 []).berth 4).pages = [(0, { dpa := 0x20000000 })] ∧
    ((maps 2 [(1, some { dpa := 0x30000000 })]).berth 3).pages = [(1, { dpa := 0x30000000 })] ∧
    (maps 2 []).dpaMappable 3 0x7FFFFFF0000 65536 = false ∧ (maps 2 []).mapFits 3 0x10000000 (65 * 65536) = false ∧
    (∀ n ∈ [0, 3, 4, 5, 7], ((maps n []).berth 3).state ≠ 1 ∧ ((maps n []).berth 3).state ≠ 2 ∧ ((maps n []).berth 3).state ≠ 6) := by
  decide +kernel
theorem witness_map_clear :
    (let s := maps 6 [(1, some { dpa := 0x30000000 }), (2, some { dpa := 0x40000000 })]
     s.ctxs = [] ∧ (s.store 3).frames = [] ∧
     ((s.berth 3).pages.filter fun p => decide (0x10000 ≤ p.1 * 65536) && decide (p.1 * 65536 < 0x10000 + 131072) && p.2.big == false).length = 2) ∧
    ((busy3 6).ctx 0).map Ctx.berth = some 3 ∧ ((maps 0 []).berth 3).state = 0 := by decide +kernel

/-! ### The proofer -/

def hdr1 (cls span : Nat) : Header :=
  { berth := 3, named := 3, cls := cls, size := 1, windows := [(0x10000, 64)], reqSpan := span, arrival := 30, conn := 1 }
def prog1 : Program :=
  { orderArea := 0x10000,
    cost := { phases := [{ issue := { base := 170 }, width := { base := 1 } }], commit := { base := 40 }, maxCycles := { base := 9000 } } }
/-- Berth 3 is ENABLED with program 0; every core of cluster 0 works. -/
def berth3 : Berth :=
  { state := 2, map := [(1, some { dpa := 0x10000000, w := true })], programs := [(0, some prog1)],
    gates := [(0, true)], grant := { assured := 8, contexts := 1, egressWeight := 1, ports := 1 } }
def proofs (y : Berth) (queue : List Header) (onWay : List Header) (tick : Nat) : State :=
  { box [(3, y)] with
    tick := tick, prf := { queue := queue, onWay := onWay }, conns := [(1, some { berth := 3 })], ifaces := [(0, { up := true })],
    clusters := [(0, { asleep := false })], dies := [(0, { pwr := { west := 2, east := 2 } })],
    cores := (List.range 8).map fun i => (i, { slotState := 1, bound := some i }) }
theorem witness_header_arrival :
    (∀ p ∈ [0, 32, 63], let h := { hdr1 1 0 with port := p }
      (proofs berth3 [] [h] 30).running = true ∧ (proofs berth3 [] [h] 30).prf.onWay.find? (fun q => q.port == p) = some h) ∧
    64 ≤ (proofs berth3 (List.replicate 64 (hdr1 1 0)) [] 30).prf.queue.length := by decide +kernel
/-- A header on its way that reached its port no later than the queue's. -/
theorem witness_on_way : ∀ p ∈ [0, 32],
    (proofs berth3 [hdr1 1 0] [{ hdr1 1 0 with port := p }] 50).prf.onWay = [{ hdr1 1 0 with port := p }] ∧
    (if ({ hdr1 1 0 with port := p } : Header).port < 32 then (hdr1 1 0).arrival else 50 - 20) ≤ (hdr1 1 0).arrival := by decide +kernel
/-- Standard and bulk orders, assured ones with the least and with a wide REQ_SPAN, all of which pass every check. -/
theorem witness_headers_pass : ∀ q ∈ [(1, 0), (1, 500), (2, 0), (0, 0), (0, 100000), (0, 1)],
    let s := proofs berth3 [hdr1 q.1 q.2] [] 50
    s.running = true ∧ s.prf.queue = [] ++ hdr1 q.1 q.2 :: [] ∧ (hdr1 q.1 q.2).arrival + 20 ≤ s.tick ∧
    Claims.failed s (hdr1 q.1 q.2) = [] ∧ s.program 3 0 = some prog1 ∧ s.bindTo (hdr1 q.1 q.2) prog1.ctxLimit = some (.fresh none) ∧
    (s.berth 3).state = 2 ∧ s.conn 1 = some { berth := 3 } := by decide +kernel
/-- One header for each reason: the berth is shut; a class beyond 2; no program; no context; no ASSURED; crossings; capacity. -/
theorem witness_headers_fail :
    (∀ q ∈ [({ berth3 with gates := [] }, hdr1 1 0, 2), ({ berth3 with gates := [(31, true), (30, false), (0, true)] }, hdr1 1 0, 2), (berth3, hdr1 3 0, 4),
        (berth3, { hdr1 1 0 with windows := [] }, 4), (berth3, { hdr1 1 0 with program := 9 }, 5),
        ({ berth3 with grant := { berth3.grant with contexts := 0 } }, hdr1 1 0, 6), ({ berth3 with grant := { berth3.grant with assured := 0 } }, hdr1 0 0, 7),
        ({ berth3 with programs := [(0, some { prog1 with cost := { prog1.cost with crossing := true } })] }, hdr1 0 0, 8),
        ({ berth3 with grant := { berth3.grant with assured := 16 } }, hdr1 0 0, 9)],
      (Claims.failed (proofs q.1 [q.2.1] [] 50) q.2.1).head? = some q.2.2) ∧
    (proofs berth3 [hdr1 1 0] [] 49).tick < (hdr1 1 0).arrival + 20 := by decide +kernel
/-- The span of the assured order above; a promise in range, one too early, and a span out of range. -/
theorem witness_promise :
    let S := Claims.span prog1.cost 1 8 1 1 96 0 false
    S = 10403 ∧ max 30 0 + S - 30 ≤ 600000000 ∧ 30 + 1 < max 30 0 + S ∧ max 30 0 + S ≤ 30 + 100000 ∧ 600000000 < max 30 700000000 + S - 30 ∧
    Claims.span { phases := [{ width := { base := 1 }, dep := { base := 10000000 } }] } 1 8 1 1 96 0 false - 30 > 600000000 := by decide +kernel

/-- Order 5 of class `cls` is bound to context 0 of berth 3, whose order area is mapped. -/
def orders3 (x : Order) (c : Ctx) : State :=
  { proofs berth3 [] [] 50 with ctxs := [(0, some c)], orders := [(5, some x)] }
/-- A context of berth 3 that runs program 0. -/
def ctxQ : Ctx := { berth := 3, prog := some prog1 }
def ord (cls : Nat) : Order := { hdr := hdr1 cls 0, time := 20000 }
theorem witness_dispatch : ∀ cls ∈ [0, 1, 2],
    let s := orders3 (ord cls) ctxQ
    let ws := (orderRecord (ord cls).hdr (ord cls).time).zipIdx.map (fun q => (recordBva prog1 ctxQ + q.2, [q.1]))
    s.running = true ∧ s.order 5 = some (ord cls) ∧ (ord cls).causes = [] ∧ (ord cls).lastGone = false ∧ s.ctx 0 = some ctxQ ∧ (s.boundTo 0).head? = some 5 ∧
    s.progOf ctxQ = some prog1 ∧ (ws.all fun w => w.1 < 0x20000) = true ∧ s.bvaLoc 3 .store 0x10000 = .mem 0x10000000 := by
  decide +kernel
/-- A budget that one die's copy has reached, of the I/O die and of the compute die, and one that none has. -/
theorem witness_budget : ∀ q ∈ [([(0x20, 900)], 900), ([(0, 900)], 1), ([(0x20, 899), (0, 899)], 900), ([], 0)],
    let x := { ord 0 with dispatched := some 40, budget := q.2, spent := q.1 }
    let c := { ctxQ with order := some 5, cores := [0] }
    let s := orders3 x c
    s.running = true ∧ s.order 5 = some x ∧ s.ctx 0 = some c ∧ s.boundTo 0 = [5] ∧ c.stopping = none ∧ x.causes = [] ∧ x.lastGone = false ∧
    ((∃ d ∈ [0x20, dieOf 0], x.budget ≤ tget 0 x.spent d) ↔ q ≠ ([(0x20, 899), (0, 899)], 900)) := by decide +kernel
/-- The last RESULT of an order has left, before and after its tick. -/
theorem witness_completion : ∀ cls ∈ [0, 1, 2], ∀ time ∈ [49, 50],
    let x := { ord cls with time := time, lastGone := true }
    (orders3 x ctxQ).running = true ∧ (orders3 x ctxQ).order 5 = some x ∧ (orders3 x ctxQ).tick = 50 := by
  decide +kernel
/-- Responses of each kind to parked requests of context 0. -/
def parkState (op rsp : Nat) : State :=
  { orders3 (ord 1) ctxQ with
    ports := [(1, { inq := [{ op := rsp, tag := 7 }], outbound := [{ msg := { op := op, tag := 7 }, waiter := .engine 4, parked := true }] })] }
theorem witness_parked : ∀ q ∈ [(1, 0x81), (2, 0x82), (4, 0x82), (3, 0x83)],
    let s := parkState q.1 q.2
    s.running = true ∧ (s.port 1).inq = [{ op := q.2, tag := 7 }] ∧ (s.port 1).waitq = [] ∧ (s.ctx 0).isSome = true ∧
    (s.port 1).outbound.find? (fun o => o.msg.tag == 7) = some { msg := { op := q.1, tag := 7 }, waiter := .engine 4, parked := true } := by
  decide +kernel
/-- Cycles fell into the interval that ends, or none did; the index stood above its threshold before, or it did not. -/
theorem witness_interval :
    let s (t : Nat) : State :=
      { proofs { berth3 with ifx := { ended := [(0, 256)], threshold := 1 } } [] [] t with
        berths := [(3, { berth3 with ifx := { ended := [(0, 256)], threshold := 1 } }), (4, { ifx := { valid := true, index := 9, threshold := 2 } })] }
    (s 100000).prf.interval < (s 100000).tick / 100000 ∧ (tkeys (s 100000).berths).Nodup ∧ (s 99999).tick / 100000 ≤ (s 99999).prf.interval ∧
    tget 0 ((s 100000).berth 3).ifx.ended 0 ≠ 0 ∧ tget 0 ((s 100000).berth 4).ifx.ended 0 = 0 ∧
    ((s 100000).berth 3).ifx.index ≤ ((s 100000).berth 3).ifx.threshold := by decide +kernel

/-- Context 0 is on core 0, with a group. -/
def leaves (x : Order) (c : Ctx) (tick : Nat) : State :=
  { orders3 x c with tick := tick, cores := [(0, { slotState := 1, bound := some 0, ctx := some 0, work := workOf {} })] }
def inCtx : Ctx := { ctxQ with switchedIn := true, cores := [0], clusters := [0], order := some 5, mayLeave := true }
theorem witness_switch_out :
    ((leaves (ord 1) inCtx 200000).ctx 0 = some inCtx ∧ inCtx.quantum + 200000 ≤ (leaves (ord 1) inCtx 200000).tick ∧
      (leaves (ord 1) inCtx 200000).runsAssured 0 = false ∧ (leaves (ord 1) inCtx 199999).tick < inCtx.quantum + 200000) ∧
    ((leaves (ord 0) inCtx 0).order 5 = some (ord 0) ∧ (ord 0).ctx = 0 ∧ (ord 0).hdr.cls = 0 ∧ (ord 0).answered = false) ∧
    ((ord 1).hdr.cls ≠ 0 ∧ ((leaves (ord 1) inCtx 0).core 0).ctx = some 0 ∧ (leaves (ord 1) inCtx 0).dieRuns (dieOf 0) = true ∧
      ((leaves (ord 1) inCtx 0).core 0).work.mq = [] ∧ ((leaves (ord 1) inCtx 0).core 0).work.streams = [] ∧
      ((leaves (ord 1) inCtx 0).core 0).work.groups ≠ [] ∧ (leaves (ord 1) inCtx 0).descs = [] ∧ inCtx.mayLeave = true ∧
      ((leaves (ord 1) inCtx 0).groupAt c0).map (·.hold) = some none) := by decide +kernel
/-- Context 0 is out, with a saved group; cores 1 and 0 of cluster 0 are free; an assured order of ASSURED 4 needs both. -/
def enters (cls : Nat) : State :=
  let s := orders3 { ord cls with dispatched := some 40 } { ctxQ with order := some 5, saved := [workOf {}], unplaced := [(0, 7)] }
  { s with berths := [(3, { berth3 with grant := { berth3.grant with assured := 4 } })] }
theorem witness_switch_in : ∀ cls ∈ [0, 1],
    let s := enters cls
    let x : Ctx := { ctxQ with order := some 5, saved := [workOf {}], unplaced := [(0, 7)] }
    s.ctx 0 = some x ∧ s.fwActs = true ∧ sortBy s.logicalId [1, 0] = [0, 1] ∧ s.savedWorks 0 x = [workOf {}] ∧ s.progOf x = some prog1 ∧
    (∀ i ∈ [0, 1], i < 864 ∧ (s.core i).slotState = 1 ∧ (s.core i).bound.isSome = true ∧ (s.core i).ctx = none ∧
      (s.core i).replaying = false ∧ s.dieRuns (dieOf i) = true ∧ clusterOf i ∈ s.poolCls (s.poolOf 3) ∧
      (s.cluster (clusterOf i)).asleep = false ∧ s.halfOff (clusterOf i) = false) ∧
    x.parked = [] ∧ x.unsent = [] ∧ (workOf {}).groups = [(0, some {})] ∧ ({} : Group).hold = none ∧ Claims.up (s.berth 3).grant.assured 2 ≤ 2 ∧
    (s.placeAll 0 prog1.scrBanks prog1.cacheBanks (sortBy id ([0, 1].map clusterOf).dedup)).isSome = true := by decide +kernel
/-- The bytes of an order record stand apart, each at its own place of the mapped page. -/
def recBytes : List (Nat × List Byte) :=
  (orderRecord (hdr1 1 0) 20000).zipIdx.map fun q => (recordBva prog1 ctxQ + q.2, [q.1])
theorem rec_places : ∀ p ∈ recBytes, p.2.length = 1 ∧ (orders3 (ord 1) ctxQ).bvaLoc 3 .store p.1 = .mem (0xFFF0000 + p.1) := by
  decide +kernel
theorem rec_chain : recBytes.Pairwise fun p q => p.1 < q.1 := by
  have h : (recBytes.map Prod.fst).Pairwise (· < ·) := by
    rw [← List.isChain_iff_pairwise]; decide +kernel
  exact List.pairwise_map.mp h
theorem witness_apart : Claims.Apart ((orders3 (ord 1) ctxQ).bvaLoc 3 .store) recBytes := by
  refine ⟨fun p hp => by rw [(rec_places p hp).2]; rfl, rec_chain.imp_of_mem fun {p q} hp hq h i j hi hj => ?_⟩
  rw [(rec_places p hp).2, (rec_places q hq).2]
  rw [(rec_places p hp).1] at hi; rw [(rec_places q hq).1] at hj
  simp only [Claims.shift, ne_eq, Loc.mem.injEq]; omega

/-! ### The berth transport -/

/-- Interface 0 (a port of one 800GBASE-DR8 link) and interface 3 (half 1 of a port of two), both up. -/
def net (c : Conn) (y : Berth) : State :=
  { box [(3, y)] with
    conns := [(1, some c)], ifaces := [(0, { up := true }), (3, { up := true })], ports := [(0, { mode := 2 }), (1, { mode := 3 })],
    authFail := [(32, 4294967294)] }
def conn3 : Conn := { berth := 3, rxNext := 5, rxGot := [7] }
def berthNet : Berth := { berth3 with grant := { berth3.grant with ports := 3 } }
def pk (seq : Nat) (body : List Byte) : Packet := { iface := 3, conn := 1, seq := seq, body := body }
/-- A packet of a session in order, at the edges of the window, one that has come before, and one by a port the berth has not. -/
theorem witness_PacketsActOnceOnTheirBerth :
    (∀ q ∈ [5, 6, 1029, 1031], Claims.OnSession (net conn3 berthNet) (pk q []) conn3 ∧ Claims.NewSeq conn3 q) ∧
    Claims.NewSeq { conn3 with rxGot := [1028] } 5 ∧
    (∀ q ∈ [0, 4, 7], q < conn3.rxNext ∨ q ∈ conn3.rxGot) ∧ conn3.windows = [] ∧ conn3.waiting = [] ∧
    (net conn3 berthNet).ifaceUp 3 = true ∧ (net conn3 berthNet).conn 2 = none ∧ tget 0 (net conn3 berthNet).authFail 32 < 4294967295 ∧
    (net conn3 berthNet).ip4On 3 = false ∧
    bitAt (3 / 2) ((net conn3 { berthNet with grant := { ports := 1 } }).berth 3).grant.ports = false := by
  unfold Claims.OnSession Claims.NewSeq; decide +kernel
/-- WINDOW_WRITE of 1 byte and of 64, of none, past 48 bits and into a page that is no input page; the writes go to distinct
places. -/
def inNet (inp : Bool) : State :=
  net conn3 { berthNet with map := [(1, some { dpa := 0x10000000, inp := inp }), (0xFFFFFF9E, some { dpa := 0x10010000, inp := inp })] }
def wwBody (a n : Nat) : List Byte := bytesOf 8 a ++ List.replicate n 9
theorem witness_window_write :
    (∀ q ∈ [(0x10000, 1), (0x1FFC0, 64), (0xFFFFFF9EFFFF, 1)], q.2 + 8 = (wwBody q.1 q.2).length ∧ bf (wwBody q.1 q.2) 0 8 = q.1 ∧
      q.1 + q.2 ≤ 281474976710656 ∧ (inNet true).pagesHave 3 q.1 q.2 Page.inp = true ∧ (inNet false).pagesHave 3 q.1 q.2 Page.inp = false) ∧
    (wwBody 0x10000 0).length = 8 ∧ 281474976710656 < 0xFFFFFFFFFFFF + 2 ∧ conn3.writes = [] ∧
    (∀ i, i < 64 → (inNet true).bvaLoc 3 .load (0x1FFC0 + i) = .mem (0x1000FFC0 + i)) ∧
    (∀ i j : Nat, i < 64 → j < 64 → 0x1000FFC0 + i = 0x1000FFC0 + j → i = j) := by
  refine ⟨by decide +kernel, by decide +kernel, by decide +kernel, by decide +kernel, by decide +kernel, by omega⟩

def orderBody (w k : Nat) : List Byte :=
  [3, 1] ++ bytesOf 2 w ++ bytesOf 4 7 ++ bytesOf 4 0 ++ bytesOf 4 1 ++ bytesOf 4 0 ++ bytesOf 2 k ++ bytesOf 2 0 ++
    List.replicate (16 * w + 2 * k) 0
theorem witness_order_packet : ∀ q ∈ [(0, 0), (1, 1), (8, 512)],
    24 + 16 * bf (orderBody q.1 q.2) 2 1 + 2 * bf (orderBody q.1 q.2) 20 2 ≤ (orderBody q.1 q.2).length ∧
    24 ≤ (orderBody q.1 q.2).length := by decide +kernel

/-- CONTROL of a KIND with its number and two values. -/
def ctl (m n a b : Nat) : List Byte := bytesOf 4 m ++ bytesOf 4 n ++ bytesOf 8 a ++ bytesOf 8 b
/-- A bake image at BVA 0x1_0000: one kernel that begins at BVA 0x1_0400, one launch, a cost sheet of one phase. -/
def bakeBytes : List Byte :=
  bytesOf 8 0x454B414238385654 ++ [1, 0, 1, 1, 0, 1, 1, 0] ++ bytesOf 4 1 ++ bytesOf 4 0 ++ bytesOf 8 128 ++ bytesOf 8 160 ++ bytesOf 8 168 ++
    bytesOf 8 0x10400 ++ bytesOf 8 896 ++ List.replicate 64 0 ++
    ([1, 16, 1, 1] ++ bytesOf 4 1 ++ bytesOf 8 0x10400 ++ bytesOf 8 0x10500 ++ bytesOf 8 0) ++ bytesOf 8 0 ++ [1]
def bakeNet (programs : Tbl (Option Program)) : State :=
  let y := { berthNet with map := [(1, some { dpa := 0x10000000, w := true, x := true })], programs := programs }
  { net conn3 y with mem := (bakeBytes.zipIdx.map fun p => (0x10000000 + p.2, p.1)).filter fun p => p.2 != 0 }
theorem witness_ControlMessagesFollowTheTable :
    (∀ m ∈ [1, 2, 3, 4], ∀ v ∈ [0, 256, 257], (ctl m 9 v 0).length = 24 ∧ bf (ctl m 9 v 0) 0 1 = m ∧ bf (ctl m 9 v 0) 4 4 = 9 ∧
      bf (ctl m 9 v 0) 8 8 = v) ∧
    Claims.OnSession (bakeNet []) (pk 5 (ctl 3 9 0x10000 896)) conn3 ∧ Claims.NewSeq conn3 5 ∧ conn3.unacked.length < 4096 ∧
    (bakeNet []).program 3 9 = none ∧ (tkeys ((bakeNet []).berth 3).programs).length < 256 ∧
    ((bakeNet []).bake 3 0x10000 896).isSome = true ∧ (bakeNet []).bake 3 0x10000 895 = none ∧ (bakeNet []).bake 3 0x10001 896 = none ∧
    ((bakeNet [(9, some prog1)]).program 3 9).isSome = true ∧
    256 ≤ (tkeys ((bakeNet ((List.range 256).map fun i => (i, some prog1))).berth 3).programs).length := by
  unfold Claims.OnSession Claims.NewSeq; decide +kernel
/-- REMOVE finds an order of the program that is unanswered, and one that is answered and an idle context. -/
def removes (answered : Bool) : State :=
  { bakeNet [(9, some prog1)] with
    ctxs := [(0, some { berth := 3, program := 9 }), (1, some { berth := 3 })],
    orders := [(5, some { hdr := { hdr1 1 0 with program := 9 }, answered := answered, ctx := 1 })] }
theorem witness_remove :
    ((removes false).order 5).map (fun x => (x.hdr.berth, x.answered, x.hdr.program)) = some (3, false, 9) ∧
    ((removes true).order 5).map (fun x => x.answered) = some true ∧ ((removes true).ctx 0).map Ctx.program = some 9 := by decide +kernel

/-! ### What the device sends -/

/-- An OPEN_REQ of berth 3 with a key of zeros, whose digest the berth holds. -/
def openPk (flag : Byte) : Packet := { iface := 3, body := 3 :: List.replicate 328 0 ++ [flag] }
def keyWords : Tbl Word :=
  let d := sha384 (List.replicate 97 0)
  (List.range 6).map fun j => (j, BitVec.ofNat 64 (ofBytes ((d.drop (8 * j)).take 8)))
def opens (y : Berth) (cs : Tbl (Option Conn)) : State := { net conn3 { y with tkey := keyWords } with conns := cs, nextConn := 9 }
theorem witness_open :
    (openPk 0).ver = 1 ∧ (openPk 0).conn = 0 ∧ (openPk 0).body.length = 330 ∧ bf (openPk 0).body 0 1 = 3 ∧ (openPk 0).authentic = true ∧
    keyWords ≠ [] ∧ sha384 (((openPk 0).body.drop 40).take 97) = ((opens berthNet []).berth 3).tkeyBytes ∧
    sha384 (((openPk 0).body.drop 40).take 97) ≠ ((net conn3 berthNet).berth 3).tkeyBytes := by decide +kernel
theorem witness_open_limits :
    (∀ n ∈ [0, 7], ((opens { berthNet with state := n } []).berth 3).state = n) ∧
    (∀ n ∈ [0, 15], ((opens berthNet ((List.range n).map fun i => (i, some conn3))).connsOf 3).length = n) ∧
    16 ≤ ((opens berthNet ((List.range 16).map fun i => (i, some conn3))).connsOf 3).length ∧
    bitAt (3 / 2) ((opens { berthNet with grant := { ports := 1 } } []).berth 3).grant.ports = false ∧
    tget [] (opens berthNet []).outbox 3 = [] := by decide +kernel
theorem witness_event :
    let s := net conn3 { berthNet with evtPend := 0x8000000000000003, evtMask := 1, evtCount := [(1, 65535)] }
    s.running = true ∧ (s.connsOf 3).getLast? = some 1 ∧ s.conn 1 = some conn3 ∧ (s.iface conn3.iface).up = true ∧
    (List.range 64).filter (fun v => bitAt v (s.berth 3).evtPend && !bitAt v (s.berth 3).evtMask) = [1, 63] := by decide +kernel
/-- A session one tick before and at its next heartbeat, its loss, and the resending of an unacknowledged packet. -/
def sent (tries : Nat) : Conn := { conn3 with unacked := [{ seq := 2, msg := { ty := 0x21 }, tries := tries }] }
def late (c : Conn) (tick : Nat) : State := { net c berthNet with tick := tick }
theorem witness_session_times :
    (∀ t ∈ [0, 15], ∀ n ∈ [9999, 10000, 99999999, 100000000],
      (late (sent t) n).running = true ∧ (late (sent t) n).conn 1 = some (sent t) ∧ (late (sent t) n).tick = n ∧
      (sent t).lastHb = 0 ∧ (sent t).lastAuth = 0 ∧
      (sent t).unacked.find? (fun v => v.seq == 2) = some { seq := 2, msg := { ty := 0x21 }, tries := t }) ∧
    (late (sent 16) 10000).conn 1 = some (sent 16) := by decide +kernel

/-! ### Frames -/

/-- An interface with an address, whose port accepts IPv4. -/
def ethState : State :=
  { net conn3 berthNet with
    ifaces := [(0, { up := true, ip6Lo := 0x0100000000000000, ip4 := 0x0102A8C0 })],
    mft := { running := some { recs := [{ ty := 7, body := List.replicate 128 1 }] } } }
def ip6A : List Byte := List.replicate 15 0 ++ [1]
def ip6B : List Byte := List.replicate 15 0 ++ [2]
/-- An IPv6 frame from ip6B with an ICMPv6 message, its checksum filled in. -/
def icmpFrame (m : List Byte) : List Byte :=
  let c := cksum (pseudo6 ip6B ip6A m.length ++ m)
  List.replicate 12 5 ++ [0x86, 0xDD, 0x60, 0, 0, 0, 0, BitVec.ofNat 8 m.length, 58, 255] ++ ip6B ++ ip6A ++ m.take 2 ++ beBytes 2 c ++ m.drop 4
def arpFrame : List Byte :=
  List.replicate 12 5 ++ [8, 6, 0, 1, 8, 0, 6, 4, 0, 1] ++ List.replicate 10 5 ++ List.replicate 6 0 ++ bytesOf 4 0x0102A8C0
theorem witness_frames :
    ethState.ifaceUp 0 = true ∧ (ethState.iface 0).vlan = 0 ∧ (ethState.iface 0).drop < 4294967295 ∧ ethState.hasIface 0 = true ∧
    ethState.frameKind 0 arpFrame = .arp ∧
    ethState.frameKind 0 (icmpFrame [128, 0, 0, 0, 1, 2, 3, 4, 9]) = .echo ∧
    ethState.frameKind 0 (icmpFrame ([135, 0, 0, 0, 0, 0, 0, 0] ++ ip6A)) = .solicit ∧ ethState.frameKind 0 [] = .other ∧
    40 + nf (icmpFrame [128, 0, 0, 0, 1, 2, 3, 4, 9]) 18 2 = 49 ∧ 49 ≤ (ethState.iface 0).mtu ∧ (({ mtu := 48 } : EthIf)).mtu < 49 ∧
    ethState.rst.ready = true ∧ ethState.aon.moored = false ∧ ethState.ip4On 0 = true ∧ (ethState.port 0).laserOk = false ∧
    (({ ethState with ports := [(0, { mode := 2, laserOk := true })] } : State).port 0).laserOk = true := by decide +kernel

end Sys2Proof.Tests
end

