-- ==== Sys2Proof/Tests/WitBox.lean ====
section
/-! SUPPORT. Witnesses for the statements about power, memory tiers, repair, Manifests, the security controller, the mailbox,
reset and the pins: states and operands that meet the hypotheses of every clause. -/

set_option Elab.async false

namespace Sys2Proof.Tests

open Sys2Proof Sys2Proof.Machine

/-! ### Every step -/

theorem witness_EveryStepKeepsMemoryCanonical :
    State.reset.memOk = true ∧ ({ State.reset with mem := [(0, 1), (1, 2)] } : State).memOk = true ∧
    (match step { State.reset with pending := [.nop c0 0] } with | .next t => t.mem | _ => [(0, 1)]) = [] := by decide +kernel
/-- A tick and a time of an earlier state. -/
theorem witness_OnlyTicksAndPowerGoodMoveTheTime :
    ((next .powerGood { State.reset with rst := { power := false }, tick := 7 }).map State.tick) = some 0 := by decide +kernel
theorem test_idle_tick : (match step { State.reset with tick := 7 } with | .next t => t.tick | _ => 0) = 8 := by decide +kernel

/-! ### Islands, halves and power -/

/-- Die 0 with both halves in a state, cluster 0, and context 0; an order of a pool without clusters. -/
def isle (half : Nat) (c : Cluster) : State :=
  { rst := up, dies := [(0, { pwr := { west := half, east := half, westIdle := 2000, eastIdle := 2000 } })], clusters := [(0, c)],
    ctxs := [(0, some { berth := 1 })] }
theorem witness_IslandsFollowTheirWork :
    (isle 0 {}).halfOff 0 = true ∧ (isle 1 {}).halfOff 0 = false ∧ (isle 1 {}).halfOf 0 = 1 ∧ (isle 1 {}).ctx 0 = some { berth := 1 } ∧
    ((isle 2 { asleep := false, idle := 500 }).quiet 0 = true ∧
      max 1 ((isle 2 { asleep := false, idle := 500 }).die 0).pwr.islandIdle * 10 = 500) ∧
    ({ test := some 3 } : Cluster).asleep = true ∧ ({ waking := true } : Cluster).waking = true ∧
    (∀ e ∈ [0, 1], (∀ j, j < 6 → ((isle 2 {}).cluster (0 * 12 + e * 6 + j)).asleep = true ∧
      ((isle 2 {}).cluster (0 * 12 + e * 6 + j)).waking = false) ∧ ((isle 2 {}).die 0).pwr.halfIdle * 10 ≤ 2000) ∧
    ((isle 2 { asleep := false }).cluster 0).asleep = false := by decide +kernel
/-- A group that can issue keeps its island awake. -/
theorem witness_not_quiet : (coreState {}).quiet 0 = false := by decide +kernel
/-- Nothing keeps die 0 on; a partition does, and an assured order whose pool has cluster 0. -/
def poolOrder (cls : Nat) : State :=
  { box [(3, berth3)] with orders := [(5, some { hdr := hdr1 cls 0 })] }
theorem witness_halves :
    (isle 2 {}).fwActs = true ∧ (∀ j, j < 12 → ((isle 2 {}).cluster (0 * 12 + j)).parts = [] ∧ ((isle 2 {}).cluster (0 * 12 + j)).waking = false) ∧
    ((isle 2 {}).die 0).pwr.rising = none ∧ (isle 2 {}).orders = [] ∧
    ((isle 2 { parts := [(0, some {})] }).cluster 0).parts ≠ [] ∧
    (((poolOrder 0).order 5).map (fun x => (x.hdr.cls, x.answered))) = some (0, false) ∧ 0 ∈ (poolOrder 0).poolCls ((poolOrder 0).poolOf 3) ∧
    ((isle 0 {}).die 0).pwr.west = 0 := by decide +kernel
def rising (u tick : Nat) (st : List Nat) : State :=
  { rst := up, tick := tick, mbx := { linkUp := false }, dies := st.map fun d => (d, { pwr := { rising := some u, steward := true } }) }
theorem witness_steward :
    ((rising 5 5 [0]).die 0).pwr.rising = some 5 ∧ (rising 5 4 [0]).tick < 5 ∧ ((rising 5 5 [0]).die 0).pwr.steward = true ∧
    (∀ e, e < 8 → e ≠ 0 → ((rising 5 5 [0]).die e).pwr.steward = false) ∧ ((rising 5 5 [0, 1]).die 1).pwr.steward = true ∧
    (rising 5 5 [0]).mbx.linkUp = false ∧ ((rising 5 5 [0]).die 7).pwr.steward = false ∧ (rising 5 5 [0]).fwActs = true := by decide +kernel

/-- An update is due; the draw of die 0 is above the cap. -/
def drawing (tick : Nat) (p : Pwr) (f : PowerFig) : State := { rst := up, tick := tick, pwr := p, dies := [(0, { pwr := { fig := f } })] }
theorem witness_bubbles : ∀ n ∈ [9, 10], ∀ st ∈ [2, 5], ∀ f ∈ [({} : PowerFig), { stat := 60000, bulk := 1000, std := 1000, asr := 1000 },
      { stat := 10, bulk := 60000 }],
    let s := drawing n { state := st } f
    s.running = true ∧ s.rst.power = true ∧ s.tick = n ∧ s.pwr.updated = 0 ∧ s.pwr.state = st ∧ s.pwr.estimator ≠ 1 ∧ s.pwr.bulk = 0 ∧
    s.pwr.std = 0 ∧ s.pwr.asr = 0 := by decide +kernel
theorem witness_gain : ∀ p ∈ [({ acc := 4096 * 16, accN := 1 } : Pwr), { missed := 2 }, { estimator := 1 }, {}],
    let s := drawing 10000 p {}
    s.fwActs = true ∧ s.pwr.readTick + 10000 ≤ s.tick ∧ (p.accN = 1 → s.pwr.acc / (4096 * max 1 s.pwr.accN) = 16) := by decide +kernel
theorem witness_emergency : ∀ n ∈ [99999, 100000],
    (drawing n {} {}).pwr.state ≠ 5 ∧ (drawing n { state := 5, calm := some 0 } {}).pwr.state = 5 ∧
    (drawing n { state := 5, calm := some 0 } {}).pwr.emerg = 0 ∧ (drawing n { state := 5, calm := some 0 } {}).pwr.calm = some 0 ∧
    (poolOrder 0).running = true ∧ (((poolOrder 0).order 5).map fun x => (x.answered, x.lastGone)) = some (false, false) := by decide +kernel
def refclk (osc : Bool) (tick : Nat) : State :=
  { rst := up, tick := tick, aon := { osc := osc, refclkGood := some 0 }, ports := [(0, { mode := 1, state := 4, stage := 4 })] }
theorem witness_refclk : (∀ n ∈ [99999, 100000], (refclk true n).aon.osc = true ∧ (refclk true n).aon.refclkGood = some 0) ∧
    (refclk false 0).aon.osc = false ∧ (∀ p, p < 64 → Claims.Bare (refclk false 0) p) ∧ ((refclk false 0).port 0).mode = 1 := by
  unfold Claims.Bare; decide +kernel
theorem witness_cap : ∀ e ∈ [0, 1], (drawing 0 { estimator := e } {}).fwActs = true ∧ (drawing 0 { estimator := e } {}).capLimits = (1400, 3600) ∧
    (drawing 0 { estimator := e } {}).pwr.estimator = e := by decide +kernel

/-! ### Memory tiers and repair -/

/-- Memory of which a byte is older in memory itself; context 0. -/
def tier (slices : Tbl Slice) : State :=
  { rst := up, stackGib := 384, mem := [(0x10000000, 5)], backing := [(0x10000000, some 4)], ctxs := [(0, some {})], slices := slices,
    packages := [0], berths := [(255, { state := 1, grant := { assured := 4, lpxMib := 2 } })], hbm := [(0, { state := 2 })],
    ports := [(0, { state := 4, inq := [{ op := 1, tag := 6 }] })] }
theorem witness_MemoryTiers :
    (tier []).running = true ∧ (tier []).dpaLoc 0x10000000 = .mem 0x10000000 ∧ (tier []).memOk = true ∧ 0x10000000 < lpxBase ∧
    ((tier []).stack (pcStack ((tier []).pcOf 0x10000000).1)).ue < 4294967295 ∧ (tier []).nv.listed.length < 65536 ∧
    (tier []).ctx 0 = some {} ∧ ((tier []).die ((tier []).storeDie 0x10000000)).rpr.lost < 4294967295 ∧
    ((tier []).port 0).inq.find? (fun m => decide (m.op < 0x81) && m.tag == 6) = some { op := 1, tag := 6 } ∧
    ((tier []).port 0).exportWait = [] ∧ ((tier []).port 0).replay.length < 2048 ∧ (tier []).failed = none ∧
    (∀ pc ∈ [0, 511], (tier []).pcMapped pc = false ∧ (tier []).pcFailed pc = false) ∧ ((tier []).stack (pcStack 0)).state = 2 ∧
    (∀ b ∈ tkeys (tier []).berths, b < 256) ∧ 0 ∈ (tier []).packages ∧
    (∀ n ∈ [0, 255], ((tier [(n, { inService := true })]).slice n).inService = true ∧ ((tier [(n, { inService := true })]).slice n).failed = false) := by
  decide +kernel
/-- A stack before and when its sample, its rate step and the throttle of its die are due, at every level. -/
def stackAt (tick : Nat) (x : Stack) : State := { rst := up, tick := tick, hbm := [(7, x)], mdDies := [(3, { hotSince := some 0 })] }
theorem witness_stack :
    (∀ n ∈ [999, 1000, 9999, 10000, 99999, 100000], ∀ v ∈ [0, 1, 2, 3], ∀ m ∈ [1, 2],
      let s := stackAt n { therm := v, noReading := m }
      s.rst.power = true ∧ s.tick = n ∧ (s.stack 7).sampled = 0 ∧ (s.stack 7).therm = v ∧ (s.stack 7).noReading = m ∧ (s.stack 7).stepped = 0 ∧
      (s.mdDie (7 / 2)).hotSince = some 0) ∧
    levelOf 84 = 0 ∧ levelOf 85 = 1 ∧ levelOf 95 = 2 ∧ levelOf 105 = 3 ∧ 75 + 10 * 1 < 83 + 3 ∧ 82 + 3 ≤ 85 := by decide +kernel

/-- Core slot 3 runs order 5 for context 0 from its checkpoint; core slot 8 is a spare, or not. -/
def failing (w k : CoreWork) (spare : Nat) : State :=
  { rst := up, ctxs := [(0, some { switchedIn := true, cores := [3], clusters := [0], order := some 5 })], orders := [(5, some { ctx := 0 })],
    cores := [(3, { slotState := 1, bound := some 2, ctx := some 0, work := w, ckpt := some k, ckptOrder := some 5 }), (8, { slotState := spare })] ++
      [0, 1, 2, 4, 5, 6, 7].map fun i => (i, ({ slotState := 1, bound := some 1 } : Core)) }
theorem witness_core_failure :
    (failing (workOf {}) (workOf {}) 0).running = true ∧ ((failing (workOf {}) (workOf {}) 0).core 3).slotState = 1 ∧
    ((failing (workOf {}) (workOf {}) 0).core 3).bound = some 2 ∧ 3 ∉ (failing (workOf {}) (workOf {}) 0).nv.failedSlots ∧
    ((failing (workOf {}) (workOf {}) 0).core 8).slotState = 0 ∧
    (∀ m, m < 8 → ((failing (workOf {}) (workOf {}) 0).core m).slotState ≠ 0) ∧
    ((failing (workOf {}) (workOf {}) 0).core 3).ckpt = some (workOf {}) ∧
    (∀ m ∈ tkeys (workOf {}).blocks, (tget none (workOf {}).blocks m).isSome = true) ∧
    ((failing (workOf {}) (workOf {}) 0).order 5).map (fun y => (y.runEnded, y.lastGone)) = some (false, false) ∧
    (∃ m ∈ tkeys (workOf {}).blocks, tget none ({} : CoreWork).blocks m = none) ∧
    (∀ j, j < 9 → ((failing (workOf {}) (workOf {}) 1).core j).slotState ≠ 0) ∧
    ((failing {} {} 1).core 8).bound = none ∧ ((failing {} {} 1).core 8).slotState < 2 := by decide +kernel
/-- Core slot 3 has failed and holds its work; core slot 8 is free. -/
def stranded : State :=
  { rst := up, ctxs := [(0, some { switchedIn := true, cores := [3] })],
    cores := [(3, { slotState := 2, ctx := some 0, work := workOf {} }), (8, { slotState := 1, bound := some 2 }), (9, { replaying := true })],
    clusters := [(0, { test := some 1 })] }
theorem witness_resume :
    stranded.dieRuns (8 / 108) = true ∧ (stranded.core 8).slotState = 1 ∧ (stranded.core 8).bound.isSome = true ∧ (stranded.core 8).ctx = none ∧
    (stranded.core 3).slotState = 2 ∧ (stranded.core 3).ctx = some 0 ∧ (stranded.ctx 0).map Ctx.cores = some [3] ∧
    (∀ m, m < 3 → (stranded.core m).slotState ≠ 2) ∧ (stranded.core 9).replaying = true ∧ (stranded.cluster 0).test.isSome = true ∧
    (∀ j ∈ ({ failing := [0, 8] } : TestReport).failing, j < 9) ∧ stranded.failed = none := by decide +kernel

/-! ### Manifests -/

/-- A record with its type, length and padding. -/
def recOf (ty : Nat) (b : List Byte) : List Byte := bytesOf 2 ty ++ bytesOf 2 b.length ++ b ++ List.replicate ((4 - b.length % 4) % 4) 0
/-- The lane groups of a STREAM_BIND record: endpoint on each die, in the order of the lane groups. -/
def bindRec (a z : Nat) : List Byte :=
  let es : List (Nat × Nat) :=
    if a < 8 ∧ z < 0x20 then [(0x80, 0), (0x80, 0), (0x81, 0x81), (0x81, 0x81)] ++ (if a = 0 then [(0, 0), (0, 0)] else [])
    else if a < 8 then List.replicate 4 (0x80, 0x83) ++ (if a = 0 then [(0, 0x82)] else [])
    else if z < 0x20 then (List.range 64).map fun g => (g % 8, g % 8)
    else (List.range 16).map fun g => (g % 8, 0x82)
  recOf 4 (bytesOf 1 a ++ bytesOf 1 z ++ bytesOf 2 es.length ++ es.zipIdx.flatMap fun e => bytesOf 1 e.2 ++ bytesOf 1 e.1.1 ++ bytesOf 1 e.1.2 ++ [0])
/-- A Manifest of one pool with cluster 0, 16 GiB of the tier and slices 0 to 3. -/
def goodRecs : List (List Byte) :=
  [recOf 1 ([2, 8, 0, 0] ++ bytesOf 4 8), recOf 2 (bytesOf 12 1 ++ bytesOf 4 0 ++ bytesOf 32 15),
    recOf 3 ((List.range 256).map fun p => BitVec.ofNat 8 (p % 4)), recOf 5 (vcDies.flatMap fun d => bytesOf 1 d ++ [0x13]), recOf 6 poolBytes,
    recOf 7 (List.replicate 128 0), recOf 9 (bytesOf 2 1400 ++ bytesOf 2 3600 ++ bytesOf 2 1500 ++ [0, 0]), recOf 10 (List.replicate 8 0),
    recOf 12 (bytesOf 4 1 ++ bytesOf 4 0 ++ bytesOf 4 0)] ++ gangways.map fun g => bindRec g.1 g.2.1
def goodArea : List Byte := goodRecs.flatten
def mftOf (live seq : Nat) : List Byte :=
  mftMagic ++ bytesOf 2 1 ++ bytesOf 2 live ++ bytesOf 4 (64 + goodArea.length + trailerLen) ++ bytesOf 8 seq ++ List.replicate 16 0 ++
    bytesOf 4 goodRecs.length ++ bytesOf 4 goodArea.length ++ List.replicate 16 0 ++ goodArea ++ List.replicate trailerLen 0
def validating (b : List Byte) (running : Option Manifest) : State :=
  { rst := up, stackGib := 384, trained := [(0, 8), (8, 8)],
    mft := { phase := .validating, candidate := b, floor := 1, running := running, sigs := { ecdsa := true, lms := true } } }
theorem mft_area : recArea (mftOf 1 2) = recArea (mftOf 0 1) ∧ bf (mftOf 1 2) 0x2C 4 = bf (mftOf 0 1) 0x2C 4 := by decide +kernel
theorem mft_format : formatFails (mftOf 0 1) = [] := by decide +kernel
theorem format_congr (b c : List Byte) (h : recArea b = recArea c) (k : bf b 0x2C 4 = bf c 0x2C 4) : formatFails b = formatFails c := by
  unfold formatFails; rw [h, k]
theorem mft_format_live : formatFails (mftOf 1 2) = [] := by
  exact (format_congr _ _ mft_area.1 mft_area.2).trans mft_format
theorem recs_of (b : List Byte) : (readMft b).recs = (recArea b).1 := rfl
theorem mft_recs : (readMft (mftOf 1 2)).recs = (readMft (mftOf 0 1)).recs :=
  (recs_of _).trans ((congrArg Prod.fst mft_area.1).trans (recs_of _).symm)
theorem mft_structure (b : List Byte) (r : Option Manifest) :
    structureFails (validating b r).silicon (readMft (mftOf 0 1)).recs = [] := by
  have h : structureFails (validating [] none).silicon (readMft (mftOf 0 1)).recs = [] := by decide +kernel
  exact h
theorem mft_resources (b : List Byte) (r : Option Manifest) :
    resourceFails (validating b r).silicon (readMft (mftOf 0 1)).recs = [] := by
  have h : resourceFails (validating [] none).silicon (readMft (mftOf 0 1)).recs = [] := by decide +kernel
  exact h
theorem firstOf_zero (xs : List (Nat × Bool)) (h : ∀ p ∈ xs, p.2 = false) : Claims.firstOf xs = 0 := by
  unfold Claims.firstOf
  rw [List.find?_eq_none.mpr (by simpa using h)]; rfl
theorem mft_not_live : (validating (mftOf 0 1) none).isLive (mftOf 0 1) = false := by decide +kernel
theorem witness_manifest_passes :
    Claims.firstOf (Claims.mftFaults (validating (mftOf 0 1) none) (mftOf 0 1) { ecdsa := true, lms := true }) = 0 := by
  apply firstOf_zero
  have h1 : headerOk (mftOf 0 1) = true := by decide +kernel
  have h2 : (validating (mftOf 0 1) none).keyOk (readMft (mftOf 0 1)).keyId = true := by decide +kernel
  have h5 : (validating (mftOf 0 1) none).seqOk (mftOf 0 1) = true := by decide +kernel
  have h9 : ((validating (mftOf 0 1) none).flashVersions.any (readMft (mftOf 0 1)).accepts) = true := by decide +kernel
  simp [Claims.mftFaults, h1, h2, h5, h9, mft_not_live, mft_format, mft_structure, mft_resources]
/-- A live Manifest beside the one that runs, which differs in its number alone. -/
def old1 : Manifest := readMft (mftOf 0 1)
theorem mft_live : (validating (mftOf 1 2) (some old1)).isLive (mftOf 1 2) = true := by decide +kernel
theorem witness_manifest_live :
    Claims.firstOf (Claims.mftFaults (validating (mftOf 1 2) (some old1)) (mftOf 1 2) { ecdsa := true, lms := true }) = 0 := by
  apply firstOf_zero
  have h1 : headerOk (mftOf 1 2) = true := by decide +kernel
  have h2 : (validating (mftOf 1 2) (some old1)).keyOk (readMft (mftOf 1 2)).keyId = true := by decide +kernel
  have h5 : (validating (mftOf 1 2) (some old1)).seqOk (mftOf 1 2) = true := by decide +kernel
  have h9 : (readMft (mftOf 1 2)).accepts (validating (mftOf 1 2) (some old1)).sec.fwVersion = true := by decide +kernel
  have hs : scopeFails old1 (readMft (mftOf 1 2)) = [] := by decide +kernel
  have hb : (validating (mftOf 1 2) (some old1)).badScope old1 (readMft (mftOf 1 2)) = [] := by decide +kernel
  have hf : (validating (mftOf 1 2) (some old1)).badFit old1 (readMft (mftOf 1 2)) = [] := by decide +kernel
  have hr : (validating (mftOf 1 2) (some old1)).mft.running = some old1 := rfl
  simp [Claims.mftFaults, h1, h2, h5, h9, mft_live, mft_format_live, mft_recs, mft_structure, mft_resources, hs, hb, hf, hr]
theorem witness_manifest_fails :
    Claims.firstOf (Claims.mftFaults (validating [] none) [] {}) = 1 ∧
    Claims.firstOf (Claims.mftFaults (validating (mftOf 0 1) none) (mftOf 0 1) { ecdsa := true }) = 4 ∧
    Claims.firstOf (Claims.mftFaults (validating (mftOf 0 0) none) (mftOf 0 0) { ecdsa := true, lms := true }) = 5 := by decide +kernel
theorem witness_manifest_states : ∀ ph ∈ [MftPhase.idle, .validating, .writing 0 true, .writing 1 false],
    ({ rst := up, mft := { phase := ph } } : State).mft.phase = ph ∧ ({ rst := up, mft := { phase := ph } } : State).fwActs = true := by decide +kernel

/-! ### The security controller -/

/-- The security controller is ready and runs a command, or none, in a lifecycle state. -/
def secState (op : Option Nat) (life top : Nat) (b : List Byte) : State :=
  { box [(3, { state := 1 })] with
    sec := { ready := true, running := op, input := b, entries := [life], top := top, challenge := List.replicate 32 0 },
    mft := { running := some { recs := [{ ty := 10, body := [3, 1, 0, 0, 0, 0, 0, 0] }] } } }
theorem witness_SecRuns : ∀ n ∈ [1, 2, 3, 4, 5, 6],
    Claims.SecRuns (secState (some n) 1 0 [1]) n [1] ∧ Claims.SecRuns (secState none 1 0 []) n (secState none 1 0 []).secInput := by
  unfold Claims.SecRuns; decide +kernel
def lifeBytes (target : Nat) : List Byte := lifeMagic ++ bytesOf 4 target ++ bytesOf 4 1 ++ List.replicate 3100 0
def okSigs : Sigs := { ecdsa := true, lms := true }
theorem witness_lifecycle :
    (∀ t ∈ [2, 3, 4], Claims.firstOf (Claims.lifeFaults { secState none 1 0 [] with berths := [] } (lifeBytes t) okSigs) = 0) ∧
    Claims.firstOf (Claims.lifeFaults (secState none 1 0 []) (lifeBytes 3) okSigs) = 4 ∧
    Claims.firstOf (Claims.lifeFaults (secState none 1 0 []) (lifeBytes 1) okSigs) = 3 ∧
    Claims.firstOf (Claims.lifeFaults (secState none 2 0 []) (lifeBytes 3) {}) = 2 ∧
    Claims.firstOf (Claims.lifeFaults (secState none 1 0 []) [] okSigs) = 1 := by decide +kernel
theorem witness_attest :
    (∀ n ∈ [3, 255], bf (List.replicate 32 0 ++ bytesOf 1 n) 32 1 = n ∧ (List.replicate 32 0 ++ bytesOf 1 n).length = 33) ∧
    ((secState none 1 0 []).berth 3).state ≠ 0 ∧ ((secState none 1 0 []).berth 4).state = 0 ∧ (secState none 1 0 []).lmsOk = false ∧
    (secState none 1 1024 []).lmsOk = true ∧ (secState none 0 0 []).lifecycle = 0 ∧ (secState none 1 0 []).lifecycle ≠ 0 := by decide +kernel
def calHead : List Byte := calMagic ++ [1, 0] ++ List.replicate 342 0
def calOnes : List Byte := (List.range 224).flatMap fun _ => [1, 0, 0, 0]
def calBody : List Byte := calHead ++ calOnes ++ List.replicate 6940 0
def calBytes : List Byte := calBody ++ bytesOf 4 (crc32c calBody) ++ List.replicate 2924 0
theorem cal_body : calBody.length = 0x1FFC := by decide +kernel
theorem of_bytes_four (n : Nat) (h : n < 2 ^ 32) (l : List Byte) : ofBytes ((bytesOf 4 n ++ l).take 4) = n := by
  simp [bytesOf, ofBytes]; omega
theorem crc_small (m : List Byte) : crc32c m < 2 ^ 32 := by unfold crc32c; exact BitVec.isLt _
theorem crc_field (m l : List Byte) (h : m.length = 0x1FFC) :
    bf (m ++ bytesOf 4 (crc32c m) ++ l) 0x1FFC 4 = crc32c ((m ++ bytesOf 4 (crc32c m) ++ l).take 0x1FFC) := by
  unfold bf
  rw [List.append_assoc, List.drop_left' h, List.take_left' h, of_bytes_four _ (crc_small _)]
theorem cal_crc : bf calBytes 0x1FFC 4 = crc32c (calBytes.take 0x1FFC) := crc_field calBody _ cal_body
theorem bf_zeros (k n off : Nat) (r : List Byte) (h : off + n ≤ k) : bf (List.replicate k 0 ++ r) off n = 0 := by
  have hz : ∀ m, ofBytes (List.replicate m 0) = 0 := by
    intro m; induction m with
    | zero => rfl
    | succ m ih => rw [List.replicate_succ, ofBytes, ih]; rfl
  unfold bf
  rw [List.drop_append_of_le_length (by simp; omega), List.drop_replicate, List.take_append_of_le_length (by simp; omega),
    List.take_replicate, hz]
theorem bf_drop (b : List Byte) (k off n : Nat) : bf b (k + off) n = bf (b.drop k) off n := by unfold bf; rw [List.drop_drop]
theorem inRange_zeros (b r : List Byte) (k m off n count : Nat) (sx : Bool) (lo hi : Int) (hb : b.drop k = List.replicate m 0 ++ r)
    (hk : k ≤ off) (hm : off - k + n * count ≤ m) (hl : lo ≤ 0) (hh : 0 ≤ hi) : inRange b off n count sx lo hi = true := by
  unfold inRange
  simp only [List.all_eq_true, List.mem_range, Bool.and_eq_true, decide_eq_true_eq]
  intro i hi'
  have hin : i * n + n ≤ n * count := by
    have : n * (i + 1) ≤ n * count := Nat.mul_le_mul_left n hi'
    rw [Nat.mul_add, Nat.mul_comm n i] at this; omega
  have e : bf b (off + i * n) n = 0 := by
    rw [show off + i * n = k + (off - k + i * n) by omega, bf_drop, hb, bf_zeros _ _ _ _ (by omega)]
  rw [e]
  cases sx <;> simp [signed] <;> exact ⟨hl, hh⟩
theorem cal_tail : calBytes.drop 0x4E0 = List.replicate 6940 0 ++ (bytesOf 4 (crc32c calBody) ++ List.replicate 2924 0) := by
  have h : (calHead ++ calOnes).length = 0x4E0 := by decide +kernel
  unfold calBytes calBody
  rw [List.append_assoc, List.append_assoc, List.drop_left' h]
theorem cal_front : calBytes.drop 10 = List.replicate 342 0 ++ (calOnes ++ (List.replicate 6940 0 ++ (bytesOf 4 (crc32c calBody) ++ List.replicate 2924 0))) := by
  have h : (calMagic ++ [1, 0] : List Byte).length = 10 := by decide +kernel
  unfold calBytes calBody calHead
  simp only [List.append_assoc] at h ⊢
  rw [← List.append_assoc, List.drop_left' h]
theorem ones_range (r : List Byte) : ∀ n i, i < n → bf ((List.range n).flatMap (fun _ => ([1, 0, 0, 0] : List Byte)) ++ r) (i * 4) 4 = 1 := by
  intro n
  induction n with
  | zero => intro i h; omega
  | succ n ih =>
    intro i h
    rw [List.range_succ_eq_map, List.flatMap_cons, List.flatMap_map, List.append_assoc]
    cases i with
    | zero => rfl
    | succ i =>
      rw [show (i + 1) * 4 = 4 + i * 4 by omega, bf_drop]
      exact ih i (by omega)
theorem cal_middle : inRange calBytes 0x160 4 224 false 1 0xFFFFFF = true := by
  have h : calHead.length = 0x160 := by decide +kernel
  have hd : calBytes.drop 0x160 = calOnes ++ (List.replicate 6940 0 ++ (bytesOf 4 (crc32c calBody) ++ List.replicate 2924 0)) := by
    unfold calBytes calBody
    rw [List.append_assoc, List.append_assoc, List.append_assoc, List.drop_left' h]
  unfold inRange
  simp only [List.all_eq_true, List.mem_range, Bool.and_eq_true, decide_eq_true_eq]
  intro i hi
  rw [bf_drop, hd]
  unfold calOnes
  rw [ones_range _ 224 i hi]
  decide
theorem cal_ranges : calRanges calBytes = true := by
  unfold calRanges
  rw [inRange_zeros calBytes _ _ _ 0x20 2 128 true (-128) 128 cal_front (by omega) (by omega) (by omega) (by omega),
    inRange_zeros calBytes _ _ _ 0x120 1 39 true (-10) 20 cal_front (by omega) (by omega) (by omega) (by omega), cal_middle,
    inRange_zeros calBytes _ _ _ 0x4E0 2 1024 false 0 4095 cal_tail (by omega) (by omega) (by omega) (by omega),
    inRange_zeros calBytes _ _ _ 0xCE0 2 512 false 0 20000 cal_tail (by omega) (by omega) (by omega) (by omega)]
  rfl
theorem witness_calibration : Claims.firstOf (Claims.calFaults (secState none 1 0 []) calBytes okSigs) = 0 := by
  apply firstOf_zero
  have h1 : calBytes.length = 11116 ∧ calBytes.take 8 = calMagic ∧ bf calBytes 8 2 = 1 ∧
    (calBytes.drop 0x10).take 16 = (secState none 1 0 []).sec.serial ∧ (secState none 1 0 []).lifecycle = 1 := by decide +kernel
  have h3 : calReserved calBytes = true := by decide +kernel
  have h2 := cal_ranges
  have h4 := cal_crc
  generalize calBytes = b at h1 h2 h3 h4 ⊢
  obtain ⟨a1, a2, a3, a4, a5⟩ := h1
  simp [Claims.calFaults, a1, a2, a3, a4, a5, h2, h3, h4, okSigs]
theorem witness_calibration_fails :
    Claims.firstOf (Claims.calFaults (secState none 1 0 []) [] {}) = 1 ∧
    Claims.firstOf (Claims.calFaults (secState none 0 0 []) [] {}) = 3 := by decide +kernel
def tokenBytes (l : Nat) : List Byte := tokenMagic ++ bytesOf 8 l ++ List.replicate 2972 0
theorem witness_token :
    (∀ l ∈ [1, 2], Claims.firstOf (Claims.tokenFaults (secState none 1 0 []) (tokenBytes l) okSigs) = 0) ∧
    Claims.firstOf (Claims.tokenFaults (secState none 1 0 []) (tokenBytes 3) okSigs) = 10 ∧
    Claims.firstOf (Claims.tokenFaults (secState none 3 0 []) (tokenBytes 3) okSigs) = 0 ∧
    Claims.firstOf (Claims.tokenFaults (secState none 1 0 []) (tokenBytes 4) okSigs) = 1 := by decide +kernel
theorem witness_hss : ({ reserving := true } : Sec).reserving = true ∧ 524288 ≤ ({ next := 524288 } : Sec).next % 1048576 ∧
    ({ next := 524288 } : Sec).built ≤ 524288 / 1048576 := by decide +kernel

/-! ### The mailbox -/

def req (b : List Byte) : MbxReq := { tag := 9, body := b }
/-- Firmware serves the mailbox. -/
def srv (s : State) : State := { s with rst := up, mbx := {} }
theorem serving (s : State) (h : s.stopped = false ∧ s.aon.tripped = false ∧ s.aon.moored = false ∧ s.failed = none) : Claims.Serving (srv s) :=
  ⟨rfl, rfl, h.1, h.2.1, h.2.2.1, h.2.2.2, rfl, rfl, rfl⟩
theorem witness_Asks : ∀ n ∈ [0, 1, 2, 8, 10, 12, 20, 28, 56], Claims.Asks (srv State.reset) (req (List.replicate n 1)) n := by
  intro n h
  exact ⟨serving _ ⟨rfl, rfl, rfl, rfl⟩, rfl, List.length_replicate ..⟩
/-- Every way in which a doorbell is turned away. -/
theorem witness_DoorbellsAreServedOrTurnedAway :
    (∀ s ∈ [({ rst := { power := false } } : State), { mbx := { linkUp := false } }, { stopped := true }, { aon := { tripped := true } }],
      s.rst.power = false ∨ s.mbx.linkUp = false ∨ s.stopped = true ∨ s.aon.tripped = true) ∧
    (∀ s ∈ [({ rst := up } : State), { aon := { moored := true } }, { rst := { recovery := true } }, { rst := up, failed := some 1 }],
      s.rst.power = true ∧ s.mbx.linkUp = true ∧ s.stopped = false ∧ s.aon.tripped = false ∧ s.mbx.req = none ∧
      (s.aon.moored = true ∨ s.rst.recovery = true ∨ s.rst.fwUp = true)) ∧
    ({ mbx := { req := some (1, 2, .berth, true) } } : State).mbx.req.isSome = true ∧ (req [1]).body.length ≠ 0 ∧
    ({ tag := 1, clean := false } : MbxReq).clean = false ∧ 65535 < 65536 := by decide +kernel
theorem witness_mbx_row (r : MbxReq) (g : Sigs) : Claims.MbxRow r g (.info r) 0x01 0 ∧ Claims.MbxRow r g (.unmoor r) 0x81 0 := by
  unfold Claims.MbxRow; constructor <;> simp
/-- Commands without a body, on the states that they find. -/
theorem witness_mailbox_empty :
    (let s := { secState none 3 0 [] with berths := [] }
     min s.grantLevel s.maxLevel = 3 ∧ (∀ b, b < 256 → (s.berth b).state = 0) ∧ s.mft.phase = .idle) ∧
    min (srv State.reset).grantLevel (srv State.reset).maxLevel ≠ 3 ∧ ((in3 1).berth 3).state ≠ 0 ∧
    ({ engaged := true } : State).engaged = true ∧ (({ engaged := true } : State).die 0x20).dbg.stopped = false ∧
    (let s : State := { aon := { moored := true } }
     s.rst.power = true ∧ s.mbx.linkUp = true ∧ s.stopped = false ∧ s.aon.moored = true ∧ s.mbx.req = none ∧ (req []).clean = true) := by
  decide +kernel
/-- One byte: a die with its halves off, one with a half on, no die; an image; a category. -/
theorem witness_mailbox_one : (∀ n ∈ [0, 7, 8, 33, 255], Claims.arg (req (bytesOf 1 n)) 0 1 = n) ∧
    isDie 7 = true ∧ isDie 8 = false ∧ isDie 33 = true ∧ ((isle 0 {}).die 0).pwr.west = 0 ∧ ((isle 2 {}).die 0).pwr.west ≠ 0 := by decide +kernel
/-- Two bytes: the cap; a rail and its offset; a die and a switch; a port and a half; a cluster. -/
theorem witness_mailbox_two :
    (∀ w ∈ [1375, 1400, 1401, 3600, 3625], Claims.arg (req (bytesOf 2 w)) 0 2 = w) ∧ (srv State.reset).capLimits = (1400, 3600) ∧
    (∀ q ∈ [(0, 30), (13, 226), (13, 225), (14, 0), (7, 1), (7, 2), (8, 1), (63, 0), (64, 1), (7, 11)],
      Claims.arg (req (bytesOf 1 q.1 ++ bytesOf 1 q.2)) 0 1 = q.1 ∧ Claims.arg (req (bytesOf 1 q.1 ++ bytesOf 1 q.2)) 1 1 = q.2) ∧
    (signed 8 226).natAbs = 30 ∧ (signed 8 225).natAbs = 31 ∧ (signed 8 30).natAbs = 30 ∧ (secState none 3 0 []).lifecycle = 3 ∧
    (isle 0 {}).mayPowerOff 0 = true ∧ (isle 0 { waking := true }).mayPowerOff 0 = false ∧
    (∀ m ∈ [0, 1, 2, 3], ((linked { state := 4, stage := 4 } 0).port m).mode = [1, 2, 0, 0].getD m 9) ∧
    ((linked { state := 4, stage := 4 } 0).port 0).carries = true ∧ ((linked {} 0).port 0).carries = false ∧
    ((isle 2 {}).cluster 11).asleep = true ∧ ((isle 2 {}).cluster 11).parts = [] ∧ (isle 2 {}).halfOff 11 = false ∧ (isle 0 {}).halfOff 11 = true := by
  decide +kernel
/-- EXPORT: port, entry, flags, berth and base at their ends; an entry that a request uses. -/
def exBody (p e f b u : Nat) : List Byte := bytesOf 1 p ++ bytesOf 1 e ++ bytesOf 1 f ++ bytesOf 1 b ++ bytesOf 4 u
theorem witness_export : (∀ q ∈ [(0, 0, 0, 0, 0), (63, 127, 3, 255, 262143), (64, 0, 0, 0, 0), (0, 128, 0, 0, 0), (0, 0, 4, 0, 0), (0, 0, 0, 0, 262144)],
      let r := req (exBody q.1 q.2.1 q.2.2.1 q.2.2.2.1 q.2.2.2.2)
      Claims.arg r 0 1 = q.1 ∧ Claims.arg r 1 1 = q.2.1 ∧ Claims.arg r 2 1 = q.2.2.1 ∧ Claims.arg r 3 1 = q.2.2.2.1 ∧ Claims.arg r 4 4 = q.2.2.2.2) ∧
    bitAt 0 ((served (ask 1 0 0 0) 0x103).berth 1).grant.ports = true ∧ bitAt 0 ((served (ask 1 0 0 0) 0x103).berth 2).grant.ports = false ∧
    (∃ m ∈ ((served (ask 1 0 0 0) 0x103).port 0).inq, m.op < 0x81 ∧ exportOf m.addr = 127) := by decide +kernel
theorem witness_reg_read :
    (∀ q ∈ [(0, 0x30010, 1), (0, 0, 256), (0, 0, 257), (0, 0, 0)],
      let r := req (bytesOf 4 q.1 ++ bytesOf 4 q.2.1 ++ bytesOf 2 q.2.2)
      Claims.arg r 1 3 = 0 ∧ Claims.arg r 4 4 = q.2.1 ∧ Claims.arg r 8 2 = q.2.2) ∧
    (srv State.reset).debugLevel = 0 ∧ readLevel 0 0x30010 = 0 ∧ 0 < readLevel 0 0x100000 := by decide +kernel
/-- Bodies whose input DMA delivers: a Manifest of 64 bytes, an image, a command of the security controller. -/
def imgBytes (key : Nat) : List Byte :=
  imageMagic ++ bytesOf 2 1 ++ bytesOf 1 key ++ [0] ++ bytesOf 4 7 ++ bytesOf 4 1 ++ List.replicate 172 0 ++ List.replicate 2925 0
theorem witness_delivered : ∀ n ∈ [0, 64],
    let b : List Byte := List.replicate n 5
    Claims.Delivered { req (bytesOf 8 16 ++ bytesOf 4 n) with dma := some b } 0 8 b := by
  unfold Claims.Delivered; decide +kernel
theorem witness_undelivered : Claims.Undelivered (req (bytesOf 8 16 ++ bytesOf 4 9)) 0 8 := by
  intro b h; exact absurd h.2.1 (by simp [req])
theorem witness_image :
    (let r : MbxReq := { req (bytesOf 8 1 ++ bytesOf 8 16 ++ bytesOf 4 (imgBytes 3).length) with dma := some (imgBytes 3) }
     Claims.arg r 0 1 = 1 ∧ Claims.arg r 1 7 = 0 ∧ r.body.length = 20 ∧ Claims.arg r 16 4 = (imgBytes 3).length) ∧
    Claims.firstOf (Claims.imageFaults (srv State.reset) 1 (imgBytes 3) okSigs) = 0 ∧
    Claims.firstOf (Claims.imageFaults (srv State.reset) 0 (imgBytes 3) okSigs) = 3 ∧
    Claims.firstOf (Claims.imageFaults (srv State.reset) 1 (imgBytes 3) {}) = 2 ∧
    Claims.firstOf (Claims.imageFaults (srv State.reset) 1 [] okSigs) = 1 := by decide +kernel
def ifBody (i m v : Nat) : List Byte := bytesOf 2 i ++ bytesOf 2 m ++ bytesOf 2 v ++ bytesOf 2 0 ++ List.replicate 20 3
theorem witness_if_config : ∀ q ∈ [(0, 1280, 0), (127, 9000, 4095), (128, 1280, 0), (0, 1279, 0), (0, 9001, 0), (0, 1280, 4096)],
    let r := req (ifBody q.1 q.2.1 q.2.2)
    Claims.arg r 0 2 = q.1 ∧ Claims.arg r 2 2 = q.2.1 ∧ Claims.arg r 4 2 = q.2.2 ∧ Claims.arg r 6 2 = 0 ∧ r.body.length = 28 := by decide +kernel
theorem witness_sec_command : ∀ op ∈ [0, 1, 6, 7],
    let r := req (bytesOf 8 op ++ List.replicate 20 0)
    Claims.arg r 0 1 = op ∧ Claims.arg r 1 7 = 0 ∧ Claims.arg r 16 4 = 0 ∧ r.body.length = 28 ∧ (srv State.reset).sec.running = none := by decide +kernel
/-- BERTH and BERTH_KEY. -/
theorem witness_berth_command :
    (∀ op ∈ [0, 2, 8, 15, 16], let r := req (bytesOf 1 op ++ bytesOf 1 3 ++ bytesOf 6 0 ++ List.replicate 48 1)
      Claims.arg r 0 1 = op ∧ Claims.arg r 1 1 = 3 ∧ Claims.arg r 2 6 = 0 ∧ r.body.length = 56) ∧
    (∀ b ∈ [3, 255], let r := req (bytesOf 8 b ++ List.replicate 48 1)
      Claims.arg r 0 1 = b ∧ Claims.arg r 1 7 = 0 ∧ r.body.length = 56) ∧
    (srv (in3 1)).mft.running.isSome = true ∧ ((srv (in3 6)).berth 3).state = 6 ∧ (srv (in3 1)).bth.running = none := by decide +kernel
theorem witness_not_held : ∀ q, (srv (in3 1)).poolHeld q = false := fun _ => rfl

/-! ### Reset and boot -/

def boots (r : Rst) (fuse : Nat) : State := { rst := { r with pending := true }, sec := { revoked := fuse } }
theorem witness_boot :
    (∀ f ∈ [true, false], (boots { bootFrom5 := f } 0).bootMay = true ∧ (boots { bootFrom5 := f } 0).failed = none ∧
      (boots { bootFrom5 := f } 0).mft.running = none ∧ (boots { bootFrom5 := f } 0).rst.bootFrom5 = f) ∧
    (∀ i, i < 2 → (boots {} 1).imageFits i = false) ∧ (∀ i, i < 2 → (boots {} 0).imageFits i = true) ∧
    ((boots { firmwares := [(1, some {})] } 0).imageFits 0 = false ∧ (boots { firmwares := [(1, some {})] } 0).imageFits 1 = true) ∧
    tget none (boots {} 0).rst.firmwares 0 = some {} ∧ (boots {} 0).imageGood {} = true ∧ (boots {} 0).sec.fwDigest = ({} : Image).digest ∧
    (boots {} 1).imageGood {} = false ∧ (∀ k, k < 2 → (tget {} (boots {} 0).mft.slots k).bytes = []) := by decide +kernel
theorem witness_silicon :
    Claims.BootsWell State.reset {} ∧ Claims.BootsWell State.reset { pcFails := [0, 4, 8, 12] } ∧
    (4 < Claims.lostAt State.reset { pcFails := [1, 5, 9, 13, 17] } 1 ∧ Claims.lostAt State.reset { pcFails := [1, 5, 9, 13, 17] } 0 ≤ 4) := by
  unfold Claims.BootsWell; decide +kernel
theorem witness_no_boot : ∀ s ∈ [({ rst := up } : State), { rst := { power := false } }, { rst := { refclk := false } }, { rst := { resetIn := true } },
      { aon := { tripped := true } }],
    s.rst.pending = false ∨ s.rst.power = false ∨ s.rst.refclk = false ∨ s.rst.resetIn = true ∨ s.aon.tripped = true := by decide +kernel
theorem witness_resets :
    ((isle 0 {}).fwActs = true ∧ ((isle 0 {}).die 0).pwr.west = 0 ∧ ((isle 0 {}).die 0).pwr.rising = none ∧ ((isle 1 {}).die 0).pwr.west ≠ 0) ∧
    (({ dies := [(0, { resetEnd := some 5 })] } : State).die 0).resetEnd = some 5 ∧
    (∀ n ∈ [99999999, 100000000], ∀ k ∈ [0, 1, 7], let s : State := { tick := n, rst := { watchdog := some 0, tries := k } }
      s.rst.watchdog = some 0 ∧ s.rst.tries = k ∧ s.failed = none) ∧
    State.reset.rst.power = true ∧ State.reset.rst.vddAon = true ∧ ({ rst := { power := false } } : State).rst.power = false ∧
    ({ rst := up, stopped := true } : State).stopped = true := by decide +kernel

/-! ### Registers, observation and pins -/

theorem witness_registers :
    ({ rst := up, stackGib := 384 } : State).dpaLoc 0x10000000 = .mem 0x10000000 ∧ 0x10000000 < csBase ∧
    (({ rst := up } : State).die 7).mon.csErr < 4294967294 ∧ ({ rst := up } : State).mbx.linkUp = true ∧ ({ rst := up } : State).fwActs = true := by
  decide +kernel
theorem witness_ObservationAndPinsFollowTheirRows :
    ((isle 2 {}).fwActs = true ∧ ((isle 2 {}).cluster 11).asleep = true ∧ ((isle 2 {}).cluster 11).test = none) ∧
    (({ dies := [(0, { state := 2 })] } : State).die 0).state ≠ 0 ∧ (srv (in3 1)).mbx.req = none ∧
    (let s : State := { rst := up, engaged := true, stopAsked := true }
     s.engaged = true ∧ s.stopAsked = true ∧ s.stopped = false ∧ (s.die 0).dbg.stopped = false ∧ s.rst.power = true ∧ s.aon.moored = false) ∧
    isDie 0x21 = true ∧
    (∀ n ∈ [9, 10], (({ aon := { runLow := [(3, n)] } } : State).aon.runLow) = [(3, n)]) ∧
    (∀ n ∈ [9999999, 10000000], ∀ k ∈ [8, 9], let s : State := { rst := up, tick := n, pwr := { total := 16001 }, aon := { coolRun := k } }
      s.running = true ∧ 16000 < s.pwr.total ∧ s.aon.coolTick = 0 ∧ s.aon.coolRun = k ∧ s.aon.reversed = false) := by decide +kernel

end Sys2Proof.Tests
end

