-- ==== Sys2Proof/Tests/WitCore.lean ====
section
/-! SUPPORT. States and operands that meet the hypotheses of the statements about core instructions, clause by clause. -/

set_option Elab.async false

namespace Sys2Proof.Tests

open Sys2Proof Sys2Proof.Machine

/-- Group `g` of the fixture issues word `W`. -/
def Iss (g : Group) (W : Word) : Prop := Claims.Issues (coreState g) c0 W 0 ctx0 g

def issB (g : Group) (W : Word) : Bool :=
  decide ((coreState g).runGroup c0 = some (0, ctx0, g)) && (coreState g).fetchOk 1 g.pc && legalWord g.width W && allocOk g.regs W
theorem iss_iff (g : Group) (W : Word) : Iss g W ↔ issB g W = true := by
  unfold Iss issB Claims.Issues; rw [Bool.and_eq_true, Bool.and_eq_true, Bool.and_eq_true, decide_eq_true_eq, and_assoc, and_assoc]; rfl

/-- A group with 16 registers a thread, and one of 256 registers a thread at the last registers. -/
def gA : Group := { g3 3 4 5 6 7 with regs := 16 }
def gZ : Group := { gA with regs := 256 }

theorem witness_VectorArithmeticWritesActiveLanes :
    (∀ r ∈ Claims.arithRows, Iss gA (wordOf r.op (vv 4 1 2 0 0))) ∧ (∀ r ∈ Claims.arithRows, Iss gZ (wordOf r.op (vv 255 255 255 0 0x200000))) ∧
    (∀ r ∈ Claims.arithRows, Iss gA (wordOf (0x40 + r.op) (vs 4 1 0 1 7))) ∧
    (∀ r ∈ Claims.arithRows, Iss gZ (wordOf (0x40 + r.op) (vs 255 255 2 0 63))) := by
  simp only [iss_iff]; decide +kernel

theorem witness_VectorBitsAndMovesWriteTheirDestination :
    (∀ r ∈ Claims.bitRows, Iss gA (wordOf r.op (vv 4 1 2 0 0))) ∧ (∀ r ∈ Claims.bitRows, Iss gA (wordOf (0x40 + r.op) (vs 4 1 0 1 31))) ∧
    Iss gA (wordOf 0x0C (vv 4 1 2 7 0)) ∧ Iss gA (wordOf 0x0D (vv 15 1 2 0 0)) ∧ Iss gA (wordOf 0x5C (vs 15 0 0 0 63)) ∧
    Iss gA (wordOf 0x5E (vs 15 0 0 0 0)) ∧ Iss gA (wordOf 0x5D (vs 63 1 0 1 63)) := by
  simp only [iss_iff]; decide +kernel

theorem witness_ComparesAndMaskFunctionsWriteMasks :
    Iss gA (wordOf 0x10 (vv 7 1 2 0 0x205000)) ∧
    (∀ r ∈ Claims.mlogRows, r.2 ≤ 5 → Iss gA (withField 24 4 r.2 (wordOf 0x8F (bb 7 1 0 0 0)))) ∧
    Iss gA (withField 24 4 6 (wordOf 0x8F (bb 1 0 0 63 0))) ∧ Iss gA (withField 24 4 7 (wordOf 0x8F (bb 0 7 0 63 0))) := by
  simp only [iss_iff]; decide +kernel

theorem witness_FunctionsAndConversionsWriteTheirSpan :
    Iss gA (wordOf 0x18 (vv 4 1 0 0 0x200000)) ∧ Iss gA (wordOf 0x19 (vv 4 1 0 0 0x220000)) ∧
    Iss gA (wordOf 0x1A (vv 4 1 0 0 0x200000)) ∧ Iss gA (wordOf 0x1B (vv 4 1 0 0 0x200000)) ∧
    Iss gA (wordOf 0x90 (cc 4 2 0 0x01800000)) ∧ Iss gA (wordOf 0x91 (cc 0 0 0 (63 * 2 ^ 14))) := by
  simp only [iss_iff]; decide +kernel

/-- The operands of the special cases: NaN, both zeros, both infinities, a number below zero. -/
theorem witness_special_operands :
    f32dec 0x7FC00001 = .nan ∧ (f32dec 0x80000000).isZero = true ∧ (f32dec 0x80000000).neg? = true ∧
    f32dec 0xFF800000 = .inf true ∧ (f32dec 0xBF800000).neg? = true ∧ (f32dec 0xBF800000).isZero = false := by decide +kernel

theorem witness_ScalarOperationsWriteTheirRegister :
    ∀ r ∈ Claims.scalarRows, r.op ≠ 0x6D → Iss gA (wordOf r.op (vs 63 62 0 1 0xFFFFFFFF)) ∧ Iss gA (wordOf r.op (vs 3 1 0 0 63)) := by
  simp only [iss_iff]; decide +kernel
theorem witness_smov : Iss gA (wordOf 0x6D (vs 63 0 0 1 0xFFFFFFFF)) := by simp only [iss_iff]; decide +kernel

/-- A group whose s1 is 8 and whose s2 is 4. -/
def gJ : Group := g3 0 0 0 8 4
theorem witness_BranchesMoveThePc :
    Iss gA (wordOf 0x80 (bb 0 0 0 0 0x800000)) ∧ Iss gA (withField 46 1 0 (wordOf 0x81 (bb 0 1 0 0 4))) ∧
    Iss gA (withField 46 1 1 (wordOf 0x81 (bb 0 7 0 0 4))) ∧ Iss gA (wordOf 0x82 (bb 0 0 0 63 4)) ∧
    Iss gA (wordOf 0x83 (bb 0 0 0 1 4)) ∧ Iss gA (wordOf 0x84 (bb 0 0 0 63 4)) ∧
    (Iss gJ (wordOf 0x85 (bb 0 0 0 1 0)) ∧ (gJ.sreg 1).toNat % 8 = 0) ∧
    Iss gJ (wordOf 0x85 (bb 0 0 0 2 0)) ∧ (gJ.sreg 2).toNat % 8 ≠ 0 := by
  simp only [iss_iff]; decide +kernel

/-- A mask stack of 15 entries, of 16, and of one (the branches of MaskStackFollowsTheTable: witness_BranchesMoveThePc). -/
def gS (n : Nat) : Group := { gA with stack := List.replicate n ⟨3, 2, 64⟩ }
theorem witness_MaskStackFollowsTheTable :
    (∀ op ∈ [0x88, 0x8B], Iss (gS 15) (wordOf op (if op = 0x88 then bb 0 1 0 0 4 else bb 0 0 0 0 4)) ∧ (gS 15).stack.length < 16) ∧
    (∀ op ∈ [0x88, 0x8B], Iss (gS 16) (wordOf op (if op = 0x88 then bb 0 1 0 0 4 else bb 0 0 0 0 4)) ∧ 16 ≤ (gS 16).stack.length) ∧
    (∀ p ∈ [(0x89, bb 0 0 0 0 4), (0x8A, 0), (0x8C, bb 0 1 0 0 0), (0x8D, bb 0 1 0 0 0), (0x8E, 0)],
      (Iss (gS 1) (wordOf p.1 p.2) ∧ (gS 1).stack = ⟨3, 2, 64⟩ :: []) ∧ Iss gA (wordOf p.1 p.2) ∧ gA.stack = []) := by
  simp only [iss_iff]; decide +kernel

/-! ### Memory -/

/-- One byte per lane at 0x100: reached, and the last byte of the page with the access behind it unmapped. -/
def gM : Group := g3 0 0 0 0x100 0
theorem witness_LoadsReadTheirPlacesOrFault :
    (Iss gM (wordOf 0x70 (mm 4 0 0 1 0)) ∧
      ∀ t, t < 64 → Claims.lane? gM t = true → Claims.address gM (wordOf 0x70 (mm 4 0 0 1 0)) t % 1 = 0 ∧
        Claims.address gM (wordOf 0x70 (mm 4 0 0 1 0)) t < 281474976710656 ∧
        Claims.isLocal ((coreState gM).engineLoc ctx0 (clusterOf 0) .load (Claims.address gM (wordOf 0x70 (mm 4 0 0 1 0)) t)) = true) ∧
    Iss gM (wordOf 0x72 (mm 63 0 0 1 0xC00000)) ∧ Claims.scAddress gM (wordOf 0x72 (mm 63 0 0 1 0xC00000)) % 8 = 0 ∧
    Claims.scAddress gM (wordOf 0x72 (mm 63 0 0 1 0xC00000)) < deviceRegion ∧
    Claims.isLocal ((coreState gM).engineLoc ctx0 (clusterOf 0) .load (Claims.scAddress gM (wordOf 0x72 (mm 63 0 0 1 0xC00000)))) = true ∧
    (∀ ln, ((coreState gM).line ln).pend = []) := by
  refine ⟨?_, ?_, ?_, ?_, ?_, fun ln => rfl⟩
  · simp only [iss_iff]; decide +kernel
  · simp only [iss_iff]; decide +kernel
  all_goals decide +kernel

/-- Lane 0 of the word at s1 + 1 is off its size; lane 0 at 2^48 has an upper bit set. -/
def gHi : Group := g3 0 0 0 0x1000000000000 0
def hiWord : Word := wordOf 0x71 (mm 0 0 2 1 0x800000)
def offWord (op : Nat) : Word := wordOf op (if op = 0x70 then mm 4 0 0 1 0x800001 else mm 0 0 2 1 0x800001)
theorem witness_lane_faults :
    (∀ op ∈ [0x70, 0x71, 0x77, 0x78, 0x79, 0x7A, 0x7B, 0x7C, 0x7D, 0x7E, 0x7F], Iss gM (offWord op) ∧
      Claims.waitsFirst (coreState gM) c0 (offWord op) = false ∧ Claims.lane? gM 0 = true ∧
      Claims.address gM (offWord op) 0 % 2 ^ fld 22 2 (offWord op) ≠ 0) ∧
    Iss gHi hiWord ∧ Claims.waitsFirst (coreState gHi) c0 hiWord = false ∧
    (∀ u, u < 64 → Claims.lane? gHi u = true → Claims.address gHi hiWord u % 2 ^ fld 22 2 hiWord = 0) ∧
    281474976710656 ≤ Claims.address gHi hiWord 0 := by
  simp only [iss_iff]; decide +kernel

theorem reach_of (g : Group) (W : Word) (acc : Acc)
    (h : (List.range 64).all (fun t => !Claims.lane? g t || (Claims.address g W t % 2 ^ fld 22 2 W == 0 &&
      decide (Claims.address g W t < 281474976710656) &&
      Claims.isLocal ((coreState g).engineLoc ctx0 (clusterOf c0.core) acc (Claims.address g W t)))) = true) :
    Claims.LanesReach (coreState g) c0 ctx0 g W acc := by
  intro t ht hl
  have := List.all_eq_true.mp h t (List.mem_range.mpr ht)
  simpa [hl, and_assoc] using this

theorem within_of (s : State) (scope : Nat) (h : s.marks = []) : Claims.WithinScopes s c0 scope := by
  intro m hm; rw [h] at hm; exact nomatch hm

def vstWord : Word := wordOf 0x71 (mm 0 0 2 1 0x800000)
def sstWord : Word := wordOf 0x73 (mm 0 0 63 1 0xC00000)
theorem witness_StoresWriteTheirPlaces :
    (Iss gM vstWord ∧ Claims.waitsFirst (coreState gM) c0 vstWord = false ∧
      Claims.LanesReach (coreState gM) c0 ctx0 gM vstWord .store ∧ Claims.WithinScopes (coreState gM) c0 6) ∧
    (Iss gM sstWord ∧ Claims.waitsFirst (coreState gM) c0 sstWord = false ∧ Claims.scAddress gM sstWord % 2 ^ fld 22 2 sstWord = 0 ∧
      Claims.scAddress gM sstWord < deviceRegion ∧
      Claims.isLocal ((coreState gM).engineLoc ctx0 (clusterOf 0) .store (Claims.scAddress gM sstWord)) = true) := by
  refine ⟨⟨?_, ?_, reach_of _ _ _ ?_, within_of _ _ rfl⟩, ?_, ?_, ?_, ?_, ?_⟩ <;> (try simp only [iss_iff]) <;> decide +kernel

/-- Every lane at s1 = 0x100, with and without the return of the found value. -/
def atomWord (op ret : Nat) : Word := wordOf op (mm (if ret = 0 then 0 else 4) 5 2 1 (0x1000000 + 0x800000 + 0x180000 + 0x8000 * ret))
theorem witness_AtomicsActInLaneOrder : ∀ r ∈ Claims.atomRows, ∀ ret ∈ [0, 1],
    Iss gM (atomWord r.op ret) ∧ Claims.LanesReach (coreState gM) c0 ctx0 gM (atomWord r.op ret) .store ∧
    Claims.WithinScopes (coreState gM) c0 (fScope (atomWord r.op ret)) ∧
    fRet (atomWord r.op ret) = decide (ret = 1) ∧
    ∀ t, t < 64 → Claims.lane? gM t = true →
      Claims.offsetOf (Claims.place (coreState gM) c0 ctx0 gM (atomWord r.op ret) .store t) % 2 ^ fld 22 2 (atomWord r.op ret) = 0 := by
  intro r hr ret hret
  have hop : r.op ∈ Claims.atomRows.map (·.op) := List.mem_map_of_mem hr
  generalize r.op = op at hop
  have key : ∀ op ∈ Claims.atomRows.map (·.op), ∀ ret ∈ [0, 1], issB gM (atomWord op ret) = true ∧
      (List.range 64).all (fun t => !Claims.lane? gM t || (Claims.address gM (atomWord op ret) t % 2 ^ fld 22 2 (atomWord op ret) == 0 &&
        decide (Claims.address gM (atomWord op ret) t < 281474976710656) &&
        Claims.isLocal ((coreState gM).engineLoc ctx0 (clusterOf 0) .store (Claims.address gM (atomWord op ret) t)))) = true ∧
      fRet (atomWord op ret) = decide (ret = 1) ∧
      ∀ t, t < 64 → Claims.lane? gM t = true →
        Claims.offsetOf (Claims.place (coreState gM) c0 ctx0 gM (atomWord op ret) .store t) % 2 ^ fld 22 2 (atomWord op ret) = 0 := by
    decide +kernel
  obtain ⟨h1, h2, h3, h4⟩ := key op hop ret hret
  exact ⟨(iss_iff _ _).mpr h1, reach_of _ _ _ h2, within_of _ _ rfl, h3, h4⟩

/-- An unreleased atomic of another block at device scope, and a store of that block: c0's atomic at device scope is within
scopes, at block scope it leaves the others out. -/
def marked : State :=
  let b : GroupId := { ctx := 0, entry := 1 }
  { coreState gM with marks := [{ key := 0x100, size := 1, scope := 3, core := 1, who := b }, { key := 0x100, size := 1, core := 1, who := b }] }
theorem witness_WithinScopes : Claims.WithinScopes marked c0 3 ∧ ¬ Claims.WithinScopes marked c0 1 := by
  unfold Claims.WithinScopes; decide +kernel
/-- A group's store leaves a mark; its release at die scope puts it within that scope. -/
theorem test_marks :
    ((next (.vst c0 (mm 0 0 2 1 0x800000)) (coreState gM)).map fun t =>
      ((t.marks.map fun m => (m.scope, m.size, m.rel)).eraseDups, ((t.released (t.idAt c0) 3).marks.map (·.rel)).eraseDups)) =
    some ([(6, 4, 0)], [4]) := by decide +kernel

/-! ### Matrix commands -/

/-- Group `g` of the fixture with other work and a resident program of one scratch bank issues `W`. -/
def matState (w : CoreWork) : State := { coreWith w with ctxs := [(0, some ctxP)] }
def gMat : Group :=
  { g3 0 0 0 0 0 with s := [(4, BitVec.ofNat 64 (2 ^ 48 + 0xFFFFFFA00000)), (5, BitVec.ofNat 64 (2 ^ 48 + 0xFFFFFFA00000)), (6, 32),
    (7, BitVec.ofNat 64 (2 ^ 48 + 0x1000)), (8, BitVec.ofNat 64 (2 * 2 ^ 48 + 0xFFFFFFA00000)), (9, 0x2000), (10, 1)] }
/-- mma, mout, mclr and mtsum words. -/
def matWord (op : Nat) : Word :=
  wordOf op (if op = 0xA0 then xx 10 4 5 6 0x110002AA else if op = 0xA1 then xx 10 7 0 0 0x01008000
    else if op = 0xA2 then xx 10 0 0 0 0x0000001F00 else xx 10 8 9 10 0x10000000)
def Iss2 (w : CoreWork) (g : Group) (W : Word) : Prop := Claims.Issues (matState w) c0 W 0 ctxP g
def iss2B (w : CoreWork) (g : Group) (W : Word) : Bool :=
  decide ((matState w).runGroup c0 = some (0, ctxP, g)) && (matState w).fetchOk 1 g.pc && legalWord g.width W && allocOk g.regs W
theorem iss2_iff (w : CoreWork) (g : Group) (W : Word) : Iss2 w g W ↔ iss2B w g W = true := by
  unfold Iss2 iss2B Claims.Issues
  rw [Bool.and_eq_true, Bool.and_eq_true, Bool.and_eq_true, decide_eq_true_eq, and_assoc, and_assoc]; rfl
/-- Work with group `g` and the token slots below `n` taken. -/
def taken (n : Nat) (g : Group) : CoreWork :=
  { workOf g with tokens := (List.range n).map fun i => (i, { gen := 2046, busy := true, used := true }) }
def gNone : Group := { gMat with m := [] }
def gBad : Group := { gMat with s := [] }

theorem witness_MatrixCommandsTakeTokensAndAreAwaited : ∀ op ∈ [0xA0, 0xA1, 0xA2, 0xA3],
    (Iss2 (workOf gNone) gNone (matWord op) ∧ gNone.mreg 0 = 0) ∧
    (Iss2 (taken 31 gMat) gMat (matWord op) ∧ gMat.mreg 0 ≠ 0 ∧
      matrixCause ((matState (taken 31 gMat)).scrBytes ctxP) (matWord op) (gMat.sreg (fXA (matWord op))) (gMat.sreg (fXB (matWord op)))
        (gMat.sreg (fXC (matWord op))) = 0 ∧ (taken 31 gMat).mq = [] ∧ (tget {} (taken 31 gMat).tokens 31).busy = false ∧
      ∀ m, m < 31 → (tget {} (taken 31 gMat).tokens m).busy = true) ∧
    (Iss2 (taken 32 gMat) gMat (matWord op) ∧ ∀ m, m < 32 → (tget {} (taken 32 gMat).tokens m).busy = true) ∧
    (op ≠ 0xA2 → Iss2 (workOf gBad) gBad (matWord op) ∧ gBad.mreg 0 ≠ 0 ∧
      matrixCause ((matState (workOf gBad)).scrBytes ctxP) (matWord op) (gBad.sreg (fXA (matWord op))) (gBad.sreg (fXB (matWord op)))
        (gBad.sreg (fXC (matWord op))) = 1) := by
  simp only [iss2_iff]; decide +kernel

/-- mwait on the null token, on the token 31 + 32 × 2,046 of a command in progress, and on an older one of the slot. -/
def gW (tok : Nat) : Group := { gMat with s := [(4, BitVec.ofNat 64 tok)] }
def mwaitWord : Word := wordOf 0xA8 (xx 0 4 0 0 0)
theorem witness_mwait : ∀ tok ∈ [0xFFFF, 0xFFDF, 31], Iss2 (taken 32 (gW tok)) (gW tok) mwaitWord ∧
    ((gW tok).sreg (fXA mwaitWord)).toNat % 65536 = tok ∧ (tget {} (taken 32 (gW tok)).tokens (tok % 32)).busy = true ∧
    ((tget {} (taken 32 (gW tok)).tokens (tok % 32)).gen = tok / 32 ↔ tok = 0xFFDF) := by
  simp only [iss2_iff]; decide +kernel

def gHeld : Group := { gMat with hold := some (.matrix (matWord 0xA2) 0 0 0) }
theorem witness_matrixAccept : (matState (taken 31 gHeld)).heldGroup c0 = some (0, ctxP, gHeld, .matrix (matWord 0xA2) 0 0 0) ∧
    ((matState (taken 31 gHeld)).core 0).commitDue = false ∧ ((matState (taken 31 gHeld)).core 0).work.mq = [] := by decide +kernel

def cmdOf (op : Nat) (started : Bool) (slot : Nat := 0) : MatrixCmd :=
  let W := matWord op
  { w := W, sA := gMat.sreg (fXA W), sB := gMat.sreg (fXB W), sC := gMat.sreg (fXC W), grp := 0, slot := slot, started := started }
def queued (q : List MatrixCmd) : CoreWork := { taken 32 gMat with mq := q }
/-- A second mma to an identical tile after a started one; an mout after an mma to another tile and to the same one. -/
def second (acc : Nat) : MatrixCmd := { cmdOf 0xA1 false 1 with w := matWord 0xA1 + BitVec.ofNat 64 (acc * 256) }
theorem witness_MatrixCommandsStartInOrder :
    (∀ q ∈ [cmdOf 0xA0 false 1, second 9], ((matState (queued [cmdOf 0xA0 true, q])).liveCore 0).isSome = true ∧ q.started = false ∧
      ((matState (queued [cmdOf 0xA0 true, q])).core 0).work.mq[1]? = some q ∧
      ((queued [cmdOf 0xA0 true, q]).mq.findIdx fun e => e.slot == 1) = 1 ∧
      ∀ e ∈ (queued [cmdOf 0xA0 true, q]).mq.take 1, (onArray e.w = onArray q.w → e.started = true) ∧
        (tilesOverlap e.w q.w = true → opc e.w = 0xA0 ∧ opc q.w = 0xA0 ∧ tilesIdentical e.w q.w = true)) ∧
    (tilesOverlap (matWord 0xA0) (second 3).w = true ∧ opc (second 3).w ≠ 0xA0) ∧ (cmdOf 0xA0 false).started = false := by
  decide +kernel

theorem witness_MatrixResultsAreExact : ∀ op ∈ [0xA0, 0xA2, 0xA1],
    (matState (queued [cmdOf op true])).liveCore 0 = some (0, ctxP) ∧
    ((queued [cmdOf op true]).mq.findIdx fun e => e.slot == 0) = 0 ∧
    ((matState (queued [cmdOf op true])).core 0).work.mq[0]? = some (cmdOf op true) ∧ (cmdOf op true).snap = ctxP.scratch ∧
    (∀ p ∈ (if op = 0xA1 then matrixWrites ctxP.scr 0 (cmdOf op true) [] else []),
      Claims.isLocal ((matState (queued [cmdOf op true])).engineLoc ctxP 0 .store p.1) = true ∧ p.2.length ≤ 64) := by
  decide +kernel
/-- The rows of that mout stand 64 bytes apart. -/
theorem witness_mout_apart : ((matrixWrites ctxP.scr 0 (cmdOf 0xA1 true) []).map fun p =>
      ((matState (queued [cmdOf 0xA1 true])).engineLoc ctxP 0 .store p.1, p.2.length)) =
    (List.range 16).map fun i => (.mem (0x10001000 + 64 * i), 8) := by decide +kernel

end Sys2Proof.Tests
end

