-- ==== Sys2Proof/Tests/WitReset.lean ====
section
/-! SUPPORT. Witnesses for the clauses about a changed pool, the end of a lifecycle command, READY, a stale owner key and
single registers. -/

set_option Elab.async false

namespace Sys2Proof.Tests

open Sys2Proof Sys2Proof.Machine

/-! ### A live Manifest that changes a pool -/

/-- The Manifest that runs gives pool 0 no pin way; berth 3 of the pool is DISABLED and has ASSURED 4, and no core works. -/
def old2 : Manifest := { old1 with recs := old1.recs.map fun r => if r.ty = 6 then { r with body := r.body.set 1 0 } else r }
def shortBox (m : Manifest) : State :=
  { validating (mftOf 1 2) (some old2) with
    berths := [(3, { state := 6, grant := { assured := 4, contexts := 1 } })],
    mft := { phase := .validating, candidate := mftOf 1 2, floor := 1, running := some m, sigs := okSigs } }
theorem short_live : (shortBox old2).isLive (mftOf 1 2) = true := by decide +kernel
theorem witness_pool_short :
    Claims.firstOf (Claims.mftFaults (shortBox old2) (mftOf 1 2) okSigs) = 0 ∧ old2.pool 0 ≠ (readMft (mftOf 1 2)).pool 0 ∧
    (shortBox (readMft (mftOf 1 2))).poolShort 0 = true ∧ (shortBox old2).poolOf 3 = 0 ∧ ((shortBox old2).berth 3).state ≠ 0 := by
  refine ⟨firstOf_zero _ ?_, by decide +kernel, by decide +kernel, by decide +kernel, by decide +kernel⟩
  have h1 : headerOk (mftOf 1 2) = true := by decide +kernel
  have h2 : (shortBox old2).keyOk (readMft (mftOf 1 2)).keyId = true := by decide +kernel
  have h5 : (shortBox old2).seqOk (mftOf 1 2) = true := by decide +kernel
  have h9 : (readMft (mftOf 1 2)).accepts (shortBox old2).sec.fwVersion = true := by decide +kernel
  have hs : scopeFails old2 (readMft (mftOf 1 2)) = [] := by decide +kernel
  have hb : (shortBox old2).badScope old2 (readMft (mftOf 1 2)) = [] := by decide +kernel
  have hf : (shortBox old2).badFit old2 (readMft (mftOf 1 2)) = [] := by decide +kernel
  have hc : (shortBox old2).silicon = (validating (mftOf 1 2) (some old1)).silicon := rfl
  have hr : (shortBox old2).mft.running = some old2 := rfl
  simp [Claims.mftFaults, okSigs, h1, h2, h5, h9, short_live, mft_format_live, mft_recs, hc, mft_structure, mft_resources, hs, hb, hf, hr]

/-! ### Lifecycle, boot and READY -/

/-- A lifecycle command ends at the next tick. -/
theorem witness_moving : ∀ m ∈ [2, 3, 4],
    let s : State := { rst := up, sec := { moving := some m, running := some 1 } }
    s.pending = [] ∧ s.rst.power = true ∧ s.failed = none ∧ s.sec.moving = some m := by decide +kernel
/-- An owner key record of an earlier transition, and READY with and without a Manifest. -/
theorem witness_stale_owner :
    ({ boots {} 0 with sec := { owner := some (List.replicate 48 1), ownerTrans := 5 } } : State).sec.ownerTrans ≠
      ({ boots {} 0 with sec := { owner := some (List.replicate 48 1), ownerTrans := 5 } } : State).transitions ∧
    ({ rst := up } : State).mft.running = none ∧ (box []).mft.running.isSome = true ∧ (box []).fwActs = true := by decide +kernel

/-! ### Single registers -/

theorem registerAt_of (a d off : Nat) (h : csBase ≤ a ∧ a < csBase + csSize ∧ d = (a - csBase) / 16777216 ∧ off = (a - csBase) % 16777216 ∧
    isDie d = true ∧ off % 8 = 0) (hl : (locate d off).isSome = true) : ∃ b o, Claims.RegisterAt a 8 d off b o := by
  obtain ⟨p, hp⟩ := Option.isSome_iff_exists.mp hl
  exact ⟨p.1, p.2, h.1, h.2.1, h.2.2.1, h.2.2.2.1, h.2.2.2.2.1, h.2.2.2.2.2, rfl, hp⟩
/-- The first register of die 0, one of its repair block, and registers of XD0 and XD1. -/
theorem witness_RegisterAt : ∀ q ∈ [(0, 0), (0, 0x30010), (0x20, 0x200048), (0x21, 8)],
    ∃ b o, Claims.RegisterAt (csBase + q.1 * 16777216 + q.2) 8 q.1 q.2 b o := by
  intro q hq
  have key : ∀ q ∈ [(0, 0), (0, 0x30010), (0x20, 0x200048), (0x21, 8)],
      (let a := csBase + q.1 * 16777216 + q.2
       (csBase ≤ a ∧ a < csBase + csSize ∧ q.1 = (a - csBase) / 16777216 ∧ q.2 = (a - csBase) % 16777216 ∧ isDie q.1 = true ∧ q.2 % 8 = 0) ∧
        (locate q.1 q.2).isSome = true) := by decide +kernel
  exact registerAt_of _ _ _ (key q hq).1 (key q hq).2
/-- Places of memory, of a partner and of nothing; a link that is up. -/
theorem witness_places :
    (∀ a ∈ [0, 0x5FFFFFFFF8], ({ rst := up, stackGib := 384 } : State).dpaLoc a = .mem a ∧ a < csBase) ∧
    ({ linked link 5 with rst := up } : State).dpaLoc apBase = .remote 0 0 ∧ apBase < csBase ∧ ({ linked link 5 with rst := up } : State).linkUp 0 = true ∧
    ({ rst := up } : State).dpaLoc apBase = .nothing := by decide +kernel

end Sys2Proof.Tests
end

