-- ==== Sys2Proof/Tests/WitUnits.lean ====
section
/-! SUPPORT. States and operands that meet the hypotheses of the statements about issue, blocks, streams, pins, sessions, set
engines and results, clause by clause. -/

set_option Elab.async false

namespace Sys2Proof.Tests

open Sys2Proof Sys2Proof.Machine

/-! ### Issue, faults and system instructions -/

/-- A PC at the end of the page; a word of ones, which no opcode allows; r = 8 and a register v8. -/
def gOut : Group := { gA with pc := 0x10000 }
theorem witness_IssueFollowsItsChecks :
    ((coreState gOut).runGroup c0 = some (0, ctx0, gOut) ∧ (coreState gOut).fetchOk 1 gOut.pc = false) ∧
    ((coreState gA).runGroup c0 = some (0, ctx0, gA) ∧ (coreState gA).fetchOk 1 gA.pc = true ∧
      ∀ p ∈ Claims.wordRows, legalWord gA.width (p.2 (BitVec.ofNat 56 (2 ^ 56 - 1))) = false) ∧
    ((coreState gM).runGroup c0 = some (0, ctx0, gM) ∧ (coreState gM).fetchOk 1 gM.pc = true ∧
      legalWord gM.width (wordOf 0x01 (vv 5 3 8 0 0)) = true ∧ allocOk gM.regs (wordOf 0x01 (vv 5 3 8 0 0)) = false) ∧
    State.reset.runGroup c0 = none ∧ listedOp (opc 0xC000000000000000) = false ∧ listedOp (opc 0xFF00000000000000) = false := by
  decide +kernel

/-- A fault that is recorded, and one that finds COR_FAULT occupied; an order of the context without its last result. -/
def faulted (new : Bool) : State :=
  let s := coreState gA
  { s with orders := [(5, some { ctx := 0 })], cores := [(0, { s.core 0 with faultNew := new })] }
theorem witness_CoreFaultsTearDownTheirContext : ∀ b ∈ [false, true],
    (faulted b).runGroup c0 = some (0, ctx0, gA) ∧ ((faulted b).core 0).faultNew = b ∧
    ((faulted b).order 5).isSome = true := by decide +kernel

def gE : Group := { gA with s := [(1, 63), (2, 7), (3, 64)] }
def gE0 : Group := { gE with m := [] }
theorem witness_NopSrdAndEvtFollowTheTable :
    Iss gA (wordOf 0xB0 (ss 0 0 0 0)) ∧ (∀ n ∈ List.range 9, Iss gA (wordOf 0xB6 (ss 63 0 0 n))) ∧
    (Iss gE0 (wordOf 0xB5 (ss 0 3 0 64)) ∧ gE0.mreg 0 = 0) ∧
    (∀ n ∈ [8, 63], Iss gE (wordOf 0xB5 (ss 0 0 0 n))) ∧ gE.mreg 0 ≠ 0 ∧
    (Iss gE (wordOf 0xB5 (ss 0 1 0 64)) ∧ (gE.sreg 1).toNat = 63) ∧
    (Iss gE (wordOf 0xB5 (ss 0 2 0 64)) ∧ (gE.sreg 2).toNat < 8) ∧ Iss gE (wordOf 0xB5 (ss 0 3 0 64)) ∧ 63 < (gE.sreg 3).toNat := by
  simp only [iss_iff]; decide +kernel

/-- Lanes 0 and 1 leave a construct whose outer mask also holds lane 2; the last lanes leave. -/
def gX (outer : Nat) : Group := { gA with stack := [⟨BitVec.ofNat 64 outer, 0, 64⟩] }
theorem witness_ExitEndsLanesGroupsAndBlocks :
    (Iss (gX 7) (wordOf 0xB1 0) ∧ ((gX 7).stack.map (Claims.without ((gX 7).mreg 0))).any
      (fun e => decide (e.outer ≠ 0) || decide (e.rest ≠ 0)) = true) ∧
    (Iss (gX 3) (wordOf 0xB1 0) ∧ ((gX 3).stack.map (Claims.without ((gX 3).mreg 0))).any
      (fun e => decide (e.outer ≠ 0) || decide (e.rest ≠ 0)) = false ∧
      tget none ((coreState (gX 3)).core 0).work.blocks (gX 3).block = some { groups := [0] }) := by
  simp only [iss_iff]; decide +kernel

/-- Two groups of one block, the second running, ended, or held at barrier 3. -/
def pair (y : Group) (arr : List Nat) : CoreWork :=
  { groups := [(0, some gA), (1, some y)], blocks := [(0, some { groups := [0, 1], arrived := [(3, arr)] })] }
def IssP (y : Group) (arr : List Nat) (g : Group) (W : Word) : Prop :=
  Claims.Issues (coreWith { pair y arr with groups := [(0, some g), (1, some y)] }) c0 W 0 ctx0 g
def issP (y : Group) (arr : List Nat) (g : Group) (W : Word) : Bool :=
  let s := coreWith { pair y arr with groups := [(0, some g), (1, some y)] }
  decide (s.runGroup c0 = some (0, ctx0, g)) && s.fetchOk 1 g.pc && legalWord g.width W && allocOk g.regs W
theorem issP_iff (y : Group) (arr : List Nat) (g : Group) (W : Word) : IssP y arr g W ↔ issP y arr g W = true := by
  unfold IssP issP Claims.Issues
  simp only [Bool.and_eq_true, decide_eq_true_eq, and_assoc]; rfl
def gB : Group := { gA with hold := some (.barrier 3) }
def gEnd : Group := { gA with ended := true }
theorem witness_exit_blocks :
    (IssP gA [] gA (wordOf 0xB1 0) ∧ gA.ended = false) ∧ (IssP gEnd [] gA (wordOf 0xB1 0) ∧ gEnd.ended = true) ∧ gA.stack = [] := by
  simp only [issP_iff]; decide +kernel
theorem witness_BarriersReleaseWithTheirLastArrival : ∀ op ∈ [0xB2, 0xB3], ∀ W ∈ [ss 0 0 0 3],
    (IssP gA [] gNone (wordOf op (ss 0 0 0 3)) ∧ gNone.mreg 0 = 0) ∧
    IssP gA [0] gA (wordOf op (ss 0 0 0 3)) ∧ (IssP gA [] gA (wordOf op (ss 0 0 0 3)) ∧ gA.ended = false) ∧
    (IssP gB [1] gA (wordOf op (ss 0 0 0 3)) ∧ gB.hold ≠ some (.rearrive 3 true) ∧ gB.hold ≠ some (.rearrive 3 false)) ∧
    (IssP gEnd [] gA (wordOf op (ss 0 0 0 3)) ∧ gEnd.ended = true) ∧ fld 0 2 (wordOf op (ss 0 0 0 3)) = 3 := by
  simp only [issP_iff, List.mem_singleton, forall_eq]; decide +kernel

/-- A device with a request of the group at port 0. -/
def remoteState : State :=
  { coreState gA with ports := [(0, { outbound := [{ waiter := .group { ctx := 0 } false 0 }] })] }
theorem witness_FencesOrderTheirGroup : ∀ p ∈ [0, 1, 2],
    (∀ sc ∈ [0, 1, 2, 4, 5], Iss gA (withField 3 2 p (wordOf 0xB4 (ss 0 0 0 sc)))) ∧ (coreState gA).groupRemote c0 = false ∧
    (remoteState.runGroup c0 = some (0, ctx0, gA) ∧ remoteState.fetchOk 1 gA.pc = true ∧ remoteState.groupRemote c0 = true) := by
  simp only [iss_iff]; decide +kernel

/-- The range operands: the first line, a length off 128, no length, 1 GiB and a line more, and past bit 48. -/
def gR (a n : Nat) : Group := { gA with s := [(1, BitVec.ofNat 64 a), (2, BitVec.ofNat 64 n)] }
theorem witness_RangeCommandsActOnTheirLines : ∀ p ∈ [0, 1, 2],
    ∀ q ∈ [(0, 128), (0, 1073741824), (64, 128), (0, 64), (0, 0), (0, 1073741952), (281474976710528, 256)],
      Iss (gR q.1 q.2) (withField 0 2 p (wordOf 0xB7 (ss 0 1 2 0))) ∧ ((gR q.1 q.2).sreg 1).toNat = q.1 ∧
      ((gR q.1 q.2).sreg 2).toNat = q.2 := by simp only [iss_iff]; decide +kernel
theorem witness_lines_in_range : (coreState (gR 0 128)).rangeLines 1 0 128 = [0x200000] ∧
    (∀ ln, ((coreState (gR 0 128)).line ln).pend = []) := ⟨by decide +kernel, fun _ => rfl⟩

/-! ### Launches -/

def kern : Kernel := { mode := 1, width := 16, regs := 8, groups := 2, blocks := 3, entry := 64, args := 128 }
def prog : Program :=
  { kernels := [kern], launches := [{}, { wait := true }], orderArea := 0x4000, cost := { commit := { base := 40000 } } }
/-- An order runs on core 0, whose work is `w`. -/
def runs (w : CoreWork) (x : Ctx) (cycles : Nat) : State :=
  { coreWith w with
    ctxs := [(0, some x)], orders := [(5, some { ctx := 0, dispatched := some 9 })],
    berths := [(1, { berth1 with programs := [(0, some prog)] })],
    cores := [(0, { slotState := 1, bound := some 0, ctx := some 0, work := w, cycles := cycles })] }
def ctxR : Ctx := { ctx0 with order := some 5, prog := some prog }
theorem witness_BlocksAreLaunchedAndSeated :
    ((runs {} ctxR 0).ctx 0 = some ctxR ∧ ((runs {} ctxR 0).order 5).isSome = true ∧ (runs {} ctxR 0).progOf ctxR = some prog ∧
      prog.launches[ctxR.launched]? = some {} ∧ prog.kernelOf ctxR.launched = some kern ∧ (runs {} ctxR 0).running = true ∧
      kern.legal = true ∧ kern.couldFit = true ∧ ctxR.cores.Nodup) ∧
    ((runs { waiting := [(0, 2)] } ctxR 0).liveCore 0 = some (0, ctxR) ∧ ({ waiting := [(0, 2)] } : CoreWork).fits kern = true) ∧
    ((runs { workOf { gA with regs := 256 } with waiting := [(0, 2)], groups := (List.range 31).map fun i => (i, some { gA with regs := 256 }) }
        ctxR 0).liveCore 0 = some (0, ctxR) ∧
      ({ groups := (List.range 31).map fun i => (i, some { gA with regs := 256 }) } : CoreWork).fits kern = false) ∧
    ((runs {} ctxR 40000).liveCore 0 = some (0, ctxR) ∧ (runs {} ctxR 40000).commitOf ctxR = 40000 ∧
      ((runs {} ctxR 40000).core 0).commitDue = false) := by decide +kernel

/-! ### Streams -/

/-- A linear descriptor: entries of one unit from BVA 0x1000 in strides of 64, a ring of two, four entries; as leader of
clusters 0 and 1; and a follower's. -/
def lin (mc : Nat) : Tbl Word :=
  [(0, BitVec.ofNat 64 (mc * 256 + mc * 3 * 65536 + 2 ^ 32 + 2 * 2 ^ 48)), (1, 2), (2, 4), (3, 0x1000), (4, 64)]
def follow : Tbl Word := [(0, BitVec.ofNat 64 (4 + 2 ^ 32 + 2 * 2 ^ 48)), (1, 2), (2, 4)]
def streamed (st : Stream) : State := matState { workOf gA with streams := [(15, st)] }
theorem witness_StreamWordsFollowTheTable :
    (∀ d ∈ [lin 0, lin 1, follow], (streamed { desc := d }).runGroup c0 = some (0, ctxP, gA) ∧
      streamLegal 0 ((streamed { desc := d }).scrBytes ctxP) ({ desc := d } : Stream).started = true) ∧
    (streamed { desc := lin 0, state := 1 }).runGroup c0 = some (0, ctxP, gA) ∧
    streamLegal 0 ((streamed {}).scrBytes ctxP) ({} : Stream).started = false ∧
    (∀ st ∈ [({ state := 1, produced := 4, returned := 2 } : Stream), { state := 1, produced := 2, returned := 2 }, { state := 3 }],
      (streamed st).runGroup c0 = some (0, ctxP, gA) ∧ (streamed st).stream 0 15 = st) := by decide +kernel

/-- The next entry has room; the ring is full; an entry in flight has its bytes; a leader waits for an armed follower. -/
def going (begun returned : Nat) : Stream :=
  { desc := lin 0, latched := lin 0, state := 1, begun := begun, returned := returned, produced := returned,
    flight := [{ entry := returned, data := List.replicate 64 7 }] }
theorem witness_StreamEntriesFillTheRings :
    (∀ p ∈ [(1, 0), (3, 2)], (streamed (going p.1 p.2)).liveCore 0 = some (0, ctxP) ∧ (going p.1 p.2).begun < (going p.1 p.2).count ∧
      (going p.1 p.2).ty = 0 ∧ (going p.1 p.2).begun < (going p.1 p.2).returned + (going p.1 p.2).dist ∧ (going p.1 p.2).units = 1 ∧
      Claims.isLocal ((streamed (going p.1 p.2)).sourceLoc 1
        (((going p.1 p.2).src + (going p.1 p.2).begun * (going p.1 p.2).f 32 8) % 18446744073709551616)) = true) ∧
    (going 2 0).returned + (going 2 0).dist ≤ (going 2 0).begun ∧ (going 4 4).count ≤ (going 4 4).begun ∧
    (((going 1 0).flight.find? fun q => q.entry == 0 && q.wait == 0).isSome = true ∧ (going 1 0).members = []) ∧
    (∀ ln, ((streamed (going 1 0)).line ln).pend = []) :=
  ⟨by decide +kernel, by decide +kernel, by decide +kernel, by decide +kernel, fun _ => rfl⟩

/-- Core slots 0 and 9, of clusters 0 and 1, hold logical index 0; the follower's ring of two or of one entry. -/
def multicast (ring : Nat) : State :=
  let k (st : Stream) : Core := { slotState := 1, bound := some 0, ctx := some 0, work := { streams := [(0, st)] } }
  { matState {} with
    ctxs := [(0, some { ctxP with cores := [0, 9], clusters := [0, 1] })],
    clusters := [(0, { asleep := false }), (1, { asleep := false })],
    cores := [(0, k { latched := lin 1, state := 4 }),
      (9, k { latched := [(0, BitVec.ofNat 64 (4 + 2 ^ 32 + ring * 2 ^ 48)), (1, 2), (2, 4)], state := 5 })] }
theorem witness_multicast : ∀ ring ∈ [1, 2],
    ((multicast ring).liveCore 0).isSome = true ∧ ((multicast ring).stream 0 0).state = 4 ∧
    (multicast ring).mcTargets 0 ((multicast ring).stream 0 0).mask = [9].map some ∧ ((multicast ring).core 9).ctx = some 0 ∧
    ((multicast ring).stream 9 0).state = 5 ∧ ((multicast ring).stream 9 0).ring = ring ∧
    ((multicast ring).stream 9 0).units = ((multicast ring).stream 0 0).units ∧
    ((multicast ring).stream 9 0).ringBase = ((multicast ring).stream 0 0).ringBase := by decide +kernel

/-! ### Windows and pins -/

def gWin (w : Windows) : Group := { gA with win := w }
def gPin (run : Option Nat) (base len : Nat) : Group :=
  gWin { pinRun := run, runBase := BitVec.ofNat 64 base, runLen := BitVec.ofNat 64 len }
theorem witness_WindowLoadsReturnOrHold :
    (∀ p ∈ Claims.windowLoads, p.busy gA = false ∧ (coreState gA).runGroup c0 = some (0, ctx0, gA)) ∧
    (∀ p ∈ Claims.windowLoads,
      p.busy (gWin { pinRun := some 1, sesRun := true, submitted := 16, done := 15, resUnread := true }) = true) ∧
    (coreState (gWin { pinRun := some 1, sesRun := true, submitted := 16, done := 15, resUnread := true })).runGroup c0 =
      some (0, ctx0, gWin { pinRun := some 1, sesRun := true, submitted := 16, done := 15, resUnread := true }) := by decide +kernel

/-- A pool record of PIN_WAYS `w` for pool 0; the berth's own ways and lines pinned before. -/
def poolBody (w : Nat) : List Byte := bytesOf 36 (w * 256)
def pinned (g : Group) (ways pool : Nat) (ls : Tbl Line) : State :=
  let s := coreState g
  { s with berths := [(1, { berth1 with grant := { pinWays := ways } })], lines := ls,
           mft := { running := some { recs := [{ ty := 6, body := poolBody pool }] } } }
theorem witness_PinCommandsFollowTheTable :
    (∀ q ∈ [(1, 1, 0), (0, 1, 1), (1, 0, 2)],
      let s := pinned (gPin (some 1) 0 128) q.1 q.2.1 []
      s.liveCore 0 = some (0, ctx0) ∧ s.groupAt c0 = some (gPin (some 1) 0 128) ∧ s.rangeLines 1 0 128 = [0x200000] ∧
      (s.line 0x200000).pin = none ∧ s.pinnedWays 0x200000 (· == 1) = 0 ∧ (s.waysUsed 0x200000).length = 0 ∧
      (s.poolRec (s.poolOf 1)).elim 0 poolPinWays = q.2.1) ∧
    (let s := pinned (gPin (some 2) 0 128) 1 1 [(0x200000, { present := true, pin := some 1 })]
     s.liveCore 0 = some (0, ctx0) ∧ (s.line 0x200000).pin = some 1 ∧ s.rangeLines 1 0 128 = [0x200000]) ∧
    ((pinned (gPin (some 1) 0x10000 128) 1 1 []).rangeLines 1 0x10000 128 = [] ∧
      (pinned (gPin (some 1) 0x10000 128) 1 1 []).liveCore 0 = some (0, ctx0)) ∧
    (∀ run ∈ [1, 2], ∀ q ∈ [(64, 128), (0, 0), (0, 67108992), (281474976710656, 128)],
      (pinned (gPin (some run) q.1 q.2) 1 1 []).liveCore 0 = some (0, ctx0) ∧
      (gPin (some run) q.1 q.2).win.runBase.toNat = q.1 ∧ (gPin (some run) q.1 q.2).win.runLen.toNat = q.2) := by
  decide +kernel

/-! ### Sessions -/

/-- Berth 1 with four frames mapped, its allocator's first command, frames and sessions. -/
def askStore (code a0 a1 : Nat) (frames : Tbl (Option Frame)) (spill : Bool) : Store :=
  let c : SesCmd := { who := { ctx := 0 }, code := code, arg0 := BitVec.ofNat 64 a0, arg1 := BitVec.ofNat 64 a1 }
  { frames := frames, spill := spill, intake := [c] }
def map4 : Tbl (Option Page) := (List.range 4).map fun u => (u, some { dpa := 0x10000000 + u * 65536, w := true, x := true })
def asks (code a0 a1 : Nat) (frames : Tbl (Option Frame)) (ses : Tbl Sess) (spill : Bool := false) : State :=
  { coreState gA with
    berths := [(1, { berth1 with grant := { sessions := 2 }, map := map4 })],
    sessions := ses,
    stores := [(1, askStore code a0 a1 frames spill)] }
theorem heads (code a0 a1 : Nat) (frames : Tbl (Option Frame)) (ses : Tbl Sess) (spill : Bool) :
    Claims.Heads (asks code a0 a1 frames ses spill) 1 { ctx := 0 } code (BitVec.ofNat 64 a0) (BitVec.ofNat 64 a1) :=
  ⟨0, [], rfl, rfl, rfl⟩
def free4 : Tbl (Option Frame) := (List.range 4).map fun f => (f, some {})
def open1 : Sess := { state := 1, berth := 1, maxTokens := 8, tpt := 4, streams := 2, rack := [3] }
theorem witness_SessionCommandsFollowTheTable :
    (∀ j, j < 4 → ((asks 1 0 4 [] []).frameTier 1 (0 + j)).isSome = true ∧ tget none ((asks 1 0 4 [] []).store 1).frames (0 + j) = none) ∧
    ((asks 1 0 5 [] []).frameTier 1 4).isSome = false ∧ tget none ((asks 1 0 1 free4 []).store 1).frames 0 ≠ none ∧
    ((asks 2 0 4 free4 []).freeFrames 1 = 4 ∧ (asks 2 0 4 free4 [(0, { open1 with resvLeft := 1 })]).freeFrames 1 = 3 ∧
      ((List.range 4).filter fun j => tget none ((asks 2 0 4 free4 []).store 1).frames (0 + j) == some {}).length = 4) ∧
    (tget none ((asks 2 0 1 [(0, some { used := true })] []).store 1).frames 0 = some { used := true }) ∧
    (((asks 4 0 0 free4 []).sessOf 1).length < ((asks 4 0 0 free4 []).berth 1).grant.sessions ∧
      ((asks 4 0 0 free4 []).sess 0).state = 0 ∧ ceilDiv 8 4 * 2 ≤ (asks 4 0 0 free4 []).freeFrames 1 ∧
      (asks 4 0 0 free4 []).freeFrames 1 < ceilDiv 8 4 * 3) ∧
    (((asks 4 0 0 [] [(0, open1), (1, open1)]).berth 1).grant.sessions ≤ ((asks 4 0 0 [] [(0, open1), (1, open1)]).sessOf 1).length) ∧
    (((asks 5 0 0 free4 [(0, open1)]).sess 0).state ≠ 0 ∧ ((asks 5 0 0 free4 [(0, open1)]).sess 0).berth = 1) ∧
    ((asks 5 4095 0 [] []).sess 4095).state = 0 ∧ ((asks 5 0 0 [] [(0, { open1 with berth := 2 })]).sess 0).berth ≠ 1 ∧
    ((asks 7 0 0 free4 [(0, open1)]).sess 0).rack[0]? = some 3 := by decide +kernel
/-- The words of STORE_ADD and of OPEN with every field at its first and at its last value. -/
theorem witness_session_words :
    Claims.FrameRange 0 1 0 1 ∧ Claims.FrameRange 0xFFFFFFFF0000 0x800000 4294967295 8388608 ∧
    (0x8080100000400000 : Word).toNat = 4194304 + 4096 * 4294967296 + 128 * 281474976710656 + 1 * 9223372036854775808 ∧
    (0x0001000100000001 : Word).toNat = 1 + 1 * 4294967296 + 1 * 281474976710656 + 0 * 9223372036854775808 ∧
    ceilDiv 4194304 4096 * 128 ≤ 1048576 := by unfold Claims.FrameRange; decide +kernel

/-- A step descriptor at BVA 0x100: batch 7, ADVANCE 1 with a reserved member; batch 7 with one join of session 1. -/
def memStep (adv joins : Nat) : State :=
  let s := asks 6 0x100 0 free4
    [(0, { open1 with state := 2, batch := 7, reserved := true, len := 7, resvLeft := 2 }), (1, { open1 with reserved := true, resvLeft := 2 })]
  { s with mem := [(0x10000100, 7), (0x10000101, BitVec.ofNat 8 adv), (0x10000104, BitVec.ofNat 8 joins),
      (0x10000108, 1), (0x1000010C, 4)].filter fun p => p.2 != 0 }
/-- A read of the berth's memory that faults. -/
def readFaults (s : State) (a n : Nat) : Bool := match s.berthRead [] 1 a n with
  | .error (.fault _ _) => true
  | _ => false
theorem witness_StepsAdvanceAndJoin :
    (0x101 % 8 ≠ 0) ∧ readFaults (memStep 0 0).settleAll 0x40000 8 = true ∧
    (((memStep 1 0).settleAll.berthRead [] 1 0x100 8).toOption = some [7, 1, 0, 0, 0, 0, 0, 0] ∧ (memStep 1 0).members 1 7 = [0] ∧
      ((memStep 1 0).sess 0).reserved = true ∧ ((memStep 1 0).sess 0).len + 1 ≤ ((memStep 1 0).sess 0).maxTokens ∧
      ((memStep 1 0).store 1).deferred = []) ∧
    (((memStep 0 1).settleAll.berthRead [] 1 0x100 8).toOption = some [7, 0, 0, 0, 1, 0, 0, 0] ∧
      ((memStep 0 1).settleAll.berthRead [] 1 0x108 8).toOption = some [1, 0, 0, 0, 4, 0, 0, 0] ∧ ((memStep 0 1).sess 1).state = 1 ∧
      ((memStep 0 1).sess 1).reserved = true ∧ ((memStep 0 1).members 1 7).length ≠ 512 ∧
      (memStep 0 1).bvaLoc 1 .store 0x10A = .mem 0x1000010A) := by decide +kernel

/-! ### Set engines and results -/

def gSub (sub done : Nat) : Group := gWin { submitted := sub, done := done }
/-- Engine 0 in service or not, and descriptors. -/
def setState (g : Group) (on : Bool) (ds : List Desc) : State :=
  { coreState g with engines := [(0, { inService := on })], descs := ds, ctxs := [(0, some ctx0)], nextDesc := 600 }
def waiting (n : Nat) : List Desc := (List.range n).map fun i => { num := i, who := { ctx := 0 }, bva := 0x400 }
theorem witness_DescriptorsAreQueuedAndEnd :
    ((setState (gSub 15 0) true (waiting 1)).runGroup c0 = some (0, ctx0, gSub 15 0) ∧
      (setState (gSub 15 0) true (waiting 1)).descDie 0 = some 0 ∧ (setState (gSub 15 0) true (waiting 1)).queueDepth 0 < 512) ∧
    (setState (gSub 16 0) true []).runGroup c0 = some (0, ctx0, gSub 16 0) ∧
    512 ≤ (setState (gSub 0 0) true (waiting 512)).queueDepth 0 ∧
    ((setState (gSub 0 0) false []).runGroup c0 = some (0, ctx0, gSub 0 0) ∧
      (∀ e, e < 32 → ((setState (gSub 0 0) false []).engine e).inService = false) ∧
      Claims.isLocal ((setState (gSub 0 0) false []).setLoc ctx0 0 .store (0x400 + 56)) = true) := by decide +kernel
def running1 (work : Nat) : Desc := { num := 5, who := { ctx := 0 }, bva := 0x400, engine := some 0, performed := true, work := work, count := 3 }
def gDone : Group := { gSub 1 0 with hold := some (.seWait 63) }
theorem witness_descriptor_ends :
    (∀ w ∈ [257, 256], (setState gDone true [running1 w]).running = true ∧
      (setState gDone true [running1 w]).descs.find? (fun q => q.engine == some 0) = some (running1 w) ∧
      ((setState gDone true [running1 w]).descs.map Desc.num).Nodup) ∧
    (setState gDone true [running1 256]).idAt c0 = (running1 256).who ∧ (setState gDone true [running1 256]).groupAt c0 = some gDone ∧
    ((setState gDone true [running1 256]).core 0).ctx = some 0 ∧ (tkeys (setState gDone true [running1 256]).cores).Nodup := by
  decide +kernel

/-- A SORT of two u32 elements without payload at BVA 0x200 into 0x300, and an illegal descriptor. -/
def sortBytes (op : Nat) : List Byte :=
  bytesOf 8 op ++ bytesOf 8 0x200 ++ bytesOf 8 0 ++ bytesOf 8 0x300 ++ bytesOf 4 2 ++ bytesOf 4 0 ++ bytesOf 4 2 ++ bytesOf 4 0 ++
    bytesOf 8 0x1000 ++ bytesOf 8 0
def sortState (op : Nat) : State :=
  let s := setState (gSub 1 0) true [{ num := 5, who := { ctx := 0 }, bva := 0x400 }]
  { s with mem := ((sortBytes op).zipIdx.map fun p => (0x10000400 + p.2, p.1)).filter fun p => p.2 != 0 }
theorem witness_EnginesPerformTheirDescriptor :
    (∀ op ∈ [1, 0], (sortState op).running = true ∧ ((sortState op).engine 0).inService = true ∧
      (sortState op).descClass { num := 5, who := { ctx := 0 }, bva := 0x400 } ≤ 2 ∧
      (sortState op).setBytes 0 ctx0 { num := 5, who := { ctx := 0 }, bva := 0x400, engine := some 0 } 0x400 64 = .ok (sortBytes op)) ∧
    descLegal (sortBytes 1) = true ∧ descLegal (sortBytes 0) = false ∧
    ((sortState 1).setCompute 0 ctx0 { num := 5, who := { ctx := 0 }, bva := 0x400, engine := some 0 } (sortBytes 1) =
      .ok { writes := [(0x300, List.replicate 8 0)], count := 2, work := 10 }) := by decide +kernel
theorem witness_SetOperationsFollowTheTable :
    dAN (sortBytes 1) ≠ 0 ∧
    (sortState 1).setElems 0 ctx0 { who := { ctx := 0 } } (dA (sortBytes 1)) (dAN (sortBytes 1)) (dElem (sortBytes 1)) =
      .ok [[0, 0, 0, 0], [0, 0, 0, 0]] ∧
    (∀ op ∈ [1, 2, 3, 4, 9], ((sortState 1).setCompute 0 ctx0 { who := { ctx := 0 } } (bytesOf 8 op ++ (sortBytes 1).drop 8)).isOk = true) ∧
    dSplit (sortBytes 9) = false := by decide +kernel

/-- Order 5 of the context, its last send made or not, and a group that sends 100 bytes. -/
def sends (made unread : Bool) (base len : Nat) : State :=
  let g := gWin { resBase := BitVec.ofNat 64 base, resLen := BitVec.ofNat 64 len, resUnread := unread }
  { coreState g with ctxs := [(0, some ctxR)], orders := [(5, some { ctx := 0, lastMade := made })] }
theorem witness_ResultsLeaveInOrder :
    (∀ q ∈ [(false, false, 0x100, 67108864), (false, false, 281474976710655, 0), (false, true, 0x100, 100), (true, false, 0x100, 100),
        (false, false, 0x100, 67108865), (false, false, 281474976710656, 100)],
      let s := sends q.1 q.2.1 q.2.2.1 q.2.2.2
      (s.runGroup c0).isSome = true ∧ ctxR.order = some 5 ∧ (s.order 5).isSome = true) := by decide +kernel
/-- A send of 100 bytes of a group that waits for it, on session 1 of interface 0. -/
def gWait : Group := { gWin { resUnread := true, resLast := 100 } with hold := some (.resWait 63) }
def sending : State :=
  { coreState gWait with
    ctxs := [(0, some ctxR)],
    orders := [(5, some { ctx := 0, budget := 9, hdr := { berth := 1, conn := 1 } })],
    conns := [(1, some { berth := 1 })],
    ifaces := [(0, { up := true })],
    sends := [{ num := 2, order := 5, who := some { ctx := 0 }, base := 0x100, len := 100, last := true }] }
theorem witness_result : (sending.nextSend 1).map (fun q => (q.1.num, q.2.2.1)) = some (2, 1) ∧ sending.running = true ∧
    min (100 - 0) (resultRoom (sending.iface 0).mtu true) = 100 ∧ sending.idAt c0 = { ctx := 0 } ∧
    (∀ i, i < 100 → Claims.isLocal (sending.bvaLoc 1 .load (0x100 + 0 + i)) = true) ∧ (sending.groupAt c0) = some gWait := by
  decide +kernel

end Sys2Proof.Tests
end

section
/-! PROOFS. The mask stack and the branches (05 R114 to R116, 06 R146, R147): the form that each of these instructions
has, the group that it leaves, and the settlement of O11. -/

namespace Sys2Proof.Machine

/-! ### Fields of a B word -/

/-- ALL of a brm word (bit 46) lies outside the field of its mask register. -/
theorem fMA_withField_all (v : Nat) (w : Word) : fMA (withField 46 1 v w) = fMA w := by
  simp only [fMA, fld, withField, BitVec.toNat_ofNat]
  omega

/-- ALL of a brm word (bit 46) lies outside its displacement. -/
theorem fDisp_withField_all (v : Nat) (w : Word) : fDisp (withField 46 1 v w) = fDisp w := by
  have hoff : fld 0 24 (withField 46 1 v w) = fld 0 24 w := by
    simp only [fld, withField, BitVec.toNat_ofNat]
    omega
  rw [fDisp, fDisp, hoff]

/-- The model's reading of a number as two's complement is that of the bit vector of as many bits. -/
theorem signed_eq_toInt {n : Nat} (hn : 0 < n) (x : Nat) : signed n x = (BitVec.ofNat n x).toInt := by
  obtain ⟨m, rfl⟩ := Nat.exists_eq_add_of_lt hn
  simp only [signed, BitVec.toInt_eq_toNat_cond, BitVec.toNat_ofNat, Nat.zero_add, Nat.add_sub_cancel, pow_succ]
  split <;> split <;> omega

/-- A branch goes to the target of 06 R146. -/
theorem add_fDisp (g : Group) (w : Word) : g.pc + fDisp w = Claims.target g w := by
  rw [fDisp, signed_eq_toInt (by decide), Claims.target]

/-! ### The groups that mask instructions and branches leave -/

/-- The stack, the execution mask and the PC set: nothing else of the group differs, and the mask is cut to the width
(05 R114). -/
theorem maskStep_setM (g : Group) (st : List MaskEntry) (m pc : Word) :
    Claims.MaskStep g { ({ g with stack := st } : Group).setM 0 m with pc := pc } (m &&& Claims.ones g) st pc :=
  ⟨rfl, fun _ hj => tget_tset_ne _ _ _ hj, tget_tset_same .., rfl, rfl⟩

/-- An execution mask that may leave no active lane: control goes on, or to the address given where no lane is left. -/
theorem maskStep_orTo (g : Group) (st : List MaskEntry) (m t : Word) :
    Claims.MaskStep g ((({ g with stack := st } : Group).setM 0 m).orTo t) (m &&& Claims.ones g) st
      (if m &&& Claims.ones g = 0 then t else g.pc + 8) := by
  have hm : (({ g with stack := st } : Group).setM 0 m).m0 = m &&& Claims.ones g := tget_tset_same ..
  unfold Group.orTo
  rw [hm]
  split
  · exact maskStep_setM g st m t
  · exact maskStep_setM g st m (g.pc + 8)

/-- A branch taken where `p` holds moves the PC alone: to the target of its word, whatever ALL is set to, or on. -/
theorem onlyPc_branch_withField_all {p : Prop} [Decidable p] (g : Group) (v : Nat) (w : Word) {taken : Bool}
    (hp : taken = true ↔ p) :
    Claims.OnlyPc g (g.branch w taken) (if p then Claims.target g (withField 46 1 v w) else g.pc + 8) := by
  rw [← add_fDisp, fDisp_withField_all]
  unfold Claims.OnlyPc Group.branch
  by_cases h : p
  · rw [if_pos (hp.mpr h), if_pos h]
  · rw [if_neg (mt hp.mp h), if_neg h]
    rfl

/-- A branch leaves the mask registers alone. -/
theorem branch_m (g : Group) (w : Word) (taken : Bool) : (g.branch w taken).m = g.m := by
  cases taken <;> rfl

/-! ### What the forms of these instructions do when their word issues -/

section
variable {i : Instr} {s : State} {c : CoreAt} {w : Word} {k : Nat} {x : Ctx} {g : Group}

theorem groupBecomes_of_exec {h : Group} (hx : exec i s = .next (s.setGroup c h)) : Claims.GroupBecomes i s c h :=
  ⟨hx, State.groupAt_setGroup_same c h s⟩

/-- The instruction's own effect follows when its word issues. -/
theorem exec_issue {body : Body} (hx : exec i s = .next (issue c w body s)) (hi : Claims.Issues s c w k x g) :
    exec i s = .next (body k x g s) := by
  obtain ⟨hrun, hfetch, hlegal, halloc⟩ := hi
  rw [hx, issue_run body hrun hfetch hlegal halloc]

theorem issueJump_becomes {f : Group → Group} (hx : exec i s = .next (issueJump c w f s))
    (hi : Claims.Issues s c w k x g) : Claims.GroupBecomes i s c (f g) :=
  groupBecomes_of_exec (exec_issue hx hi)

theorem pushForm_becomes {f : Group → Group} (hx : exec i s = .next (pushForm c w f s))
    (hi : Claims.Issues s c w k x g) (hroom : g.stack.length < 16) : Claims.GroupBecomes i s c (f g) := by
  have hbody := exec_issue hx hi
  rw [if_neg (Nat.not_le.mpr hroom)] at hbody
  exact groupBecomes_of_exec hbody

/-- R116: a push onto a full stack is an overflow. -/
theorem pushForm_overflow {f : Group → Group} (hx : exec i s = .next (pushForm c w f s))
    (hi : Claims.Issues s c w k x g) (hfull : 16 ≤ g.stack.length) : exec i s = .next (s.coreFault c 0x03) := by
  have hbody := exec_issue hx hi
  rwa [if_pos hfull] at hbody

theorem maskForm_becomes {f : Group → MaskEntry → List MaskEntry → Group} {e : MaskEntry} {st : List MaskEntry}
    (hx : exec i s = .next (maskForm c w f s)) (hi : Claims.Issues s c w k x g) (hs : g.stack = e :: st) :
    Claims.GroupBecomes i s c (f g e st) := by
  have hbody := exec_issue hx hi
  rw [hs] at hbody
  exact groupBecomes_of_exec hbody

/-- R116: an instruction on the top entry of an empty stack is an underflow. -/
theorem maskForm_underflow {f : Group → MaskEntry → List MaskEntry → Group} (hx : exec i s = .next (maskForm c w f s))
    (hi : Claims.Issues s c w k x g) (hs : g.stack = []) : exec i s = .next (s.coreFault c 0x04) := by
  have hbody := exec_issue hx hi
  rwa [hs] at hbody

/-- R147: jr to an aligned place moves the PC there alone. -/
theorem jr_becomes {w : Rest} (hi : Claims.Issues s c (wordOf 0x85 w) k x g)
    (haligned : (g.sreg (fBSA (wordOf 0x85 w))).toNat % 8 = 0) :
    Claims.GroupBecomes (.jr c w) s c { g with pc := g.sreg (fBSA (wordOf 0x85 w)) } := by
  have hbody := exec_issue (i := .jr c w) rfl hi
  rw [if_pos haligned] at hbody
  exact groupBecomes_of_exec hbody

end

/-! ### The statement -/

/-- Settles O11: each instruction has one of the forms above, whose effect follows when its word issues, and the group it
leaves is read off the row of the table (05 R115) or the branch (06 R146). -/
theorem maskStackFollowsTheTable : Obligations.MaskStackFollowsTheTable := by
  unfold Obligations.MaskStackFollowsTheTable
  refine ⟨fun s c w k x g => ⟨?mif, ?mloop⟩,
    fun s c w k x g => ⟨?melse, ?mjoin, ?mbrk, ?mskip, ?mresume, ?underflow⟩,
    fun s c w k x g => ⟨?brmAny, ?brmAll, ?branches⟩⟩
  case mif =>
    rintro _ rfl hi
    refine ⟨?_, pushForm_overflow rfl hi⟩
    rintro hroom _ rfl
    rw [← add_fDisp]
    exact ⟨_, pushForm_becomes rfl hi hroom, maskStep_orTo g _ _ _⟩
  case mloop =>
    rintro _ rfl hi
    refine ⟨fun hroom => ?_, pushForm_overflow rfl hi⟩
    rw [← add_fDisp]
    exact ⟨_, pushForm_becomes rfl hi hroom, rfl, fun _ _ => rfl, rfl, rfl, rfl⟩
  case melse =>
    rintro _ e st rfl hi hs _ rfl
    rw [← add_fDisp]
    exact ⟨_, maskForm_becomes rfl hi hs, maskStep_orTo g _ _ _⟩
  case mjoin =>
    rintro _ e st rfl hi hs
    exact ⟨_, maskForm_becomes rfl hi hs, maskStep_setM g _ _ _⟩
  case mbrk =>
    rintro _ e st rfl hi hs _ rfl
    rw [← hs]
    exact ⟨_, maskForm_becomes rfl hi hs, maskStep_orTo g g.stack _ _⟩
  case mskip =>
    rintro _ e st rfl hi hs _ rfl
    exact ⟨_, maskForm_becomes rfl hi hs, maskStep_orTo g _ _ _⟩
  case mresume =>
    rintro _ e st rfl hi hs
    exact ⟨_, maskForm_becomes rfl hi hs, maskStep_setM g _ _ _⟩
  case underflow =>
    intro hs p hp hi
    simp only [List.mem_cons, List.not_mem_nil, or_false] at hp
    obtain rfl | rfl | rfl | rfl | rfl := hp <;> exact maskForm_underflow rfl hi hs
  case brmAny =>
    rintro _ rfl hi
    rw [fMA_withField_all]
    exact ⟨_, issueJump_becomes rfl hi, onlyPc_branch_withField_all g 0 _ bne_iff_ne⟩
  case brmAll =>
    rintro _ rfl hi
    rw [fMA_withField_all]
    exact ⟨_, issueJump_becomes rfl hi, onlyPc_branch_withField_all g 1 _ (by simp [Group.m0])⟩
  case branches =>
    rintro p hp _ rfl hi haligned
    simp only [List.mem_cons, List.not_mem_nil, or_false] at hp
    obtain rfl | rfl | rfl | rfl | rfl := hp
    · exact ⟨_, issueJump_becomes rfl hi, branch_m g _ _⟩
    · exact ⟨_, issueJump_becomes rfl hi, branch_m g _ _⟩
    · exact ⟨_, issueJump_becomes rfl hi, branch_m g _ _⟩
    · exact ⟨_, issueJump_becomes rfl hi, branch_m _ _ _⟩
    · exact ⟨_, jr_becomes hi (haligned rfl), rfl⟩

end Sys2Proof.Machine
end

section
/-! PROOFS. Branches (06 R146, R147), compares and mask functions (06 R139, R148): the words they issue, the masks they
compute, and the settlements of O10 and O7. -/

namespace Sys2Proof.Machine

/-! ### Branches -/

/-- ALL of a brm word (bit 46) plays no part in its target. -/
theorem target_withField_all (g : Group) (v : Nat) (w : Word) :
    Claims.target g (withField 46 1 v w) = Claims.target g w := by
  rw [← add_fDisp, ← add_fDisp, fDisp_withField_all]

/-- A branch taken where `p` holds moves the PC alone: to the target, or on (06 R146). -/
theorem onlyPc_branch {p : Prop} [Decidable p] (g : Group) (w : Word) {taken : Bool} (hp : taken = true ↔ p) :
    Claims.OnlyPc g (g.branch w taken) (if p then Claims.target g w else g.pc + 8) := by
  rw [← target_withField_all g 0 w]
  exact onlyPc_branch_withField_all g 0 w hp

/-- A branch that is taken moves the PC alone to the target (06 R146). -/
theorem branch_true (g : Group) (w : Word) : g.branch w true = { g with pc := Claims.target g w } :=
  (onlyPc_branch g w (iff_true_intro rfl)).trans rfl

/-- R147: jr to a place that is not aligned faults. -/
theorem jr_unaligned {s : State} {c : CoreAt} {w : Rest} {k : Nat} {x : Ctx} {g : Group}
    (hi : Claims.Issues s c (wordOf 0x85 w) k x g) (hoff : (g.sreg (fBSA (wordOf 0x85 w))).toNat % 8 ≠ 0) :
    exec (.jr c w) s = .next (s.coreFault c 0x05) := by
  have hbody := exec_issue (i := .jr c w) rfl hi
  rwa [if_neg hoff] at hbody

/-- Settles O10: a branch leaves its group with the PC alone moved, as its test says; call sets its link register first.
The two forms of brm stand in O11. -/
theorem branchesMoveThePc : Obligations.BranchesMoveThePc := by
  unfold Obligations.BranchesMoveThePc
  intro s c w k x g
  obtain ⟨-, -, hbrm⟩ := maskStackFollowsTheTable
  obtain ⟨hany, hall, -⟩ := hbrm s c w k x g
  refine ⟨?br, hany, hall, ?bz, ?bnz, ?call, ?jr⟩
  case br =>
    rintro _ rfl hi
    exact ⟨_, issueJump_becomes rfl hi, branch_true g _⟩
  case bz =>
    rintro _ rfl hi
    exact ⟨_, issueJump_becomes rfl hi, onlyPc_branch g _ beq_iff_eq⟩
  case bnz =>
    rintro _ rfl hi
    refine ⟨_, issueJump_becomes rfl hi, ?_⟩
    rw [← ite_not]
    exact onlyPc_branch g _ bne_iff_ne
  case call =>
    rintro _ rfl hi
    refine ⟨_, issueJump_becomes rfl hi, ?_⟩
    rw [branch_true]
    exact ⟨rfl, rfl, fun j => Group.sreg_setS g _ j _⟩
  case jr =>
    rintro _ rfl hi
    exact ⟨fun haligned => ⟨_, jr_becomes hi haligned, rfl⟩, jr_unaligned hi⟩

/-! ### Masks bit by bit -/

/-- The width's mask has ones below the width (05 R114). -/
theorem bitAt_widthMask (n : Nat) {t : Nat} (ht : t < 64) : bitAt t (widthMask n) = decide (t < n) := by
  rw [bitAt, widthMask, BitVec.getLsbD_ofNat, Nat.testBit_two_pow_sub_one, decide_eq_true ht, Bool.true_and]

/-- One lane more adds the bit of that lane. -/
theorem maskOf_succ (n : Nat) (p : Nat → Bool) :
    maskOf (n + 1) p = if p n then maskOf n p + BitVec.twoPow 64 n else maskOf n p := by
  simp only [maskOf, List.range_succ, List.foldl_append, List.foldl_cons, List.foldl_nil]
  split
  · rw [BitVec.ofNat_add]
    congr 1
    exact BitVec.eq_of_toNat_eq (by simp)
  · rfl

/-- The mask of a predicate has its bits below the width, and no others. -/
theorem bitAt_maskOf (n : Nat) (p : Nat → Bool) {t : Nat} (ht : t < 64) :
    bitAt t (maskOf n p) = (decide (t < n) && p t) := by
  unfold bitAt
  induction n generalizing t with
  | zero => simp [maskOf]
  | succ n ih =>
    have hdisj : maskOf n p &&& BitVec.twoPow 64 n = 0#64 := by
      refine BitVec.eq_of_getLsbD_eq fun i hi => ?_
      rw [BitVec.getLsbD_and, ih hi, BitVec.getLsbD_twoPow, BitVec.getLsbD_zero]
      by_cases hin : n = i <;> simp [hin]
    rw [maskOf_succ, BitVec.add_eq_or_of_and_eq_zero _ _ hdisj]
    have hold := ih ht
    split <;> grind

/-- Each mask function works bit by bit (06 R148). -/
theorem bitAt_maskFn {fn n t : Nat} (a b s : Word) (ht : t < 64) (hn : t < n) :
    bitAt t (maskFn fn n a b s) = Claims.mlogBit fn (bitAt t a) (bitAt t b) (bitAt t s) := by
  have hw : (widthMask n).getLsbD t = true := (bitAt_widthMask n ht).trans (decide_eq_true hn)
  unfold maskFn Claims.mlogBit bitAt
  split <;> simp [ht, hw]

/-! ### Comparisons -/

/-- The integer conditions are those of 06 R139. -/
theorem condInt_eq_holds {cond : Nat} (hc : cond ≤ 5) (a b : Int) :
    condInt cond a b = Claims.holds cond (decide (a < b)) (decide (b < a)) := by
  interval_cases cond <;> grind [condInt, Claims.holds]

/-- The float conditions are those of 06 R139. -/
theorem condNum_eq_elemCmp {cond : Nat} (hc : cond ≤ 6) (a b : Num) :
    condNum cond a b = Claims.elemCmp cond a b := by
  interval_cases cond <;> rfl

/-- One lane of a legal vcmp compares as 06 R139 says. -/
theorem laneCmp_eq_lanesCmp {m : Mods} {cond : Nat} (hc : cond ≤ 6) (hune : cond = 6 → m.ty.isFloat = true)
    (a b : Lane) : laneCmp m cond a b = Claims.lanesCmp m cond a b := by
  obtain ⟨ty, sat, negA, negC⟩ := m
  have hint : ty.isFloat = false → cond ≤ 5 := fun hty =>
    Nat.lt_succ_iff.mp (lt_of_le_of_ne hc fun h => Bool.false_ne_true (hty.symm.trans (hune h)))
  cases ty with
  | u32 => exact condInt_eq_holds (hint rfl) _ _
  | s32 => exact condInt_eq_holds (hint rfl) _ _
  | f32 | bf16x2 | f16x2 =>
    simp [laneCmp, half, condNum_eq_elemCmp hc, Claims.lanesCmp, Claims.elemsOf, Claims.elem, Claims.fmtOfTy, negIf,
      ElTy.isFloat]

/-! ### What a legal word says of its fields -/

/-- The opcode of a command's word. -/
theorem opc_wordOf (op : Nat) (w : Rest) : opc (wordOf op w) = op % 256 := by
  have hw := w.isLt
  simp only [opc, fld, wordOf, BitVec.toNat_ofNat]
  omega

/-- Fields above MFN (bits [27:24]) do not depend on it. -/
theorem fld_withField_mfn {lo : Nat} (hlo : 28 ≤ lo) (n v : Nat) (w : Word) :
    fld lo n (withField 24 4 v w) = fld lo n w := by
  have htop : (withField 24 4 v w).toNat / 2 ^ 28 = w.toNat / 2 ^ 28 := by
    simp only [fld, withField, BitVec.toNat_ofNat]
    omega
  obtain ⟨k, rfl⟩ := Nat.exists_eq_add_of_le hlo
  rw [fld, fld, pow_add, ← Nat.div_div_eq_div_mul, ← Nat.div_div_eq_div_mul, htop]

/-- MFN holds what it was set to. -/
theorem fMfn_withField_mfn (v : Nat) (w : Word) : fMfn (withField 24 4 v w) = v % 16 := by
  simp only [fMfn, fld, withField, BitVec.toNat_ofNat]
  omega

/-- A legal vcmp word names a mask register but m0 and a condition, une for floats alone (06 R139). -/
theorem legalWord_vcmp {n : Nat} {W : Word} (hop : opc W = 0x10) (hl : legalWord n W = true) :
    1 ≤ fVD W ∧ fVD W ≤ 7 ∧ fld 12 4 W ≤ 6 ∧ (fld 12 4 W = 6 → (modsVV W).ty.isFloat = true) := by
  simp only [legalWord, hop, legalVV, Nat.reduceLT, if_true, Bool.and_eq_true, Bool.or_eq_true,
    decide_eq_true_eq, bne_iff_ne] at hl
  obtain ⟨-, ⟨⟨-, ⟨⟨hlo, hhi⟩, hcond⟩, hune⟩, -⟩, -⟩ := hl
  exact ⟨hlo, Nat.le_of_lt_succ hhi, hcond, hune.resolve_left ∘ not_not_intro⟩

/-- A legal mlog word names a destination but m0 where its function writes a mask, and none where it is mm2s (06 R148). -/
theorem legalWord_mlog {n : Nat} {W : Word} (hop : opc W = 0x8F) (hl : legalWord n W = true) :
    if fMfn W = 7 then fMD W = 0 else fMD W ≠ 0 := by
  simp only [legalWord, hop, legalB, Nat.reduceLT, if_true, if_false, Bool.and_eq_true] at hl
  obtain ⟨-, hl⟩ := hl
  by_cases h7 : fMfn W = 7
  · rw [if_pos h7]
    simp_all
  · rw [if_neg h7]
    split_ifs at hl <;> simp_all

/-- The same for a word whose function its command sets. -/
theorem legalWord_mlog_mfn {n fn : Nat} {w : Rest} (hl : legalWord n (withField 24 4 fn (wordOf 0x8F w)) = true)
    (hfn : fn < 16) :
    if fn = 7 then fMD (withField 24 4 fn (wordOf 0x8F w)) = 0 else fMD (withField 24 4 fn (wordOf 0x8F w)) ≠ 0 := by
  have hop : opc (withField 24 4 fn (wordOf 0x8F w)) = 0x8F := by
    rw [opc, fld_withField_mfn (by decide)]
    exact opc_wordOf 0x8F w
  have h := legalWord_mlog hop hl
  rwa [fMfn_withField_mfn, Nat.mod_eq_of_lt hfn] at h

/-! ### What the mask and scalar results leave -/

/-- A mask register written: nothing else changes, and its bits from the width on are 0 (05 R114). -/
theorem onlyM_setM (g : Group) (r : Nat) {m : Word} {p : Nat → Bool}
    (hm : ∀ t, t < 64 → t < g.width → bitAt t m = p t) : Claims.OnlyM g (g.setM r m).advance r p := by
  refine ⟨rfl, fun j hj => tget_tset_ne _ _ _ hj, rfl, fun t ht => ?_⟩
  rw [Group.advance_mreg, Group.mreg_setM, if_pos rfl]
  have hcut : bitAt t (m &&& widthMask g.width) = (bitAt t m && decide (t < g.width)) := by
    rw [← bitAt_widthMask g.width ht]
    exact BitVec.getLsbD_and ..
  by_cases hw : t < g.width
  · simp [hcut, hw, hm t ht hw]
  · simp [hcut, hw]

/-- A scalar register written: nothing else changes. -/
theorem onlyS_setS (g : Group) (r : Nat) (v : Word) : Claims.OnlyS g (g.setS r v).advance r v :=
  ⟨rfl, fun j => Group.sreg_setS g r j v, rfl⟩

section
variable {i : Instr} {s : State} {c : CoreAt} {W : Word} {k : Nat} {x : Ctx} {g : Group}

theorem issueGroup_becomes {f : Group → Group} (hx : exec i s = .next (issueGroup c W f s))
    (hi : Claims.Issues s c W k x g) : Claims.GroupBecomes i s c (f g).advance :=
  issueJump_becomes (f := fun g => (f g).advance) hx hi

/-- The mask functions of mlog, all alike: the mask that results is that of 06 R148. -/
theorem mlogForm_becomes {fn : Nat} (hx : exec i s = .next (mlogForm c W fn s)) (hi : Claims.Issues s c W k x g) :
    ∃ h, Claims.GroupBecomes i s c h ∧ Claims.OnlyM g h (fMD W) fun t =>
      Claims.mlogBit fn (bitAt t (g.mreg (fMA W))) (bitAt t (g.mreg (fMB W))) (bitAt t (g.sreg (fBSA W))) :=
  ⟨_, issueGroup_becomes hx hi, onlyM_setM g _ fun _ ht hw => bitAt_maskFn _ _ _ ht hw⟩

end

/-! ### The statement -/

/-- Settles O7: vcmp, the forms of mlog and mm2s each write one register, the encoding check gives what 06 R139 and R148
ask of the word, and the masks are compared bit by bit. -/
theorem comparesAndMaskFunctionsWriteMasks : Obligations.ComparesAndMaskFunctionsWriteMasks := by
  unfold Obligations.ComparesAndMaskFunctionsWriteMasks
  refine ⟨?vcmp, fun s c w k x g => ⟨?mlog, ?mm2s⟩⟩
  case vcmp =>
    rintro s c w k x g _ rfl hi
    have ⟨_, _, hlegal, _⟩ := hi
    obtain ⟨hlo, hhi, hcond, hune⟩ := legalWord_vcmp (opc_wordOf 0x10 w) hlegal
    refine ⟨hlo, hhi, hcond, hune, _, issueGroup_becomes rfl hi, onlyM_setM g _ fun t ht hw => ?_⟩
    rw [bitAt_maskOf _ _ ht, laneCmp_eq_lanesCmp hcond hune, Group.active, Group.m0]
    simp only [hw, decide_true, Bool.true_and]
  case mlog =>
    rintro r hr _ rfl hi
    have ⟨_, _, hlegal, _⟩ := hi
    simp only [Claims.mlogRows, List.mem_cons, List.not_mem_nil, or_false] at hr
    obtain rfl | rfl | rfl | rfl | rfl | rfl | rfl := hr <;>
      exact ⟨legalWord_mlog_mfn hlegal (by decide), mlogForm_becomes rfl hi⟩
  case mm2s =>
    rintro _ rfl hi
    have ⟨_, _, hlegal, _⟩ := hi
    rw [fBSA, fMA, fld_withField_mfn (by decide), fld_withField_mfn (by decide)]
    exact ⟨legalWord_mlog_mfn hlegal (by decide), _, issueGroup_becomes rfl hi, onlyS_setS g _ _⟩

end Sys2Proof.Machine
end
